-- ==== Sys2Proof/Word.lean ====
section
/-! DEFINITION. The plain data types every other file names: bytes, 32-bit words, and the exact
numbers of the audio engine. Types only: every operation on them stands in a file of `Machine/`. -/

namespace Sys2Proof

/-- One byte of a bit store, or one 8-bit sample of a plane (R100, R108). -/
abbrev Byte := BitVec 8

/-- A 32-bit word: a control and status register, a response word, a host read (R118, R1152). -/
abbrev Word := BitVec 32

/-- An exact real number of the audio engine before windowing (R1008, R1101): a finite sum of
rational multiples of `cos (c * pi / 64) * 2 ^ (t / 3)` with `c < 32` and `t < 3`. An entry
`(3 * c + t, q)` is the summand with coefficient `q`; the keys rise strictly and no coefficient is 0.
The 96 products are linearly independent over the rationals, so equal numbers are equal lists. -/
abbrev Surd := List (Nat × Rat)

/-- An exact output sample (R1102): a sum of products `D[n] * x` of an entry of the synthesis window
with an exact number. An entry `(n, x)` is the summand with the window entry `n`; the keys rise
strictly and no `x` is 0. The window is the OPEN parameter SYNTH_WINDOW (R343), so `D[n]` stays a
symbol here: one such sum gives the sample for every window. -/
abbrev WindowSum := List (Nat × Surd)

end Sys2Proof
end

