-- ==== Sys2Proof/Config.lean ====
section
/-! DEFINITION. What the spec leaves OPEN or UNSPECIFIED (R7, R12, and the open-parameter table of
92_eei_decisions.md). Every value here is an `opaque` constant without a body: nothing can be proved
of it, so a claim of the model holds whatever it is. -/

namespace Sys2Proof.Config

/-- The two values of JS_SHARE_MODE (R7, R1009, decision D32). -/
inductive JsShareMode where
  /-- Channel 1 of a shared subband requantizes the same codes with its own scalefactor. -/
  | isoPerChannel
  /-- Channel 1 of a shared subband copies channel 0's samples. -/
  | copyCh0
  deriving DecidableEq, Repr, Inhabited

/-- JS_SHARE_MODE (R1009, D32): OPEN, fixed for the machine. -/
opaque jsShareMode : JsShareMode

/-- The part of BITSTORE_CAPACITY above its stated lower bound (R7, D2): OPEN. -/
opaque capacityBeyondMinimum : Nat

/-- The lower bound D2 puts on BITSTORE_CAPACITY: the largest MP2 frame body and its header with CRC. -/
def minimumCapacity : Nat := 1725 + 6

/-- BITSTORE_CAPACITY in bytes (R7, R1153, D2). -/
def bitstoreCapacity : Nat := capacityBeyondMinimum + minimumCapacity

/-- What sample `i` of plane `p` (0 Y, 1 Cb, 2 Cr) of frame buffer `f` reads as while no rule has
written it: UNSPECIFIED (R108, R1301, D7), a free value. -/
opaque unwrittenSample (f p i : Nat) : Byte

/-- SYNTH_WINDOW (R343, R1102, R1104, D33): entry `D[n]` of the synthesis window, `n` of 0..511. OPEN.
DEDUCED (log entry 7): an entry is a rational number, as every entry of a written table is. -/
opaque synthWindow (n : Nat) : Rat

/-- What `V.macroblock_address` holds after it is given an address beyond its signed 32 bits (R106, R605),
by the address: the spec states no result, a free value (log entry 29). -/
opaque addressBeyond (x : Int) : Word

end Sys2Proof.Config
end

