-- ==== Sys2Proof/Syntax.lean ====
section
/-! DEFINITION. The abstract syntax: one constructor of `Instr` per row of spec/opcode_table.json
(R304), the records of operands the longer rows carry, a host command as the host issues it
(R1151, R1163), and the syntax positions that select a row's table (R313, R314). -/

namespace Sys2Proof

/-- The operands of `SEQUENCE_HEADER` (R310). A matrix is listed in transmission (zigzag) order. -/
structure SequenceHeader where
  horizontalSize : BitVec 12
  verticalSize : BitVec 12
  pelAspectRatio : BitVec 4
  pictureRate : BitVec 4
  bitRate : BitVec 18
  marker : Bool
  vbvBufferSize : BitVec 10
  constrainedParameters : Bool
  intraMatrix : Option (List Byte)
  nonIntraMatrix : Option (List Byte)
  deriving DecidableEq, Repr

/-- A full-pel flag with its `f_code`, the pair a picture header gives per direction (R311). -/
structure VectorCode where
  fullPel : Bool
  fCode : BitVec 3
  deriving DecidableEq, Repr

/-- The operands of `PICTURE_HEADER` (R311). -/
structure PictureHeader where
  temporalReference : BitVec 10
  codingType : BitVec 3
  vbvDelay : BitVec 16
  forward : Option VectorCode
  backward : Option VectorCode
  deriving DecidableEq, Repr

/-- The operands of `SLICE_HEADER` (R312): the scale and the extra information bytes. -/
structure SliceHeader where
  quantizerScale : BitVec 5
  extra : List Byte
  deriving DecidableEq, Repr

/-- The operands of `MP2_HEADER` (R318): an accepted version and layer, so neither is listed. -/
structure Mp2Header where
  protection : Bool
  bitrateIndex : BitVec 4
  samplingFrequency : BitVec 2
  padding : Bool
  privateBit : Bool
  mode : BitVec 2
  modeExtension : BitVec 2
  copyright : Bool
  original : Bool
  emphasis : BitVec 2
  crc : Option (BitVec 16)
  deriving DecidableEq, Repr

/-- The operands of `MP2_SYNC_OTHER` (R318, R904): a syncword with another version or layer. -/
structure Mp2SyncOther where
  version : BitVec 2
  layer : BitVec 2
  protection : Bool
  rest : BitVec 16
  deriving DecidableEq, Repr

/-- A host command as it reaches the block (R1163): the 8-bit code, and the operands that travel with
it as separate values, in the order of R1151 (a byte sequence, then up to two numbers). -/
structure HostCommand where
  code : Byte
  bytes : List Byte
  first : Nat
  second : Nat
  deriving DecidableEq, Repr

/-- What the cursor of an engine stands before (R313, R314, R318): the position, not the bits, selects
the table a row is looked up in (R304). -/
inductive SyntaxPosition where
  | startCode | sequenceHeader | pictureHeader | sliceHeader | mp2Header
  | addressIncrement | typeI | typeP | typeB | codedBlockPattern | motionCode
  | dcSizeY | dcSizeC | firstCoefficient | nextCoefficient
  deriving DecidableEq, Repr

/-- The instructions: the rows of spec/opcode_table.json, format by format, the formats whose rows carry
operands first (the runtime bounds the number of a constructor with fields). `s` is a sign bit (R300),
`r` and `l` the run and level bytes of an escape (R315). -/
inductive Instr where
  -- the host commands (R1163)
  | vwrite (b : List Byte) | vsignalEnd | vdecode | vrewind | vframeRead (p i : Nat)
  | awrite (b : List Byte) | asignalEnd | adecode | arewind | asamplesRead (n : Nat)
  | csrRead (r : Nat) | csrWrite (r : Nat) (v : Word)
  -- the start codes (R302)
  | pictureStart | userDataStart | sequenceHeaderStart | sequenceError | extensionStart
  | sequenceEnd | groupStart | reservedB0 | reservedB1 | reservedB6 | iso11172End | packStart
  | systemHeaderStart | sliceStart (v : Byte) | streamIdStart (v : Byte)
  -- the video headers (R310-R312)
  | sequenceHeader (h : SequenceHeader) | pictureHeader (h : PictureHeader)
  | sliceHeader (h : SliceHeader)
  -- the MP2 headers (R318)
  | mp2Header (h : Mp2Header) | mp2SyncOther (h : Mp2SyncOther)
  -- table MOTION (R323)
  | motion0 | motion1 (s : Bool) | motion2 (s : Bool) | motion3 (s : Bool)
  | motion4 (s : Bool) | motion5 (s : Bool) | motion6 (s : Bool) | motion7 (s : Bool)
  | motion8 (s : Bool) | motion9 (s : Bool) | motion10 (s : Bool) | motion11 (s : Bool)
  | motion12 (s : Bool) | motion13 (s : Bool) | motion14 (s : Bool) | motion15 (s : Bool)
  | motion16 (s : Bool)
  -- table DCT (R325)
  | dctEob | dctFirstR0L1 (s : Bool) | dctNextR0L1 (s : Bool) | dctEscape | dctR1L1 (s : Bool)
  | dctR0L2 (s : Bool) | dctR2L1 (s : Bool) | dctR0L3 (s : Bool) | dctR3L1 (s : Bool)
  | dctR4L1 (s : Bool) | dctR1L2 (s : Bool) | dctR5L1 (s : Bool) | dctR6L1 (s : Bool)
  | dctR7L1 (s : Bool) | dctR0L4 (s : Bool) | dctR2L2 (s : Bool) | dctR8L1 (s : Bool)
  | dctR9L1 (s : Bool) | dctR0L5 (s : Bool) | dctR0L6 (s : Bool) | dctR1L3 (s : Bool)
  | dctR3L2 (s : Bool) | dctR10L1 (s : Bool) | dctR11L1 (s : Bool) | dctR12L1 (s : Bool)
  | dctR13L1 (s : Bool) | dctR0L7 (s : Bool) | dctR1L4 (s : Bool) | dctR2L3 (s : Bool)
  | dctR4L2 (s : Bool) | dctR5L2 (s : Bool) | dctR14L1 (s : Bool) | dctR15L1 (s : Bool)
  | dctR16L1 (s : Bool) | dctR0L8 (s : Bool) | dctR0L9 (s : Bool) | dctR0L10 (s : Bool)
  | dctR0L11 (s : Bool) | dctR1L5 (s : Bool) | dctR2L4 (s : Bool) | dctR3L3 (s : Bool)
  | dctR4L3 (s : Bool) | dctR6L2 (s : Bool) | dctR7L2 (s : Bool) | dctR8L2 (s : Bool)
  | dctR17L1 (s : Bool) | dctR18L1 (s : Bool) | dctR19L1 (s : Bool) | dctR20L1 (s : Bool)
  | dctR21L1 (s : Bool) | dctR0L12 (s : Bool) | dctR0L13 (s : Bool) | dctR0L14 (s : Bool)
  | dctR0L15 (s : Bool) | dctR1L6 (s : Bool) | dctR1L7 (s : Bool) | dctR2L5 (s : Bool)
  | dctR3L4 (s : Bool) | dctR5L3 (s : Bool) | dctR9L2 (s : Bool) | dctR10L2 (s : Bool)
  | dctR22L1 (s : Bool) | dctR23L1 (s : Bool) | dctR24L1 (s : Bool) | dctR25L1 (s : Bool)
  | dctR26L1 (s : Bool) | dctR0L16 (s : Bool) | dctR0L17 (s : Bool) | dctR0L18 (s : Bool)
  | dctR0L19 (s : Bool) | dctR0L20 (s : Bool) | dctR0L21 (s : Bool) | dctR0L22 (s : Bool)
  | dctR0L23 (s : Bool) | dctR0L24 (s : Bool) | dctR0L25 (s : Bool) | dctR0L26 (s : Bool)
  | dctR0L27 (s : Bool) | dctR0L28 (s : Bool) | dctR0L29 (s : Bool) | dctR0L30 (s : Bool)
  | dctR0L31 (s : Bool) | dctR0L32 (s : Bool) | dctR0L33 (s : Bool) | dctR0L34 (s : Bool)
  | dctR0L35 (s : Bool) | dctR0L36 (s : Bool) | dctR0L37 (s : Bool) | dctR0L38 (s : Bool)
  | dctR0L39 (s : Bool) | dctR0L40 (s : Bool) | dctR1L8 (s : Bool) | dctR1L9 (s : Bool)
  | dctR1L10 (s : Bool) | dctR1L11 (s : Bool) | dctR1L12 (s : Bool) | dctR1L13 (s : Bool)
  | dctR1L14 (s : Bool) | dctR1L15 (s : Bool) | dctR1L16 (s : Bool) | dctR1L17 (s : Bool)
  | dctR1L18 (s : Bool) | dctR6L3 (s : Bool) | dctR11L2 (s : Bool) | dctR12L2 (s : Bool)
  | dctR13L2 (s : Bool) | dctR14L2 (s : Bool) | dctR15L2 (s : Bool) | dctR16L2 (s : Bool)
  | dctR27L1 (s : Bool) | dctR28L1 (s : Bool) | dctR29L1 (s : Bool) | dctR30L1 (s : Bool)
  | dctR31L1 (s : Bool) | dctEscapeShort (r : BitVec 6) (l : Byte)
  | dctEscapeLongPos (r : BitVec 6) (l : Byte) | dctEscapeLongNeg (r : BitVec 6) (l : Byte)
  -- table MBA (R320)
  | mba1 | mba2 | mba3 | mba4 | mba5 | mba6 | mba7 | mba8 | mba9 | mba10 | mba11 | mba12
  | mba13 | mba14 | mba15 | mba16 | mba17 | mba18 | mba19 | mba20 | mba21 | mba22 | mba23
  | mba24 | mba25 | mba26 | mba27 | mba28 | mba29 | mba30 | mba31 | mba32 | mba33
  | mbaStuffing | mbaEscape
  -- table MBT_I (R321)
  | mbtI01 | mbtI11
  -- table MBT_P (R321)
  | mbtP0A | mbtP02 | mbtP08 | mbtP01 | mbtP1A | mbtP12 | mbtP11
  -- table MBT_B (R321)
  | mbtB0C | mbtB0E | mbtB04 | mbtB06 | mbtB08 | mbtB0A | mbtB01 | mbtB1E | mbtB1A | mbtB16
  | mbtB11
  -- table CBP (R322)
  | cbp60 | cbp4 | cbp8 | cbp16 | cbp32 | cbp12 | cbp48 | cbp20 | cbp40 | cbp28 | cbp44
  | cbp52 | cbp56 | cbp1 | cbp61 | cbp2 | cbp62 | cbp24 | cbp36 | cbp3 | cbp63 | cbp5 | cbp9
  | cbp17 | cbp33 | cbp6 | cbp10 | cbp18 | cbp34 | cbp7 | cbp11 | cbp19 | cbp35 | cbp13
  | cbp49 | cbp21 | cbp41 | cbp14 | cbp50 | cbp22 | cbp42 | cbp15 | cbp51 | cbp23 | cbp43
  | cbp25 | cbp37 | cbp26 | cbp38 | cbp29 | cbp45 | cbp53 | cbp57 | cbp30 | cbp46 | cbp54
  | cbp58 | cbp31 | cbp47 | cbp55 | cbp59 | cbp27 | cbp39
  -- table DCT_DC_Y (R324)
  | dcSizeY0 | dcSizeY1 | dcSizeY2 | dcSizeY3 | dcSizeY4 | dcSizeY5 | dcSizeY6 | dcSizeY7
  | dcSizeY8
  -- table DCT_DC_C (R324)
  | dcSizeC0 | dcSizeC1 | dcSizeC2 | dcSizeC3 | dcSizeC4 | dcSizeC5 | dcSizeC6 | dcSizeC7
  | dcSizeC8
  -- the reserved prefixes (R326)
  | mbaReserved1 | mbaReserved2 | mbaReserved3 | mbaReserved4 | mbaReserved5 | mbaReserved6
  | mbtIReserved | mbtPReserved | mbtBReserved | cbpReserved | motionReserved1
  | motionReserved2 | dctDcYReserved | dctDcCReserved | dctReserved
  deriving DecidableEq, Repr

end Sys2Proof
end

