-- ==== Sys2Proof/WellFormed.lean ====
section
/-! DEFINITION. Which operand values an encoding of 30_encoding.md admits (R302, R310-R315, R318).
Every other combination of operands is encoded by no word of the row. -/

namespace Sys2Proof

/-- A quantizer matrix in a sequence header has 64 entries (R310). -/
def SequenceHeader.wellFormed (h : SequenceHeader) : Bool :=
  (h.intraMatrix.all fun m => m.length == 64) && (h.nonIntraMatrix.all fun m => m.length == 64)

/-- The vector codes are present exactly for the picture types R311 names. -/
def PictureHeader.wellFormed (h : PictureHeader) : Bool :=
  (h.forward.isSome == (h.codingType == 2 || h.codingType == 3)) &&
    (h.backward.isSome == (h.codingType == 3))

/-- The CRC word is present exactly when the protection bit is 0 (R318). -/
def Mp2Header.wellFormed (h : Mp2Header) : Bool := h.crc.isSome == !h.protection

/-- `MP2_SYNC_OTHER` is any version and layer but the accepted pair 3 and 2 (R318, R904). -/
def Mp2SyncOther.wellFormed (h : Mp2SyncOther) : Bool := !(h.version == 3 && h.layer == 2)

/-- An instruction whose operands its encoding admits. -/
def Instr.wellFormed : Instr → Bool
  | .sliceStart v => decide (1 ≤ v.toNat) && decide (v.toNat ≤ 0xAF)
  | .streamIdStart v => decide (0xBC ≤ v.toNat)
  | .sequenceHeader h => h.wellFormed
  | .pictureHeader h => h.wellFormed
  | .mp2Header h => h.wellFormed
  | .mp2SyncOther h => h.wellFormed
  | .dctEscapeShort _ l => !(l == 0 || l == 128)
  | _ => true

end Sys2Proof
end

