-- ==== Sys2Proof/Decode.lean ====
section
/-! DEFINITION. The decoder and, after it, the encoder, both written from the tables and layouts of
30_encoding.md. The decoder is total on any list of bits and refuses by name. A list of bits is the
stream from the cursor on, first-transmitted bit first (R8, R300). A field the list is too short for
reads as 0 and takes no bit, which is the under-run rule of `read` (R403); a codeword is read bit by
bit, so bits past the end read as 0 (R404, R409). -/

namespace Sys2Proof

/-- Why a decoder refuses. -/
inductive DecodeError where
  /-- The command code is not in the table of R1163. -/
  | unassignedCommand
  /-- The four bytes at the cursor are no start code (R302). -/
  | noStartCode
  /-- The 11 bits at the cursor are not the MP2 syncword (R902). -/
  | noSyncword
  /-- No codeword and no reserved prefix of the table matches; the Kraft sum of every table with its
  reserved prefixes is 1 (R304), so no list of bits gets here. -/
  | noCodeword
  deriving DecidableEq, Repr

/-! ### Bits and numbers -/

/-- The unsigned number of a list of bits, first bit most significant (R8, R403). -/
def natOfBits (bits : List Bool) : Nat := bits.foldl (fun a b => 2 * a + b.toNat) 0

/-- The low `n` bits of `v`, most significant first (R300). -/
def bitsOfNat : Nat → Nat → List Bool
  | 0, _ => []
  | n + 1, v => v.testBit n :: bitsOfNat n v

/-- The bits of a fixed-width field (R300). -/
def bitsOf (v : BitVec w) : List Bool := bitsOfNat w v.toNat

/-- The first `n` bits of a list, 0 bits standing for those past its end. -/
def padTake : Nat → List Bool → List Bool
  | 0, _ => []
  | n + 1, [] => false :: padTake n []
  | n + 1, b :: t => b :: padTake n t

/-- An `n`-bit field as `read(n)` gives it (R403): 0, with nothing taken, where the bits are too few. -/
def takeField (n : Nat) (bits : List Bool) : Nat × List Bool :=
  if n ≤ bits.length then (natOfBits (bits.take n), bits.drop n) else (0, bits)

/-- `takeField` into a register of the field's width. -/
def takeBits (n : Nat) (bits : List Bool) : BitVec n × List Bool :=
  let (v, rest) := takeField n bits
  (BitVec.ofNat n v, rest)

/-- `read1()` as a truth value (R404). -/
def takeFlag (bits : List Bool) : Bool × List Bool :=
  let (v, rest) := takeField 1 bits
  (v == 1, rest)

/-- `n` bytes in a row, each read by `read(8)`. -/
def takeBytes : Nat → List Bool → List Byte × List Bool
  | 0, bits => ([], bits)
  | n + 1, bits =>
    let (b, rest) := takeBits 8 bits
    let (bs, rest) := takeBytes n rest
    (b :: bs, rest)

/-! ### The VLC tables (R320-R326) -/

/-- One row of a VLC table: the codeword (`len` bits of value `code`, first bit most significant), what
the walk returns for it (`none` for a reserved prefix, R326), whether a sign bit follows, and the
instruction, given the sign bit. -/
structure VlcRow where
  len : Nat
  code : Nat
  value : Option Nat
  signed : Bool
  make : Bool → Instr

/-- A codeword without a sign bit. -/
def codeword (len code value : Nat) (i : Instr) : VlcRow := ⟨len, code, some value, false, fun _ => i⟩

/-- A codeword that a sign bit follows. -/
def signedCodeword (len code value : Nat) (i : Bool → Instr) : VlcRow :=
  ⟨len, code, some value, true, i⟩

/-- A reserved prefix (R326). -/
def reservedPrefix (len code : Nat) (i : Instr) : VlcRow := ⟨len, code, none, false, fun _ => i⟩

/-- The row's codeword stands at the front of the bits. -/
def VlcRow.atFront (r : VlcRow) (bits : List Bool) : Bool :=
  natOfBits (padTake r.len bits) == r.code

/-- Table MBA (R320): the value is the increment, 34 stuffing, 35 escape. -/
def mbaTable : List VlcRow := [
  codeword 1 0b1 1 .mba1,
  codeword 3 0b011 2 .mba2,
  codeword 3 0b010 3 .mba3,
  codeword 4 0b0011 4 .mba4,
  codeword 4 0b0010 5 .mba5,
  codeword 5 0b00011 6 .mba6,
  codeword 5 0b00010 7 .mba7,
  codeword 7 0b0000111 8 .mba8,
  codeword 7 0b0000110 9 .mba9,
  codeword 8 0b00001011 10 .mba10,
  codeword 8 0b00001010 11 .mba11,
  codeword 8 0b00001001 12 .mba12,
  codeword 8 0b00001000 13 .mba13,
  codeword 8 0b00000111 14 .mba14,
  codeword 8 0b00000110 15 .mba15,
  codeword 10 0b0000010111 16 .mba16,
  codeword 10 0b0000010110 17 .mba17,
  codeword 10 0b0000010101 18 .mba18,
  codeword 10 0b0000010100 19 .mba19,
  codeword 10 0b0000010011 20 .mba20,
  codeword 10 0b0000010010 21 .mba21,
  codeword 11 0b00000100011 22 .mba22,
  codeword 11 0b00000100010 23 .mba23,
  codeword 11 0b00000100001 24 .mba24,
  codeword 11 0b00000100000 25 .mba25,
  codeword 11 0b00000011111 26 .mba26,
  codeword 11 0b00000011110 27 .mba27,
  codeword 11 0b00000011101 28 .mba28,
  codeword 11 0b00000011100 29 .mba29,
  codeword 11 0b00000011011 30 .mba30,
  codeword 11 0b00000011010 31 .mba31,
  codeword 11 0b00000011001 32 .mba32,
  codeword 11 0b00000011000 33 .mba33,
  codeword 11 0b00000001111 34 .mbaStuffing,
  codeword 11 0b00000001000 35 .mbaEscape,
  reservedPrefix 8 0b00000000 .mbaReserved1,
  reservedPrefix 11 0b00000001001 .mbaReserved2,
  reservedPrefix 10 0b0000000101 .mbaReserved3,
  reservedPrefix 10 0b0000000110 .mbaReserved4,
  reservedPrefix 11 0b00000001110 .mbaReserved5,
  reservedPrefix 8 0b00000010 .mbaReserved6]

/-- Table MBT_I (R321): the value is the flag mask. -/
def mbtITable : List VlcRow := [
  codeword 1 0b1 0x01 .mbtI01,
  codeword 2 0b01 0x11 .mbtI11,
  reservedPrefix 2 0b00 .mbtIReserved]

/-- Table MBT_P (R321): the value is the flag mask. -/
def mbtPTable : List VlcRow := [
  codeword 1 0b1 0x0A .mbtP0A,
  codeword 2 0b01 0x02 .mbtP02,
  codeword 3 0b001 0x08 .mbtP08,
  codeword 5 0b00011 0x01 .mbtP01,
  codeword 5 0b00010 0x1A .mbtP1A,
  codeword 5 0b00001 0x12 .mbtP12,
  codeword 6 0b000001 0x11 .mbtP11,
  reservedPrefix 6 0b000000 .mbtPReserved]

/-- Table MBT_B (R321): the value is the flag mask. -/
def mbtBTable : List VlcRow := [
  codeword 2 0b10 0x0C .mbtB0C,
  codeword 2 0b11 0x0E .mbtB0E,
  codeword 3 0b010 0x04 .mbtB04,
  codeword 3 0b011 0x06 .mbtB06,
  codeword 4 0b0010 0x08 .mbtB08,
  codeword 4 0b0011 0x0A .mbtB0A,
  codeword 5 0b00011 0x01 .mbtB01,
  codeword 5 0b00010 0x1E .mbtB1E,
  codeword 6 0b000011 0x1A .mbtB1A,
  codeword 6 0b000010 0x16 .mbtB16,
  codeword 6 0b000001 0x11 .mbtB11,
  reservedPrefix 6 0b000000 .mbtBReserved]

/-- Table CBP (R322), the codewords of up to 7 bits: the value is the pattern. -/
def cbpShort : List VlcRow := [
  codeword 3 0b111 60 .cbp60,
  codeword 4 0b1101 4 .cbp4,
  codeword 4 0b1100 8 .cbp8,
  codeword 4 0b1011 16 .cbp16,
  codeword 4 0b1010 32 .cbp32,
  codeword 5 0b10011 12 .cbp12,
  codeword 5 0b10010 48 .cbp48,
  codeword 5 0b10001 20 .cbp20,
  codeword 5 0b10000 40 .cbp40,
  codeword 5 0b01111 28 .cbp28,
  codeword 5 0b01110 44 .cbp44,
  codeword 5 0b01101 52 .cbp52,
  codeword 5 0b01100 56 .cbp56,
  codeword 5 0b01011 1 .cbp1,
  codeword 5 0b01010 61 .cbp61,
  codeword 5 0b01001 2 .cbp2,
  codeword 5 0b01000 62 .cbp62,
  codeword 6 0b001111 24 .cbp24,
  codeword 6 0b001110 36 .cbp36,
  codeword 6 0b001101 3 .cbp3,
  codeword 6 0b001100 63 .cbp63,
  codeword 7 0b0010111 5 .cbp5,
  codeword 7 0b0010110 9 .cbp9,
  codeword 7 0b0010101 17 .cbp17,
  codeword 7 0b0010100 33 .cbp33,
  codeword 7 0b0010011 6 .cbp6,
  codeword 7 0b0010010 10 .cbp10,
  codeword 7 0b0010001 18 .cbp18,
  codeword 7 0b0010000 34 .cbp34]

/-- Table CBP (R322), the codewords of 8 and 9 bits, and the reserved prefix. -/
def cbpLong : List VlcRow := [
  codeword 8 0b00011111 7 .cbp7,
  codeword 8 0b00011110 11 .cbp11,
  codeword 8 0b00011101 19 .cbp19,
  codeword 8 0b00011100 35 .cbp35,
  codeword 8 0b00011011 13 .cbp13,
  codeword 8 0b00011010 49 .cbp49,
  codeword 8 0b00011001 21 .cbp21,
  codeword 8 0b00011000 41 .cbp41,
  codeword 8 0b00010111 14 .cbp14,
  codeword 8 0b00010110 50 .cbp50,
  codeword 8 0b00010101 22 .cbp22,
  codeword 8 0b00010100 42 .cbp42,
  codeword 8 0b00010011 15 .cbp15,
  codeword 8 0b00010010 51 .cbp51,
  codeword 8 0b00010001 23 .cbp23,
  codeword 8 0b00010000 43 .cbp43,
  codeword 8 0b00001111 25 .cbp25,
  codeword 8 0b00001110 37 .cbp37,
  codeword 8 0b00001101 26 .cbp26,
  codeword 8 0b00001100 38 .cbp38,
  codeword 8 0b00001011 29 .cbp29,
  codeword 8 0b00001010 45 .cbp45,
  codeword 8 0b00001001 53 .cbp53,
  codeword 8 0b00001000 57 .cbp57,
  codeword 8 0b00000111 30 .cbp30,
  codeword 8 0b00000110 46 .cbp46,
  codeword 8 0b00000101 54 .cbp54,
  codeword 8 0b00000100 58 .cbp58,
  codeword 9 0b000000111 31 .cbp31,
  codeword 9 0b000000110 47 .cbp47,
  codeword 9 0b000000101 55 .cbp55,
  codeword 9 0b000000100 59 .cbp59,
  codeword 9 0b000000011 27 .cbp27,
  codeword 9 0b000000010 39 .cbp39,
  reservedPrefix 8 0b00000000 .cbpReserved]

/-- Table CBP (R322). -/
def cbpTable : List VlcRow := cbpShort ++ cbpLong

/-- Table MOTION (R323): the value is the magnitude, the sign bit part of the codeword. -/
def motionTable : List VlcRow := [
  codeword 1 0b1 0 .motion0,
  signedCodeword 2 0b01 1 .motion1,
  signedCodeword 3 0b001 2 .motion2,
  signedCodeword 4 0b0001 3 .motion3,
  signedCodeword 6 0b000011 4 .motion4,
  signedCodeword 7 0b0000101 5 .motion5,
  signedCodeword 7 0b0000100 6 .motion6,
  signedCodeword 7 0b0000011 7 .motion7,
  signedCodeword 9 0b000001011 8 .motion8,
  signedCodeword 9 0b000001010 9 .motion9,
  signedCodeword 9 0b000001001 10 .motion10,
  signedCodeword 10 0b0000010001 11 .motion11,
  signedCodeword 10 0b0000010000 12 .motion12,
  signedCodeword 10 0b0000001111 13 .motion13,
  signedCodeword 10 0b0000001110 14 .motion14,
  signedCodeword 10 0b0000001101 15 .motion15,
  signedCodeword 10 0b0000001100 16 .motion16,
  reservedPrefix 7 0b0000000 .motionReserved1,
  reservedPrefix 8 0b00000010 .motionReserved2]

/-- Table DCT_DC_Y (R324). -/
def dcYTable : List VlcRow := [
  codeword 3 0b100 0 .dcSizeY0,
  codeword 2 0b00 1 .dcSizeY1,
  codeword 2 0b01 2 .dcSizeY2,
  codeword 3 0b101 3 .dcSizeY3,
  codeword 3 0b110 4 .dcSizeY4,
  codeword 4 0b1110 5 .dcSizeY5,
  codeword 5 0b11110 6 .dcSizeY6,
  codeword 6 0b111110 7 .dcSizeY7,
  codeword 7 0b1111110 8 .dcSizeY8,
  reservedPrefix 7 0b1111111 .dctDcYReserved]

/-- Table DCT_DC_C (R324). -/
def dcCTable : List VlcRow := [
  codeword 2 0b00 0 .dcSizeC0,
  codeword 2 0b01 1 .dcSizeC1,
  codeword 2 0b10 2 .dcSizeC2,
  codeword 3 0b110 3 .dcSizeC3,
  codeword 4 0b1110 4 .dcSizeC4,
  codeword 5 0b11110 5 .dcSizeC5,
  codeword 6 0b111110 6 .dcSizeC6,
  codeword 7 0b1111110 7 .dcSizeC7,
  codeword 8 0b11111110 8 .dcSizeC8,
  reservedPrefix 8 0b11111111 .dctDcCReserved]

/-- Table DCT (R325), part 1: the value is `run << 8 | level`. -/
def dctRows1 : List VlcRow := [
  signedCodeword 3 0b011 0x0101 .dctR1L1,
  signedCodeword 4 0b0100 0x0002 .dctR0L2,
  signedCodeword 4 0b0101 0x0201 .dctR2L1,
  signedCodeword 5 0b00101 0x0003 .dctR0L3,
  signedCodeword 5 0b00111 0x0301 .dctR3L1,
  signedCodeword 5 0b00110 0x0401 .dctR4L1,
  signedCodeword 6 0b000110 0x0102 .dctR1L2,
  signedCodeword 6 0b000111 0x0501 .dctR5L1,
  signedCodeword 6 0b000101 0x0601 .dctR6L1,
  signedCodeword 6 0b000100 0x0701 .dctR7L1,
  signedCodeword 7 0b0000110 0x0004 .dctR0L4,
  signedCodeword 7 0b0000100 0x0202 .dctR2L2,
  signedCodeword 7 0b0000111 0x0801 .dctR8L1,
  signedCodeword 7 0b0000101 0x0901 .dctR9L1,
  signedCodeword 8 0b00100110 0x0005 .dctR0L5,
  signedCodeword 8 0b00100001 0x0006 .dctR0L6,
  signedCodeword 8 0b00100101 0x0103 .dctR1L3,
  signedCodeword 8 0b00100100 0x0302 .dctR3L2,
  signedCodeword 8 0b00100111 0x0A01 .dctR10L1,
  signedCodeword 8 0b00100011 0x0B01 .dctR11L1,
  signedCodeword 8 0b00100010 0x0C01 .dctR12L1,
  signedCodeword 8 0b00100000 0x0D01 .dctR13L1,
  signedCodeword 10 0b0000001010 0x0007 .dctR0L7,
  signedCodeword 10 0b0000001100 0x0104 .dctR1L4,
  signedCodeword 10 0b0000001011 0x0203 .dctR2L3,
  signedCodeword 10 0b0000001111 0x0402 .dctR4L2,
  signedCodeword 10 0b0000001001 0x0502 .dctR5L2,
  signedCodeword 10 0b0000001110 0x0E01 .dctR14L1,
  signedCodeword 10 0b0000001101 0x0F01 .dctR15L1,
  signedCodeword 10 0b0000001000 0x1001 .dctR16L1]

/-- Table DCT (R325), part 2: the value is `run << 8 | level`. -/
def dctRows2 : List VlcRow := [
  signedCodeword 12 0b000000011101 0x0008 .dctR0L8,
  signedCodeword 12 0b000000011000 0x0009 .dctR0L9,
  signedCodeword 12 0b000000010011 0x000A .dctR0L10,
  signedCodeword 12 0b000000010000 0x000B .dctR0L11,
  signedCodeword 12 0b000000011011 0x0105 .dctR1L5,
  signedCodeword 12 0b000000010100 0x0204 .dctR2L4,
  signedCodeword 12 0b000000011100 0x0303 .dctR3L3,
  signedCodeword 12 0b000000010010 0x0403 .dctR4L3,
  signedCodeword 12 0b000000011110 0x0602 .dctR6L2,
  signedCodeword 12 0b000000010101 0x0702 .dctR7L2,
  signedCodeword 12 0b000000010001 0x0802 .dctR8L2,
  signedCodeword 12 0b000000011111 0x1101 .dctR17L1,
  signedCodeword 12 0b000000011010 0x1201 .dctR18L1,
  signedCodeword 12 0b000000011001 0x1301 .dctR19L1,
  signedCodeword 12 0b000000010111 0x1401 .dctR20L1,
  signedCodeword 12 0b000000010110 0x1501 .dctR21L1,
  signedCodeword 13 0b0000000011010 0x000C .dctR0L12,
  signedCodeword 13 0b0000000011001 0x000D .dctR0L13,
  signedCodeword 13 0b0000000011000 0x000E .dctR0L14,
  signedCodeword 13 0b0000000010111 0x000F .dctR0L15,
  signedCodeword 13 0b0000000010110 0x0106 .dctR1L6,
  signedCodeword 13 0b0000000010101 0x0107 .dctR1L7,
  signedCodeword 13 0b0000000010100 0x0205 .dctR2L5,
  signedCodeword 13 0b0000000010011 0x0304 .dctR3L4,
  signedCodeword 13 0b0000000010010 0x0503 .dctR5L3,
  signedCodeword 13 0b0000000010001 0x0902 .dctR9L2,
  signedCodeword 13 0b0000000010000 0x0A02 .dctR10L2,
  signedCodeword 13 0b0000000011111 0x1601 .dctR22L1,
  signedCodeword 13 0b0000000011110 0x1701 .dctR23L1,
  signedCodeword 13 0b0000000011101 0x1801 .dctR24L1,
  signedCodeword 13 0b0000000011100 0x1901 .dctR25L1,
  signedCodeword 13 0b0000000011011 0x1A01 .dctR26L1]

/-- Table DCT (R325), part 3: the value is `run << 8 | level`. -/
def dctRows3 : List VlcRow := [
  signedCodeword 14 0b00000000011111 0x0010 .dctR0L16,
  signedCodeword 14 0b00000000011110 0x0011 .dctR0L17,
  signedCodeword 14 0b00000000011101 0x0012 .dctR0L18,
  signedCodeword 14 0b00000000011100 0x0013 .dctR0L19,
  signedCodeword 14 0b00000000011011 0x0014 .dctR0L20,
  signedCodeword 14 0b00000000011010 0x0015 .dctR0L21,
  signedCodeword 14 0b00000000011001 0x0016 .dctR0L22,
  signedCodeword 14 0b00000000011000 0x0017 .dctR0L23,
  signedCodeword 14 0b00000000010111 0x0018 .dctR0L24,
  signedCodeword 14 0b00000000010110 0x0019 .dctR0L25,
  signedCodeword 14 0b00000000010101 0x001A .dctR0L26,
  signedCodeword 14 0b00000000010100 0x001B .dctR0L27,
  signedCodeword 14 0b00000000010011 0x001C .dctR0L28,
  signedCodeword 14 0b00000000010010 0x001D .dctR0L29,
  signedCodeword 14 0b00000000010001 0x001E .dctR0L30,
  signedCodeword 14 0b00000000010000 0x001F .dctR0L31,
  signedCodeword 15 0b000000000011000 0x0020 .dctR0L32,
  signedCodeword 15 0b000000000010111 0x0021 .dctR0L33,
  signedCodeword 15 0b000000000010110 0x0022 .dctR0L34,
  signedCodeword 15 0b000000000010101 0x0023 .dctR0L35,
  signedCodeword 15 0b000000000010100 0x0024 .dctR0L36,
  signedCodeword 15 0b000000000010011 0x0025 .dctR0L37,
  signedCodeword 15 0b000000000010010 0x0026 .dctR0L38,
  signedCodeword 15 0b000000000010001 0x0027 .dctR0L39,
  signedCodeword 15 0b000000000010000 0x0028 .dctR0L40,
  signedCodeword 15 0b000000000011111 0x0108 .dctR1L8,
  signedCodeword 15 0b000000000011110 0x0109 .dctR1L9,
  signedCodeword 15 0b000000000011101 0x010A .dctR1L10,
  signedCodeword 15 0b000000000011100 0x010B .dctR1L11,
  signedCodeword 15 0b000000000011011 0x010C .dctR1L12,
  signedCodeword 15 0b000000000011010 0x010D .dctR1L13]

/-- Table DCT (R325), part 4: the value is `run << 8 | level`. -/
def dctRows4 : List VlcRow := [
  signedCodeword 15 0b000000000011001 0x010E .dctR1L14,
  signedCodeword 16 0b0000000000010011 0x010F .dctR1L15,
  signedCodeword 16 0b0000000000010010 0x0110 .dctR1L16,
  signedCodeword 16 0b0000000000010001 0x0111 .dctR1L17,
  signedCodeword 16 0b0000000000010000 0x0112 .dctR1L18,
  signedCodeword 16 0b0000000000010100 0x0603 .dctR6L3,
  signedCodeword 16 0b0000000000011010 0x0B02 .dctR11L2,
  signedCodeword 16 0b0000000000011001 0x0C02 .dctR12L2,
  signedCodeword 16 0b0000000000011000 0x0D02 .dctR13L2,
  signedCodeword 16 0b0000000000010111 0x0E02 .dctR14L2,
  signedCodeword 16 0b0000000000010110 0x0F02 .dctR15L2,
  signedCodeword 16 0b0000000000010101 0x1002 .dctR16L2,
  signedCodeword 16 0b0000000000011111 0x1B01 .dctR27L1,
  signedCodeword 16 0b0000000000011110 0x1C01 .dctR28L1,
  signedCodeword 16 0b0000000000011101 0x1D01 .dctR29L1,
  signedCodeword 16 0b0000000000011100 0x1E01 .dctR30L1,
  signedCodeword 16 0b0000000000011011 0x1F01 .dctR31L1]

/-- The rows of table DCT that both forms share, with the escape and the reserved prefix (R325, R326).
DESIGN CHOICE (log entry 28): R409 says that a walk of table DCT ends after at most 12 bits, where R325 lists
codewords of up to 16 bits before the sign; the rows are those of R325, and only the reserved prefix ends at
12 bits. -/
def dctShared : List VlcRow :=
  dctRows1 ++ dctRows2 ++ dctRows3 ++ dctRows4 ++
    [codeword 6 0b000001 0xFFFF .dctEscape, reservedPrefix 12 0b000000000000 .dctReserved]

/-- Table DCT, "first" form (R325): the first coefficient of a non-intra block. -/
def dctFirstTable : List VlcRow :=
  signedCodeword 1 0b1 0x0001 .dctFirstR0L1 :: dctShared

/-- Table DCT, "next" form (R325, R705): where at least one position has been consumed. `DCT_EOB` and
`DCT_NEXT_R0_L1` are the walk's `1` with the one bit more that R705 reads. -/
def dctNextTable : List VlcRow :=
  codeword 2 0b10 0x0001 .dctEob :: signedCodeword 2 0b11 0x0001 .dctNextR0L1 :: dctShared

/-! ### The decoder -/

/-- One element of a VLC table (R409): the row whose codeword or reserved prefix stands at the front. -/
def decodeVlc (t : List VlcRow) (bits : List Bool) : Except DecodeError (Instr × List Bool) :=
  match t.find? (·.atFront bits) with
  | none => .error .noCodeword
  | some r =>
    let rest := bits.drop r.len
    if r.signed then .ok (r.make (rest.headD false), rest.drop 1) else .ok (r.make false, rest)

/-- The completion of an escape (R304, R315), given the bits after the prefix `000001`: one of the
three completed rows where all its bits are there, else the bare prefix, whose own meaning then does
the reads of R706. -/
def completeEscape (bits : List Bool) : Instr × List Bool :=
  let bare := (Instr.dctEscape, bits)
  if bits.length < 14 then bare
  else
    let (run, rest) := takeBits 6 bits
    let (level8, rest) := takeBits 8 rest
    if level8 == 0 || level8 == 128 then
      if rest.length < 8 then bare
      else
        let (level2, rest) := takeBits 8 rest
        (if level8 == 0 then .dctEscapeLongPos run level2 else .dctEscapeLongNeg run level2, rest)
    else (.dctEscapeShort run level8, rest)

/-- One element of table DCT, with an escape completed. -/
def decodeCoefficient (t : List VlcRow) (bits : List Bool) : Except DecodeError (Instr × List Bool) :=
  match decodeVlc t bits with
  | .ok (.dctEscape, rest) => .ok (completeEscape rest)
  | other => other

/-- The instruction of a start-code value (R302). -/
def startCodeInstr (x : Byte) : Instr :=
  if x = 0x00 then .pictureStart
  else if x.toNat ≤ 0xAF then .sliceStart x
  else if 0xBC ≤ x.toNat then .streamIdStart x
  else if x = 0xB0 then .reservedB0
  else if x = 0xB1 then .reservedB1
  else if x = 0xB2 then .userDataStart
  else if x = 0xB3 then .sequenceHeaderStart
  else if x = 0xB4 then .sequenceError
  else if x = 0xB5 then .extensionStart
  else if x = 0xB6 then .reservedB6
  else if x = 0xB7 then .sequenceEnd
  else if x = 0xB8 then .groupStart
  else if x = 0xB9 then .iso11172End
  else if x = 0xBA then .packStart
  else .systemHeaderStart

/-- A start code (R302): the bytes `00 00 01`, then the value. -/
def decodeStartCode (bits : List Bool) : Except DecodeError (Instr × List Bool) :=
  let (lead, rest) := takeField 24 bits
  let (x, rest') := takeBits 8 rest
  if lead == 1 && 8 ≤ rest.length then .ok (startCodeInstr x, rest') else .error .noStartCode

/-- A quantizer matrix, where its load flag is 1 (R310). -/
def takeMatrix (bits : List Bool) : Option (List Byte) × List Bool :=
  let (load, rest) := takeFlag bits
  if load then
    let (m, rest) := takeBytes 64 rest
    (some m, rest)
  else (none, rest)

/-- The sequence header layout (R310). -/
def decodeSequenceHeader (bits : List Bool) : SequenceHeader × List Bool :=
  let (w, bits) := takeBits 12 bits
  let (h, bits) := takeBits 12 bits
  let (aspect, bits) := takeBits 4 bits
  let (rate, bits) := takeBits 4 bits
  let (bitRate, bits) := takeBits 18 bits
  let (marker, bits) := takeFlag bits
  let (vbv, bits) := takeBits 10 bits
  let (constrained, bits) := takeFlag bits
  let (intra, bits) := takeMatrix bits
  let (nonIntra, bits) := takeMatrix bits
  (⟨w, h, aspect, rate, bitRate, marker, vbv, constrained, intra, nonIntra⟩, bits)

/-- A full-pel flag and an `f_code` (R311). -/
def takeVectorCode (bits : List Bool) : VectorCode × List Bool :=
  let (fullPel, bits) := takeFlag bits
  let (fCode, bits) := takeBits 3 bits
  (⟨fullPel, fCode⟩, bits)

/-- An optional vector code: present in the picture types that carry it (R311). -/
def takeVectorCodeIf (present : Bool) (bits : List Bool) : Option VectorCode × List Bool :=
  if present then
    let (c, bits) := takeVectorCode bits
    (some c, bits)
  else (none, bits)

/-- The picture header layout (R311). -/
def decodePictureHeader (bits : List Bool) : PictureHeader × List Bool :=
  let (temporal, bits) := takeBits 10 bits
  let (kind, bits) := takeBits 3 bits
  let (vbv, bits) := takeBits 16 bits
  let (forward, bits) := takeVectorCodeIf (kind == 2 || kind == 3) bits
  let (backward, bits) := takeVectorCodeIf (kind == 3) bits
  (⟨temporal, kind, vbv, forward, backward⟩, bits)

/-- Extra slice information (R312, R602): while a bit is 1, one more byte. The first argument bounds
the number of bytes; every one takes at least its leading 1 bit. -/
def takeExtra : Nat → List Bool → List Byte × List Bool
  | 0, bits => ([], bits)
  | n + 1, bits =>
    let (more, bits) := takeFlag bits
    if more then
      let (b, bits) := takeBits 8 bits
      let (bs, bits) := takeExtra n bits
      (b :: bs, bits)
    else ([], bits)

/-- The slice header layout (R312). -/
def decodeSliceHeader (bits : List Bool) : SliceHeader × List Bool :=
  let (q, bits) := takeBits 5 bits
  let (extra, bits) := takeExtra (bits.length + 1) bits
  (⟨q, extra⟩, bits)

/-- The MP2 header (R318): `MP2_HEADER` for version 3 and layer 2, else `MP2_SYNC_OTHER`. -/
def decodeMp2Header (bits : List Bool) : Except DecodeError (Instr × List Bool) :=
  let (sync, bits) := takeField 11 bits
  if sync != 0x7FF then .error .noSyncword
  else
    let (version, bits) := takeBits 2 bits
    let (layer, bits) := takeBits 2 bits
    let (protection, bits) := takeFlag bits
    if version == 3 && layer == 2 then
      let (bitrate, bits) := takeBits 4 bits
      let (sampling, bits) := takeBits 2 bits
      let (padding, bits) := takeFlag bits
      let (privateBit, bits) := takeFlag bits
      let (mode, bits) := takeBits 2 bits
      let (extension, bits) := takeBits 2 bits
      let (trailer, bits) := takeBits 4 bits
      let (crc, bits) :=
        if protection then (none, bits)
        else
          let (c, bits) := takeBits 16 bits
          (some c, bits)
      .ok (.mp2Header ⟨protection, bitrate, sampling, padding, privateBit, mode, extension,
        trailer.getLsbD 3, trailer.getLsbD 2, trailer.extractLsb' 0 2, crc⟩, bits)
    else
      let (rest, bits) := takeBits 16 bits
      .ok (.mp2SyncOther ⟨version, layer, protection, rest⟩, bits)

/-- The instruction at the front of the bits at a syntax position, and the bits after it (R304). -/
def decode (p : SyntaxPosition) (bits : List Bool) : Except DecodeError (Instr × List Bool) :=
  match p with
  | .startCode => decodeStartCode bits
  | .sequenceHeader => let (h, rest) := decodeSequenceHeader bits; .ok (.sequenceHeader h, rest)
  | .pictureHeader => let (h, rest) := decodePictureHeader bits; .ok (.pictureHeader h, rest)
  | .sliceHeader => let (h, rest) := decodeSliceHeader bits; .ok (.sliceHeader h, rest)
  | .mp2Header => decodeMp2Header bits
  | .addressIncrement => decodeVlc mbaTable bits
  | .typeI => decodeVlc mbtITable bits
  | .typeP => decodeVlc mbtPTable bits
  | .typeB => decodeVlc mbtBTable bits
  | .codedBlockPattern => decodeVlc cbpTable bits
  | .motionCode => decodeVlc motionTable bits
  | .dcSizeY => decodeVlc dcYTable bits
  | .dcSizeC => decodeVlc dcCTable bits
  | .firstCoefficient => decodeCoefficient dctFirstTable bits
  | .nextCoefficient => decodeCoefficient dctNextTable bits

/-- The instruction of a host command (R1151, R1163). -/
def decodeHost (c : HostCommand) : Except DecodeError Instr :=
  if c.code = 0x01 then .ok (.vwrite c.bytes)
  else if c.code = 0x02 then .ok .vsignalEnd
  else if c.code = 0x03 then .ok .vdecode
  else if c.code = 0x04 then .ok .vrewind
  else if c.code = 0x05 then .ok (.vframeRead c.first c.second)
  else if c.code = 0x11 then .ok (.awrite c.bytes)
  else if c.code = 0x12 then .ok .asignalEnd
  else if c.code = 0x13 then .ok .adecode
  else if c.code = 0x14 then .ok .arewind
  else if c.code = 0x15 then .ok (.asamplesRead c.first)
  else if c.code = 0x20 then .ok (.csrRead c.first)
  else if c.code = 0x21 then .ok (.csrWrite c.first (BitVec.ofNat 32 c.second))
  else .error .unassignedCommand

/-! ### The encoder -/

/-- What encodes an instruction: a host command, or bits of an elementary stream. -/
inductive Encoded where
  | command (c : HostCommand)
  | stream (bits : List Bool)
  deriving DecidableEq, Repr

/-- The bytes of a start code (R302). -/
def startCodeBits (x : Byte) : List Bool := bitsOfNat 24 1 ++ bitsOf x

/-- A load flag and, behind it, the matrix it announces (R310). -/
def matrixBits : Option (List Byte) → List Bool
  | none => [false]
  | some m => true :: m.flatMap bitsOf

/-- The bits of a sequence header (R310). -/
def SequenceHeader.bits (h : SequenceHeader) : List Bool :=
  bitsOf h.horizontalSize ++ bitsOf h.verticalSize ++ bitsOf h.pelAspectRatio ++
    bitsOf h.pictureRate ++ bitsOf h.bitRate ++ [h.marker] ++ bitsOf h.vbvBufferSize ++
    [h.constrainedParameters] ++ matrixBits h.intraMatrix ++ matrixBits h.nonIntraMatrix

/-- The bits of an optional vector code (R311). -/
def vectorCodeBits : Option VectorCode → List Bool
  | none => []
  | some c => c.fullPel :: bitsOf c.fCode

/-- The bits of a picture header (R311). -/
def PictureHeader.bits (h : PictureHeader) : List Bool :=
  bitsOf h.temporalReference ++ bitsOf h.codingType ++ bitsOf h.vbvDelay ++
    vectorCodeBits h.forward ++ vectorCodeBits h.backward

/-- The bits of a slice header (R312). -/
def SliceHeader.bits (h : SliceHeader) : List Bool :=
  bitsOf h.quantizerScale ++ h.extra.flatMap (fun b => true :: bitsOf b) ++ [false]

/-- The bits of an accepted MP2 header with its CRC word (R318). -/
def Mp2Header.bits (h : Mp2Header) : List Bool :=
  bitsOfNat 11 0x7FF ++ bitsOfNat 2 3 ++ bitsOfNat 2 2 ++ [h.protection] ++ bitsOf h.bitrateIndex ++
    bitsOf h.samplingFrequency ++ [h.padding, h.privateBit] ++ bitsOf h.mode ++
    bitsOf h.modeExtension ++ [h.copyright, h.original] ++ bitsOf h.emphasis ++
    (match h.crc with
     | none => []
     | some c => bitsOf c)

/-- The bits of a header with another version or layer (R318). -/
def Mp2SyncOther.bits (h : Mp2SyncOther) : List Bool :=
  bitsOfNat 11 0x7FF ++ bitsOf h.version ++ bitsOf h.layer ++ [h.protection] ++ bitsOf h.rest

/-- A host command without operands. -/
def plainCommand (code : Byte) : Encoded := .command ⟨code, [], 0, 0⟩

/-- A codeword of `len` bits. -/
def codeBits (len code : Nat) : Encoded := .stream (bitsOfNat len code)

/-- A codeword of `len` bits and its sign bit. -/
def signedBits (len code : Nat) (s : Bool) : Encoded := .stream (bitsOfNat len code ++ [s])

/-- The encoding of an instruction. -/
def encode : Instr → Encoded
  | .vwrite b => .command ⟨0x01, b, 0, 0⟩
  | .vsignalEnd => plainCommand 0x02
  | .vdecode => plainCommand 0x03
  | .vrewind => plainCommand 0x04
  | .vframeRead p i => .command ⟨0x05, [], p, i⟩
  | .awrite b => .command ⟨0x11, b, 0, 0⟩
  | .asignalEnd => plainCommand 0x12
  | .adecode => plainCommand 0x13
  | .arewind => plainCommand 0x14
  | .asamplesRead n => .command ⟨0x15, [], n, 0⟩
  | .csrRead r => .command ⟨0x20, [], r, 0⟩
  | .csrWrite r v => .command ⟨0x21, [], r, v.toNat⟩
  | .pictureStart => .stream (startCodeBits 0x00)
  | .userDataStart => .stream (startCodeBits 0xB2)
  | .sequenceHeaderStart => .stream (startCodeBits 0xB3)
  | .sequenceError => .stream (startCodeBits 0xB4)
  | .extensionStart => .stream (startCodeBits 0xB5)
  | .sequenceEnd => .stream (startCodeBits 0xB7)
  | .groupStart => .stream (startCodeBits 0xB8)
  | .reservedB0 => .stream (startCodeBits 0xB0)
  | .reservedB1 => .stream (startCodeBits 0xB1)
  | .reservedB6 => .stream (startCodeBits 0xB6)
  | .iso11172End => .stream (startCodeBits 0xB9)
  | .packStart => .stream (startCodeBits 0xBA)
  | .systemHeaderStart => .stream (startCodeBits 0xBB)
  | .sliceStart v => .stream (startCodeBits v)
  | .streamIdStart v => .stream (startCodeBits v)
  | .sequenceHeader h => .stream h.bits
  | .pictureHeader h => .stream h.bits
  | .sliceHeader h => .stream h.bits
  | .mp2Header h => .stream h.bits
  | .mp2SyncOther h => .stream h.bits
  | .motion0 => codeBits 1 0b1
  | .motion1 s => signedBits 2 0b01 s
  | .motion2 s => signedBits 3 0b001 s
  | .motion3 s => signedBits 4 0b0001 s
  | .motion4 s => signedBits 6 0b000011 s
  | .motion5 s => signedBits 7 0b0000101 s
  | .motion6 s => signedBits 7 0b0000100 s
  | .motion7 s => signedBits 7 0b0000011 s
  | .motion8 s => signedBits 9 0b000001011 s
  | .motion9 s => signedBits 9 0b000001010 s
  | .motion10 s => signedBits 9 0b000001001 s
  | .motion11 s => signedBits 10 0b0000010001 s
  | .motion12 s => signedBits 10 0b0000010000 s
  | .motion13 s => signedBits 10 0b0000001111 s
  | .motion14 s => signedBits 10 0b0000001110 s
  | .motion15 s => signedBits 10 0b0000001101 s
  | .motion16 s => signedBits 10 0b0000001100 s
  | .dctEob => codeBits 2 0b10
  | .dctFirstR0L1 s => signedBits 1 0b1 s
  | .dctNextR0L1 s => signedBits 2 0b11 s
  | .dctEscape => codeBits 6 0b000001
  | .dctR1L1 s => signedBits 3 0b011 s
  | .dctR0L2 s => signedBits 4 0b0100 s
  | .dctR2L1 s => signedBits 4 0b0101 s
  | .dctR0L3 s => signedBits 5 0b00101 s
  | .dctR3L1 s => signedBits 5 0b00111 s
  | .dctR4L1 s => signedBits 5 0b00110 s
  | .dctR1L2 s => signedBits 6 0b000110 s
  | .dctR5L1 s => signedBits 6 0b000111 s
  | .dctR6L1 s => signedBits 6 0b000101 s
  | .dctR7L1 s => signedBits 6 0b000100 s
  | .dctR0L4 s => signedBits 7 0b0000110 s
  | .dctR2L2 s => signedBits 7 0b0000100 s
  | .dctR8L1 s => signedBits 7 0b0000111 s
  | .dctR9L1 s => signedBits 7 0b0000101 s
  | .dctR0L5 s => signedBits 8 0b00100110 s
  | .dctR0L6 s => signedBits 8 0b00100001 s
  | .dctR1L3 s => signedBits 8 0b00100101 s
  | .dctR3L2 s => signedBits 8 0b00100100 s
  | .dctR10L1 s => signedBits 8 0b00100111 s
  | .dctR11L1 s => signedBits 8 0b00100011 s
  | .dctR12L1 s => signedBits 8 0b00100010 s
  | .dctR13L1 s => signedBits 8 0b00100000 s
  | .dctR0L7 s => signedBits 10 0b0000001010 s
  | .dctR1L4 s => signedBits 10 0b0000001100 s
  | .dctR2L3 s => signedBits 10 0b0000001011 s
  | .dctR4L2 s => signedBits 10 0b0000001111 s
  | .dctR5L2 s => signedBits 10 0b0000001001 s
  | .dctR14L1 s => signedBits 10 0b0000001110 s
  | .dctR15L1 s => signedBits 10 0b0000001101 s
  | .dctR16L1 s => signedBits 10 0b0000001000 s
  | .dctR0L8 s => signedBits 12 0b000000011101 s
  | .dctR0L9 s => signedBits 12 0b000000011000 s
  | .dctR0L10 s => signedBits 12 0b000000010011 s
  | .dctR0L11 s => signedBits 12 0b000000010000 s
  | .dctR1L5 s => signedBits 12 0b000000011011 s
  | .dctR2L4 s => signedBits 12 0b000000010100 s
  | .dctR3L3 s => signedBits 12 0b000000011100 s
  | .dctR4L3 s => signedBits 12 0b000000010010 s
  | .dctR6L2 s => signedBits 12 0b000000011110 s
  | .dctR7L2 s => signedBits 12 0b000000010101 s
  | .dctR8L2 s => signedBits 12 0b000000010001 s
  | .dctR17L1 s => signedBits 12 0b000000011111 s
  | .dctR18L1 s => signedBits 12 0b000000011010 s
  | .dctR19L1 s => signedBits 12 0b000000011001 s
  | .dctR20L1 s => signedBits 12 0b000000010111 s
  | .dctR21L1 s => signedBits 12 0b000000010110 s
  | .dctR0L12 s => signedBits 13 0b0000000011010 s
  | .dctR0L13 s => signedBits 13 0b0000000011001 s
  | .dctR0L14 s => signedBits 13 0b0000000011000 s
  | .dctR0L15 s => signedBits 13 0b0000000010111 s
  | .dctR1L6 s => signedBits 13 0b0000000010110 s
  | .dctR1L7 s => signedBits 13 0b0000000010101 s
  | .dctR2L5 s => signedBits 13 0b0000000010100 s
  | .dctR3L4 s => signedBits 13 0b0000000010011 s
  | .dctR5L3 s => signedBits 13 0b0000000010010 s
  | .dctR9L2 s => signedBits 13 0b0000000010001 s
  | .dctR10L2 s => signedBits 13 0b0000000010000 s
  | .dctR22L1 s => signedBits 13 0b0000000011111 s
  | .dctR23L1 s => signedBits 13 0b0000000011110 s
  | .dctR24L1 s => signedBits 13 0b0000000011101 s
  | .dctR25L1 s => signedBits 13 0b0000000011100 s
  | .dctR26L1 s => signedBits 13 0b0000000011011 s
  | .dctR0L16 s => signedBits 14 0b00000000011111 s
  | .dctR0L17 s => signedBits 14 0b00000000011110 s
  | .dctR0L18 s => signedBits 14 0b00000000011101 s
  | .dctR0L19 s => signedBits 14 0b00000000011100 s
  | .dctR0L20 s => signedBits 14 0b00000000011011 s
  | .dctR0L21 s => signedBits 14 0b00000000011010 s
  | .dctR0L22 s => signedBits 14 0b00000000011001 s
  | .dctR0L23 s => signedBits 14 0b00000000011000 s
  | .dctR0L24 s => signedBits 14 0b00000000010111 s
  | .dctR0L25 s => signedBits 14 0b00000000010110 s
  | .dctR0L26 s => signedBits 14 0b00000000010101 s
  | .dctR0L27 s => signedBits 14 0b00000000010100 s
  | .dctR0L28 s => signedBits 14 0b00000000010011 s
  | .dctR0L29 s => signedBits 14 0b00000000010010 s
  | .dctR0L30 s => signedBits 14 0b00000000010001 s
  | .dctR0L31 s => signedBits 14 0b00000000010000 s
  | .dctR0L32 s => signedBits 15 0b000000000011000 s
  | .dctR0L33 s => signedBits 15 0b000000000010111 s
  | .dctR0L34 s => signedBits 15 0b000000000010110 s
  | .dctR0L35 s => signedBits 15 0b000000000010101 s
  | .dctR0L36 s => signedBits 15 0b000000000010100 s
  | .dctR0L37 s => signedBits 15 0b000000000010011 s
  | .dctR0L38 s => signedBits 15 0b000000000010010 s
  | .dctR0L39 s => signedBits 15 0b000000000010001 s
  | .dctR0L40 s => signedBits 15 0b000000000010000 s
  | .dctR1L8 s => signedBits 15 0b000000000011111 s
  | .dctR1L9 s => signedBits 15 0b000000000011110 s
  | .dctR1L10 s => signedBits 15 0b000000000011101 s
  | .dctR1L11 s => signedBits 15 0b000000000011100 s
  | .dctR1L12 s => signedBits 15 0b000000000011011 s
  | .dctR1L13 s => signedBits 15 0b000000000011010 s
  | .dctR1L14 s => signedBits 15 0b000000000011001 s
  | .dctR1L15 s => signedBits 16 0b0000000000010011 s
  | .dctR1L16 s => signedBits 16 0b0000000000010010 s
  | .dctR1L17 s => signedBits 16 0b0000000000010001 s
  | .dctR1L18 s => signedBits 16 0b0000000000010000 s
  | .dctR6L3 s => signedBits 16 0b0000000000010100 s
  | .dctR11L2 s => signedBits 16 0b0000000000011010 s
  | .dctR12L2 s => signedBits 16 0b0000000000011001 s
  | .dctR13L2 s => signedBits 16 0b0000000000011000 s
  | .dctR14L2 s => signedBits 16 0b0000000000010111 s
  | .dctR15L2 s => signedBits 16 0b0000000000010110 s
  | .dctR16L2 s => signedBits 16 0b0000000000010101 s
  | .dctR27L1 s => signedBits 16 0b0000000000011111 s
  | .dctR28L1 s => signedBits 16 0b0000000000011110 s
  | .dctR29L1 s => signedBits 16 0b0000000000011101 s
  | .dctR30L1 s => signedBits 16 0b0000000000011100 s
  | .dctR31L1 s => signedBits 16 0b0000000000011011 s
  | .dctEscapeShort r l => .stream (bitsOfNat 6 0b000001 ++ bitsOf r ++ bitsOf l)
  | .dctEscapeLongPos r l => .stream (bitsOfNat 6 0b000001 ++ bitsOf r ++ bitsOfNat 8 0 ++ bitsOf l)
  | .dctEscapeLongNeg r l => .stream (bitsOfNat 6 0b000001 ++ bitsOf r ++ bitsOfNat 8 128 ++ bitsOf l)
  | .mba1 => codeBits 1 0b1
  | .mba2 => codeBits 3 0b011
  | .mba3 => codeBits 3 0b010
  | .mba4 => codeBits 4 0b0011
  | .mba5 => codeBits 4 0b0010
  | .mba6 => codeBits 5 0b00011
  | .mba7 => codeBits 5 0b00010
  | .mba8 => codeBits 7 0b0000111
  | .mba9 => codeBits 7 0b0000110
  | .mba10 => codeBits 8 0b00001011
  | .mba11 => codeBits 8 0b00001010
  | .mba12 => codeBits 8 0b00001001
  | .mba13 => codeBits 8 0b00001000
  | .mba14 => codeBits 8 0b00000111
  | .mba15 => codeBits 8 0b00000110
  | .mba16 => codeBits 10 0b0000010111
  | .mba17 => codeBits 10 0b0000010110
  | .mba18 => codeBits 10 0b0000010101
  | .mba19 => codeBits 10 0b0000010100
  | .mba20 => codeBits 10 0b0000010011
  | .mba21 => codeBits 10 0b0000010010
  | .mba22 => codeBits 11 0b00000100011
  | .mba23 => codeBits 11 0b00000100010
  | .mba24 => codeBits 11 0b00000100001
  | .mba25 => codeBits 11 0b00000100000
  | .mba26 => codeBits 11 0b00000011111
  | .mba27 => codeBits 11 0b00000011110
  | .mba28 => codeBits 11 0b00000011101
  | .mba29 => codeBits 11 0b00000011100
  | .mba30 => codeBits 11 0b00000011011
  | .mba31 => codeBits 11 0b00000011010
  | .mba32 => codeBits 11 0b00000011001
  | .mba33 => codeBits 11 0b00000011000
  | .mbaStuffing => codeBits 11 0b00000001111
  | .mbaEscape => codeBits 11 0b00000001000
  | .mbtI01 => codeBits 1 0b1
  | .mbtI11 => codeBits 2 0b01
  | .mbtP0A => codeBits 1 0b1
  | .mbtP02 => codeBits 2 0b01
  | .mbtP08 => codeBits 3 0b001
  | .mbtP01 => codeBits 5 0b00011
  | .mbtP1A => codeBits 5 0b00010
  | .mbtP12 => codeBits 5 0b00001
  | .mbtP11 => codeBits 6 0b000001
  | .mbtB0C => codeBits 2 0b10
  | .mbtB0E => codeBits 2 0b11
  | .mbtB04 => codeBits 3 0b010
  | .mbtB06 => codeBits 3 0b011
  | .mbtB08 => codeBits 4 0b0010
  | .mbtB0A => codeBits 4 0b0011
  | .mbtB01 => codeBits 5 0b00011
  | .mbtB1E => codeBits 5 0b00010
  | .mbtB1A => codeBits 6 0b000011
  | .mbtB16 => codeBits 6 0b000010
  | .mbtB11 => codeBits 6 0b000001
  | .cbp60 => codeBits 3 0b111
  | .cbp4 => codeBits 4 0b1101
  | .cbp8 => codeBits 4 0b1100
  | .cbp16 => codeBits 4 0b1011
  | .cbp32 => codeBits 4 0b1010
  | .cbp12 => codeBits 5 0b10011
  | .cbp48 => codeBits 5 0b10010
  | .cbp20 => codeBits 5 0b10001
  | .cbp40 => codeBits 5 0b10000
  | .cbp28 => codeBits 5 0b01111
  | .cbp44 => codeBits 5 0b01110
  | .cbp52 => codeBits 5 0b01101
  | .cbp56 => codeBits 5 0b01100
  | .cbp1 => codeBits 5 0b01011
  | .cbp61 => codeBits 5 0b01010
  | .cbp2 => codeBits 5 0b01001
  | .cbp62 => codeBits 5 0b01000
  | .cbp24 => codeBits 6 0b001111
  | .cbp36 => codeBits 6 0b001110
  | .cbp3 => codeBits 6 0b001101
  | .cbp63 => codeBits 6 0b001100
  | .cbp5 => codeBits 7 0b0010111
  | .cbp9 => codeBits 7 0b0010110
  | .cbp17 => codeBits 7 0b0010101
  | .cbp33 => codeBits 7 0b0010100
  | .cbp6 => codeBits 7 0b0010011
  | .cbp10 => codeBits 7 0b0010010
  | .cbp18 => codeBits 7 0b0010001
  | .cbp34 => codeBits 7 0b0010000
  | .cbp7 => codeBits 8 0b00011111
  | .cbp11 => codeBits 8 0b00011110
  | .cbp19 => codeBits 8 0b00011101
  | .cbp35 => codeBits 8 0b00011100
  | .cbp13 => codeBits 8 0b00011011
  | .cbp49 => codeBits 8 0b00011010
  | .cbp21 => codeBits 8 0b00011001
  | .cbp41 => codeBits 8 0b00011000
  | .cbp14 => codeBits 8 0b00010111
  | .cbp50 => codeBits 8 0b00010110
  | .cbp22 => codeBits 8 0b00010101
  | .cbp42 => codeBits 8 0b00010100
  | .cbp15 => codeBits 8 0b00010011
  | .cbp51 => codeBits 8 0b00010010
  | .cbp23 => codeBits 8 0b00010001
  | .cbp43 => codeBits 8 0b00010000
  | .cbp25 => codeBits 8 0b00001111
  | .cbp37 => codeBits 8 0b00001110
  | .cbp26 => codeBits 8 0b00001101
  | .cbp38 => codeBits 8 0b00001100
  | .cbp29 => codeBits 8 0b00001011
  | .cbp45 => codeBits 8 0b00001010
  | .cbp53 => codeBits 8 0b00001001
  | .cbp57 => codeBits 8 0b00001000
  | .cbp30 => codeBits 8 0b00000111
  | .cbp46 => codeBits 8 0b00000110
  | .cbp54 => codeBits 8 0b00000101
  | .cbp58 => codeBits 8 0b00000100
  | .cbp31 => codeBits 9 0b000000111
  | .cbp47 => codeBits 9 0b000000110
  | .cbp55 => codeBits 9 0b000000101
  | .cbp59 => codeBits 9 0b000000100
  | .cbp27 => codeBits 9 0b000000011
  | .cbp39 => codeBits 9 0b000000010
  | .dcSizeY0 => codeBits 3 0b100
  | .dcSizeY1 => codeBits 2 0b00
  | .dcSizeY2 => codeBits 2 0b01
  | .dcSizeY3 => codeBits 3 0b101
  | .dcSizeY4 => codeBits 3 0b110
  | .dcSizeY5 => codeBits 4 0b1110
  | .dcSizeY6 => codeBits 5 0b11110
  | .dcSizeY7 => codeBits 6 0b111110
  | .dcSizeY8 => codeBits 7 0b1111110
  | .dcSizeC0 => codeBits 2 0b00
  | .dcSizeC1 => codeBits 2 0b01
  | .dcSizeC2 => codeBits 2 0b10
  | .dcSizeC3 => codeBits 3 0b110
  | .dcSizeC4 => codeBits 4 0b1110
  | .dcSizeC5 => codeBits 5 0b11110
  | .dcSizeC6 => codeBits 6 0b111110
  | .dcSizeC7 => codeBits 7 0b1111110
  | .dcSizeC8 => codeBits 8 0b11111110
  | .mbaReserved1 => codeBits 8 0b00000000
  | .mbaReserved2 => codeBits 11 0b00000001001
  | .mbaReserved3 => codeBits 10 0b0000000101
  | .mbaReserved4 => codeBits 10 0b0000000110
  | .mbaReserved5 => codeBits 11 0b00000001110
  | .mbaReserved6 => codeBits 8 0b00000010
  | .mbtIReserved => codeBits 2 0b00
  | .mbtPReserved => codeBits 6 0b000000
  | .mbtBReserved => codeBits 6 0b000000
  | .cbpReserved => codeBits 8 0b00000000
  | .motionReserved1 => codeBits 7 0b0000000
  | .motionReserved2 => codeBits 8 0b00000010
  | .dctDcYReserved => codeBits 7 0b1111111
  | .dctDcCReserved => codeBits 8 0b11111111
  | .dctReserved => codeBits 12 0b000000000000

/-- The syntax positions at which a row can be selected (R304, R313, R314); none for a host command. -/
def Instr.positions : Instr → List SyntaxPosition
  | .vwrite _ | .vsignalEnd | .vdecode | .vrewind | .vframeRead _ _ | .awrite _ | .asignalEnd
  | .adecode | .arewind | .asamplesRead _ | .csrRead _ | .csrWrite _ _ => []
  | .pictureStart | .userDataStart | .sequenceHeaderStart | .sequenceError | .extensionStart
  | .sequenceEnd | .groupStart | .reservedB0 | .reservedB1 | .reservedB6 | .iso11172End
  | .packStart | .systemHeaderStart | .sliceStart _ | .streamIdStart _ => [.startCode]
  | .sequenceHeader _ => [.sequenceHeader]
  | .pictureHeader _ => [.pictureHeader]
  | .sliceHeader _ => [.sliceHeader]
  | .mp2Header _ | .mp2SyncOther _ => [.mp2Header]
  | .mba1 | .mba2 | .mba3 | .mba4 | .mba5 | .mba6 | .mba7 | .mba8 | .mba9 | .mba10 | .mba11
  | .mba12 | .mba13 | .mba14 | .mba15 | .mba16 | .mba17 | .mba18 | .mba19 | .mba20 | .mba21
  | .mba22 | .mba23 | .mba24 | .mba25 | .mba26 | .mba27 | .mba28 | .mba29 | .mba30 | .mba31
  | .mba32 | .mba33 | .mbaStuffing | .mbaEscape | .mbaReserved1 | .mbaReserved2 | .mbaReserved3
  | .mbaReserved4 | .mbaReserved5 | .mbaReserved6 => [.addressIncrement]
  | .mbtI01 | .mbtI11 | .mbtIReserved => [.typeI]
  | .mbtP0A | .mbtP02 | .mbtP08 | .mbtP01 | .mbtP1A | .mbtP12 | .mbtP11 | .mbtPReserved => [.typeP]
  | .mbtB0C | .mbtB0E | .mbtB04 | .mbtB06 | .mbtB08 | .mbtB0A | .mbtB01 | .mbtB1E | .mbtB1A
  | .mbtB16 | .mbtB11 | .mbtBReserved => [.typeB]
  | .cbp60 | .cbp4 | .cbp8 | .cbp16 | .cbp32 | .cbp12 | .cbp48 | .cbp20 | .cbp40 | .cbp28
  | .cbp44 | .cbp52 | .cbp56 | .cbp1 | .cbp61 | .cbp2 | .cbp62 | .cbp24 | .cbp36 | .cbp3
  | .cbp63 | .cbp5 | .cbp9 | .cbp17 | .cbp33 | .cbp6 | .cbp10 | .cbp18 | .cbp34 | .cbp7
  | .cbp11 | .cbp19 | .cbp35 | .cbp13 | .cbp49 | .cbp21 | .cbp41 | .cbp14 | .cbp50 | .cbp22
  | .cbp42 | .cbp15 | .cbp51 | .cbp23 | .cbp43 | .cbp25 | .cbp37 | .cbp26 | .cbp38 | .cbp29
  | .cbp45 | .cbp53 | .cbp57 | .cbp30 | .cbp46 | .cbp54 | .cbp58 | .cbp31 | .cbp47 | .cbp55
  | .cbp59 | .cbp27 | .cbp39 | .cbpReserved => [.codedBlockPattern]
  | .motion0 | .motion1 _ | .motion2 _ | .motion3 _ | .motion4 _ | .motion5 _ | .motion6 _
  | .motion7 _ | .motion8 _ | .motion9 _ | .motion10 _ | .motion11 _ | .motion12 _
  | .motion13 _ | .motion14 _ | .motion15 _ | .motion16 _ | .motionReserved1 | .motionReserved2 => [.motionCode]
  | .dcSizeY0 | .dcSizeY1 | .dcSizeY2 | .dcSizeY3 | .dcSizeY4 | .dcSizeY5 | .dcSizeY6
  | .dcSizeY7 | .dcSizeY8 | .dctDcYReserved => [.dcSizeY]
  | .dcSizeC0 | .dcSizeC1 | .dcSizeC2 | .dcSizeC3 | .dcSizeC4 | .dcSizeC5 | .dcSizeC6
  | .dcSizeC7 | .dcSizeC8 | .dctDcCReserved => [.dcSizeC]
  | .dctFirstR0L1 _ => [.firstCoefficient]
  | .dctEob | .dctNextR0L1 _ => [.nextCoefficient]
  | .dctEscape | .dctR1L1 _ | .dctR0L2 _ | .dctR2L1 _ | .dctR0L3 _ | .dctR3L1 _ | .dctR4L1 _
  | .dctR1L2 _ | .dctR5L1 _ | .dctR6L1 _ | .dctR7L1 _ | .dctR0L4 _ | .dctR2L2 _ | .dctR8L1 _
  | .dctR9L1 _ | .dctR0L5 _ | .dctR0L6 _ | .dctR1L3 _ | .dctR3L2 _ | .dctR10L1 _ | .dctR11L1 _
  | .dctR12L1 _ | .dctR13L1 _ | .dctR0L7 _ | .dctR1L4 _ | .dctR2L3 _ | .dctR4L2 _ | .dctR5L2 _
  | .dctR14L1 _ | .dctR15L1 _ | .dctR16L1 _ | .dctR0L8 _ | .dctR0L9 _ | .dctR0L10 _
  | .dctR0L11 _ | .dctR1L5 _ | .dctR2L4 _ | .dctR3L3 _ | .dctR4L3 _ | .dctR6L2 _ | .dctR7L2 _
  | .dctR8L2 _ | .dctR17L1 _ | .dctR18L1 _ | .dctR19L1 _ | .dctR20L1 _ | .dctR21L1 _
  | .dctR0L12 _ | .dctR0L13 _ | .dctR0L14 _ | .dctR0L15 _ | .dctR1L6 _ | .dctR1L7 _
  | .dctR2L5 _ | .dctR3L4 _ | .dctR5L3 _ | .dctR9L2 _ | .dctR10L2 _ | .dctR22L1 _ | .dctR23L1 _
  | .dctR24L1 _ | .dctR25L1 _ | .dctR26L1 _ | .dctR0L16 _ | .dctR0L17 _ | .dctR0L18 _
  | .dctR0L19 _ | .dctR0L20 _ | .dctR0L21 _ | .dctR0L22 _ | .dctR0L23 _ | .dctR0L24 _
  | .dctR0L25 _ | .dctR0L26 _ | .dctR0L27 _ | .dctR0L28 _ | .dctR0L29 _ | .dctR0L30 _
  | .dctR0L31 _ | .dctR0L32 _ | .dctR0L33 _ | .dctR0L34 _ | .dctR0L35 _ | .dctR0L36 _
  | .dctR0L37 _ | .dctR0L38 _ | .dctR0L39 _ | .dctR0L40 _ | .dctR1L8 _ | .dctR1L9 _
  | .dctR1L10 _ | .dctR1L11 _ | .dctR1L12 _ | .dctR1L13 _ | .dctR1L14 _ | .dctR1L15 _
  | .dctR1L16 _ | .dctR1L17 _ | .dctR1L18 _ | .dctR6L3 _ | .dctR11L2 _ | .dctR12L2 _
  | .dctR13L2 _ | .dctR14L2 _ | .dctR15L2 _ | .dctR16L2 _ | .dctR27L1 _ | .dctR28L1 _
  | .dctR29L1 _ | .dctR30L1 _ | .dctR31L1 _ | .dctEscapeShort _ _ | .dctEscapeLongPos _ _
  | .dctEscapeLongNeg _ _ | .dctReserved => [.firstCoefficient, .nextCoefficient]

/-! ### One word of the opcode table -/

/-- The syntax positions a word of the opcode table is looked up at, in this order. The tables overlap
(R304), so for some words only the first row found is answered. -/
def wordPositions : List SyntaxPosition :=
  [.startCode, .mp2Header, .codedBlockPattern, .addressIncrement, .motionCode, .nextCoefficient,
    .firstCoefficient, .dcSizeC, .dcSizeY, .typeI, .typeP, .typeB]

/-- The instruction of a bit-stream word and the position it is selected at: the first position whose
decoder takes exactly the word's bits. -/
def decodeStreamWord (nbits w : Nat) : Option (SyntaxPosition × Instr) :=
  wordPositions.findSome? fun p =>
    match decode p (bitsOfNat nbits w) with
    | .ok (i, []) => some (p, i)
    | _ => none

/-- The instruction the decoder reads from a word of the opcode table, most significant bit first: an
8-bit host command code (R1163) with operands of zeros, else a bit-stream element. -/
def decodeTableWord (nbits w : Nat) : Option Instr :=
  match (if nbits = 8 then decodeHost ⟨BitVec.ofNat 8 w, [], 0, 0⟩ else .error .unassignedCommand) with
  | .ok i => some i
  | .error _ => (decodeStreamWord nbits w).map (·.2)

end Sys2Proof
end

