-- ==== Sys2Proof/Machine/State.lean ====
section
/-! DEFINITION. The state of the block: the video engine VDE (10_state.md sections 1-4), the audio engine
ADE (section 5), the two error registers of each (R118), and the model's own fields, which say how far a
command in progress has come and what the host has queued. Plain data throughout. -/

namespace Sys2Proof.Machine

/-! ### Bit reader (R100) -/

/-- The bit reader of one engine (R100), with the command-local flag `need_data` that `has` sets (R402). -/
structure BitReader where
  /-- `BR.bytes`; its length is `BR.length`. -/
  bytes : List Byte
  /-- `BR.bit_index`, the engine's program counter (R116). -/
  bitIndex : Nat
  ended : Bool
  /-- `BR.total_size`; 0 means unknown. -/
  totalSize : Nat
  discardRead : Bool
  underrun : Bool
  needData : Bool
  deriving DecidableEq, Repr

/-! ### Frame-buffer memory (R108, R204) -/

/-- The written samples of one plane, sorted by index, each index at most once. An index that is not
listed has no value yet: `planeRead` gives the free value of an UNSPECIFIED sample for it (R108). -/
abbrev Memory := List Host.Cell

/-- The canonical form of a plane's memory: the indices rise strictly. -/
def Memory.wf : Memory → Bool
  | [] => true
  | [_] => true
  | a :: b :: t => decide (a.1 < b.1) && Memory.wf (b :: t)

/-- The three planes of a frame buffer (R108). -/
inductive Plane where
  | y | cb | cr
  deriving DecidableEq, Repr

/-- One frame buffer: its planes and its time (R108). -/
structure Frame where
  y : Memory
  cb : Memory
  cr : Memory
  time : Rat
  deriving DecidableEq, Repr

/-! ### Video engine (R103-R110) -/

/-- The motion state of one direction (R105). -/
structure MotionState where
  fullPx : Bool
  rSize : BitVec 3
  h : Int
  v : Int
  isSet : Bool
  deriving DecidableEq, Repr

/-- How far the video engine is in a command: what its cursor stands before (R500, R313, R314). The
model's own field; `idle` is the only value between commands. -/
inductive VideoPos where
  /-- No command is running. -/
  | idle
  /-- `find_start_code(0xB3)` of HAS_HEADER (R502). -/
  | sequenceSearch
  /-- Before the fields of a sequence header (R502). -/
  | sequenceHeader
  /-- `find_start_code(0x00)` of R501 step 3a. -/
  | pictureSearch
  /-- Before the fields of a picture header (R503). -/
  | pictureHeader
  /-- `next_start_code()` after a picture header, while it gives 0xB2 or 0xB5 (R504). -/
  | bodySearch
  /-- `next_start_code()` after a slice (R504). -/
  | sliceSearch
  /-- Before the fields of a slice header (R601, R602). -/
  | sliceHeader
  /-- Before a codeword of table MBA (R604). -/
  | addressIncrement
  /-- Before a `macroblock_type` (R606). -/
  | macroblockType
  /-- Before a `motion_code`: its direction and its component (R801). -/
  | motion (backward vertical : Bool)
  /-- Before a `coded_block_pattern` (R610). -/
  | codedBlockPattern
  /-- Before the DC size of an intra block (R701). -/
  | dcSize
  /-- Before a coefficient or an end of block (R704). -/
  | coefficient
  /-- The command has ended and its response word is due (R1152). -/
  | finished
  deriving DecidableEq, Repr

/-- The state of the VDE. -/
structure Video where
  br : BitReader
  -- sequence registers (R103)
  hasSequenceHeader : Bool
  width : BitVec 12
  height : BitVec 12
  aspectRatioIndex : BitVec 4
  pictureRateIndex : BitVec 4
  bitRate : BitVec 18
  framerate : Rat
  mbWidth : BitVec 9
  mbHeight : BitVec 9
  mbSize : BitVec 17
  lumaWidth : BitVec 13
  lumaHeight : BitVec 13
  chromaWidth : BitVec 12
  chromaHeight : BitVec 12
  intraQuantMatrix : List Byte
  nonIntraQuantMatrix : List Byte
  -- picture, slice and macroblock registers (R104-R107)
  startCode : Option Byte
  pictureType : BitVec 3
  mf : MotionState
  mb : MotionState
  quantizerScale : BitVec 5
  sliceBegin : Bool
  macroblockAddress : Word
  mbRow : BitVec 9
  mbCol : BitVec 9
  macroblockType : BitVec 5
  macroblockIntra : Bool
  cbp : BitVec 6
  dcPredictor : List Int
  blockData : List Int
  -- frame buffers, reordering, output (R108-R110)
  fb0 : Frame
  fb1 : Frame
  fb2 : Frame
  cur : Fin 3
  fwd : Fin 3
  bwd : Fin 3
  hasReferenceFrame : Bool
  noDelay : Bool
  framesDecoded : Nat
  time : Rat
  outFrame : Option (Fin 3)
  -- errors (R118, R1201); `raised` is command-local
  verr : BitVec 10
  verrcnt : Word
  raised : Bool
  -- the model's own: the locals of a command in progress
  pos : VideoPos
  /-- `temp` of the picture's pre-rotation (R505). -/
  temp : Fin 3
  /-- `inc` of the address increment (R604). -/
  increment : Nat
  /-- The block of the block loop (R611). -/
  block : Nat
  /-- The coefficient position `n` (R700). -/
  coefficientPos : Nat
  deriving DecidableEq, Repr

/-! ### Audio engine (R111-R114) -/

/-- The MP2 quantizer classes (R336); `NONE` is the absence of one. -/
inductive QuantClass where
  | q3 | q5 | q7 | q9 | q15 | q31 | q63 | q127 | q255 | q511 | q1023 | q2047 | q4095 | q8191
  | q16383 | q32767 | q65535
  deriving DecidableEq, Repr

/-- How far the audio engine is in a command; `idle` is the only value between commands. The model's own. -/
inductive AudioPos where
  | idle
  /-- Before a frame header, perhaps after stuffing or garbage (R902). -/
  | header
  /-- The command has ended and its response word is due (R1152). -/
  | finished
  deriving DecidableEq, Repr

/-- The state of the ADE. A register file with channel index `ch` is one list: entry `[ch][sb]` of a
2 x 32 file stands at `32 * ch + sb`, entry `[ch][sb][k]` at `3 * (32 * ch + sb) + k`, entry `[ch][n]` of
the delay line at `1024 * ch + n` and of the output at `1152 * ch + n`. -/
structure Audio where
  br : BitReader
  -- header registers (R111)
  hasHeader : Bool
  version : BitVec 2
  layer : BitVec 2
  hasCrc : Bool
  bitrateIndex : BitVec 4
  samplerateIndex : BitVec 2
  padding : Bool
  mode : BitVec 2
  modeExtension : BitVec 2
  channels : BitVec 2
  bound : BitVec 6
  nextFrameDataSize : BitVec 16
  -- frame-body register files (R112)
  allocation : List (Option QuantClass)
  scfsi : List (BitVec 2)
  scalefactor : List (BitVec 6)
  sample : List Surd
  -- synthesis (R113)
  delay : List Surd
  vPos : BitVec 10
  -- output and clocks (R114)
  out : List WindowSum
  format : BitVec 2
  samplesDecoded : Nat
  time : Rat
  samplesTime : Rat
  outValid : Bool
  -- errors (R118, R1201); `raised` is command-local
  aerr : BitVec 7
  aerrcnt : Word
  raised : Bool
  -- the model's own
  pos : AudioPos
  deriving DecidableEq, Repr

/-- The state of the block. -/
structure State where
  v : Video
  a : Audio
  /-- The commands the host has issued and the block has not taken yet, in order (R1150). The model's own. -/
  host : List HostCommand
  /-- What the last command returned: the response word of a decode command (R1152), the value of a read
  (R1157-R1159), none where the command returns nothing. The model's own. -/
  response : Option Word
  deriving DecidableEq, Repr

/-- Why a command stops. The block has no trap and no fatal error (R1200). -/
inductive Fault where
  /-- A host command on an engine that is still inside another command: raised by the host commands.
  "Issuing two commands to one engine at the same time is outside the model ... the model has no
  transition for it" (R213). Safe: `step` takes a host command only when both engines are idle. -/
  | commandOverlap
  deriving DecidableEq, Repr

/-- Why an instruction is refused. -/
inductive Refusal where
  /-- An instruction whose meaning is not written: raised by `exec`'s refused arms only. Safe. -/
  | notModelled (mnemonic : String)
  deriving DecidableEq, Repr

/-- What one instruction answers. -/
abbrev Result := Host.Outcome State Fault Refusal

/-! ### Reset (R1301) -/

/-- A bit reader after power-on reset (R100, R101). -/
def BitReader.reset : BitReader where
  bytes := []
  bitIndex := 0
  ended := false
  totalSize := 0
  discardRead := true
  underrun := false
  needData := false

/-- A motion record after power-on reset (R105). -/
def MotionState.reset : MotionState where
  fullPx := false
  rSize := 0
  h := 0
  v := 0
  isSet := false

/-- A frame buffer after power-on reset: nothing written (R108). DESIGN CHOICE (log entry 2): its time,
which R1301 leaves UNSPECIFIED, is 0. -/
def Frame.reset : Frame := ⟨[], [], [], 0⟩

/-- The VDE after power-on reset (R1301). DESIGN CHOICE (log entry 2): the sequence registers, which
R1301 leaves UNSPECIFIED, are 0. -/
def Video.reset : Video where
  br := .reset
  hasSequenceHeader := false
  width := 0
  height := 0
  aspectRatioIndex := 0
  pictureRateIndex := 0
  bitRate := 0
  framerate := 0
  mbWidth := 0
  mbHeight := 0
  mbSize := 0
  lumaWidth := 0
  lumaHeight := 0
  chromaWidth := 0
  chromaHeight := 0
  intraQuantMatrix := List.replicate 64 0
  nonIntraQuantMatrix := List.replicate 64 0
  startCode := none
  pictureType := 0
  mf := .reset
  mb := .reset
  quantizerScale := 0
  sliceBegin := false
  macroblockAddress := -1
  mbRow := 0
  mbCol := 0
  macroblockType := 0
  macroblockIntra := false
  cbp := 0
  dcPredictor := [128, 128, 128]
  blockData := List.replicate 64 0
  fb0 := .reset
  fb1 := .reset
  fb2 := .reset
  cur := 0
  fwd := 1
  bwd := 2
  hasReferenceFrame := false
  noDelay := false
  framesDecoded := 0
  time := 0
  outFrame := none
  verr := 0
  verrcnt := 0
  raised := false
  pos := .idle
  temp := 0
  increment := 0
  block := 0
  coefficientPos := 0

/-- The ADE after power-on reset (R1301). -/
def Audio.reset : Audio where
  br := .reset
  hasHeader := false
  version := 0
  layer := 0
  hasCrc := false
  bitrateIndex := 0
  samplerateIndex := 0
  padding := false
  mode := 0
  modeExtension := 0
  channels := 2
  bound := 0
  nextFrameDataSize := 0
  allocation := List.replicate 64 none
  scfsi := List.replicate 64 0
  scalefactor := List.replicate 192 0
  sample := List.replicate 192 []
  delay := List.replicate 2048 []
  vPos := 0
  out := List.replicate 2304 []
  format := 0
  samplesDecoded := 0
  time := 0
  samplesTime := 0
  outValid := false
  aerr := 0
  aerrcnt := 0
  raised := false
  pos := .idle

/-- The block right after power-on reset (R1300, R1301): no command queued, nothing returned yet. -/
def State.reset : State := ⟨.reset, .reset, [], none⟩

end Sys2Proof.Machine
end

