-- ==== Sys2Proof/Machine/Ops.lean ====
section
/-! DEFINITION. The named operations every meaning is written in: the bit-reader primitives of
40_bitreader.md, the plane accesses of 20_memory.md, the ZZ register-file writes, and raising a cause
(60_exceptions.md), which is all this block has in place of taking an exception: "An error in the input
is not a trap: no state is saved, no handler runs, control does not move to a vector" (R1200), so there
is nothing to return from either (R1207). -/

namespace Sys2Proof.Machine

/-! ### Bit reader: observers (R400, R401) -/

/-- `size()` = `BR.length` in bytes (R401). -/
def BitReader.length (b : BitReader) : Nat := b.bytes.length

/-- `avail`, the number of bits not yet consumed (R400). -/
def BitReader.avail (b : BitReader) : Nat := 8 * b.length - b.bitIndex

/-- `remaining()` in bytes (R401). -/
def BitReader.remaining (b : BitReader) : Nat := b.length - b.bitIndex / 8

/-- `MemRead(a, 1)` (R201). -/
def BitReader.byteAt (b : BitReader) (a : Nat) : Byte := b.bytes.getD a 0

/-- Stream bit `k`: bit `7 - (k mod 8)` of byte `k >> 3` (R201). -/
def BitReader.bitAt (b : BitReader) (k : Nat) : Bool := (b.byteAt (k / 8)).getLsbD (7 - k % 8)

/-- The `n` stream bits from bit `k` on, first bit first. -/
def BitReader.bitsFrom (b : BitReader) : Nat → Nat → List Bool
  | _, 0 => []
  | k, n + 1 => b.bitAt k :: b.bitsFrom (k + 1) n

/-- The next bits at the cursor, at most `n` of them and none past the end of the store. -/
def BitReader.upcoming (b : BitReader) (n : Nat) : List Bool :=
  b.bitsFrom b.bitIndex (min n b.avail)

/-! ### Bit reader: availability and reads (R402-R406) -/

/-- The two effects of a failing `has` (R402): `need_data`, and `ended` where the end is known. -/
def BitReader.short (b : BitReader) : BitReader :=
  { b with needData := true
           ended := b.ended || (b.totalSize != 0 && b.length == b.totalSize) }

/-- `has(n)` (R402). -/
def BitReader.has (n : Nat) (b : BitReader) : Bool × BitReader :=
  if n ≤ b.avail then (true, b) else (false, b.short)

/-- What `read(n)` and `skip(n)` do to the reader (R403, R406): the cursor moves by `n`, or an
under-run is recorded and it stays. `read(0)` has no effect. -/
def BitReader.take (n : Nat) (b : BitReader) : BitReader :=
  if n = 0 then b
  else if n ≤ b.avail then { b with bitIndex := b.bitIndex + n }
  else { b.short with underrun := true }

/-- `read(n)` (R403): the field's value, 0 on an under-run, and the reader after it. -/
def BitReader.read (n : Nat) (b : BitReader) : Nat × BitReader :=
  (if n ≤ b.avail then natOfBits (b.bitsFrom b.bitIndex n) else 0, b.take n)

/-- `n` times `read1()` (R404), the way a VLC walk takes a codeword (R409). -/
def BitReader.takeOnes : Nat → BitReader → BitReader
  | 0, b => b
  | n + 1, b => BitReader.takeOnes n (b.take 1)

/-- A row of fields, each taken by its own `read` or `skip`. -/
def BitReader.takeFields (widths : List Nat) (b : BitReader) : BitReader :=
  widths.foldl (fun b n => b.take n) b

/-- `peek_nonzero(n)` (R404). -/
def BitReader.peekNonzero (n : Nat) (b : BitReader) : Bool × BitReader :=
  let (ok, b') := b.has n
  (ok && natOfBits (b.bitsFrom b.bitIndex n) != 0, b')

/-- `align()` (R405). -/
def BitReader.align (b : BitReader) : BitReader := { b with bitIndex := 8 * ((b.bitIndex + 7) / 8) }

/-- The loop of `skip_bytes` (R406): the number of bytes skipped. The first argument bounds the loop,
which moves on by a stored byte every time. -/
def BitReader.skipEqual (v : Byte) : Nat → BitReader → Nat × BitReader
  | 0, b => (0, b)
  | k + 1, b =>
    let (ok, b') := b.has 8
    if ok && b.byteAt (b.bitIndex / 8) == v then
      let (n, b'') := BitReader.skipEqual v k { b with bitIndex := b.bitIndex + 8 }
      (n + 1, b'')
    else (0, b')

/-- `skip_bytes(v)` (R406). -/
def BitReader.skipBytes (v : Byte) (b : BitReader) : Nat × BitReader :=
  BitReader.skipEqual v (b.length + 1) b.align

/-! ### Bit reader: start codes (R407, R408, R411) -/

/-- The bytes `00 00 01` at byte `i` (R407). -/
def BitReader.startCodeAt (b : BitReader) (i : Nat) : Bool :=
  b.byteAt i == 0 && b.byteAt (i + 1) == 0 && b.byteAt (i + 2) == 1

/-- The loop of `next_start_code` up to a start code, which stays unread: its value, and the reader with
the cursor on its first byte; none, and the reader where the loop stopped. The first argument bounds the
loop, which moves on by a byte every time. -/
def BitReader.seek : Nat → BitReader → Option Byte × BitReader
  | 0, b => (none, b.short)
  | k + 1, b =>
    let (ok, b') := b.has 40
    if !ok then (none, b')
    else if b.startCodeAt (b.bitIndex / 8) then (some (b.byteAt (b.bitIndex / 8 + 3)), b)
    else BitReader.seek k { b with bitIndex := b.bitIndex + 8 }

/-- `next_start_code()` up to the start code found (R407): `align()`, then the loop. -/
def BitReader.seekStartCode (b : BitReader) : Option Byte × BitReader :=
  BitReader.seek (b.length + 1) b.align

/-- `next_start_code()` (R407): a start code found is consumed. -/
def BitReader.nextStartCode (b : BitReader) : Option Byte × BitReader :=
  match b.seekStartCode with
  | (some x, b') => (some x, b'.take 32)
  | (none, b') => (none, b')

/-- The loop of `find_start_code(c)` (R408); the first argument bounds the number of start codes passed
over, each of which is consumed. -/
def BitReader.findLoop (c : Byte) : Nat → BitReader → Option Byte × BitReader
  | 0, b => (none, b)
  | k + 1, b =>
    match b.nextStartCode with
    | (some x, b') => if x = c then (some x, b') else BitReader.findLoop c k b'
    | (none, b') => (none, b')

/-- `find_start_code(c)` (R408). -/
def BitReader.findStartCode (c : Byte) (b : BitReader) : Option Byte × BitReader :=
  BitReader.findLoop c (b.length + 1) b

/-- `has_start_code(c)` (R411): the cursor and the discard flag are restored; what a failing `has` did
stays. -/
def BitReader.hasStartCode (c : Byte) (b : BitReader) : Option Byte × BitReader :=
  let (x, b') := BitReader.findStartCode c { b with discardRead := false }
  (x, { b' with bitIndex := b.bitIndex, discardRead := b.discardRead })

/-! ### Bit reader: MP2 frame sync (R412) -/

/-- Bytes `i` and `i + 1` are an MP2 syncword with version 3 and layer 2 (R412). -/
def BitReader.frameSyncAt (b : BitReader) (i : Nat) : Bool :=
  b.byteAt i == 0xFF && b.byteAt (i + 1) &&& 0xFE == 0xFC

/-- The loop of `find_frame_sync` from byte `i` on, over at most as many bytes as its first argument. -/
def BitReader.syncFrom (b : BitReader) : Nat → Nat → Option Nat
  | 0, _ => none
  | k + 1, i =>
    if b.length ≤ i + 1 then none
    else if b.frameSyncAt i then some i
    else b.syncFrom k (i + 1)

/-- `find_frame_sync()` (R412). -/
def BitReader.findFrameSync (b : BitReader) : Bool × BitReader :=
  match b.syncFrom b.length (b.bitIndex / 8) with
  | some i => (true, { b with bitIndex := 8 * (i + 1) + 3 })
  | none =>
    (false, if 1 ≤ b.length then { b with bitIndex := max b.bitIndex (8 * (b.length - 1)) } else b)

/-! ### Bit reader: host side (R203, R1153, R1154, R1302) -/

/-- Compaction (R203): the consumed bytes go, the cursor and a known end move with them. -/
def BitReader.compact (b : BitReader) : BitReader :=
  let d := b.bitIndex / 8
  { b with bytes := b.bytes.drop d
           bitIndex := b.bitIndex - 8 * d
           totalSize := b.totalSize - d }

/-- A length the bit store can hold (R1153, D2): at most BITSTORE_CAPACITY, which is at least
`Config.minimumCapacity`. -/
def fitsCapacity (n : Nat) : Bool :=
  decide (n ≤ Config.minimumCapacity) || decide (n ≤ Config.bitstoreCapacity)

/-- `write(bytes)` (R1153): compact, append, clear the end; a write past the capacity changes nothing. -/
def BitReader.write (bytes : List Byte) (b : BitReader) : BitReader :=
  let c := if b.discardRead then b.compact else b
  if fitsCapacity (c.length + bytes.length) then
    { c with bytes := c.bytes ++ bytes, ended := false }
  else b

/-- `signal_end()` (R1154). -/
def BitReader.signalEnd (b : BitReader) : BitReader := { b with totalSize := b.length }

/-- The bit-store part of REWIND (R1302 step 1 and `ended`). -/
def BitReader.rewind (b : BitReader) : BitReader :=
  if b.discardRead then { b with bytes := [], bitIndex := 0, totalSize := 0, ended := false }
  else { b with bitIndex := 0, ended := false }

/-! ### Plane memory (R204, R205) -/

/-- The value listed for an index. -/
def Memory.read : Memory → Nat → Option Byte
  | [], _ => none
  | (k, x) :: t, i => if i = k then some x else Memory.read t i

/-- A write keeps the indices strictly rising. -/
def Memory.write : Memory → Nat → Byte → Memory
  | [], i, x => [(i, x)]
  | (k, y) :: t, i, x =>
    if i < k then (i, x) :: (k, y) :: t
    else if i = k then (i, x) :: t
    else (k, y) :: Memory.write t i x

/-- A plane of a frame buffer. -/
def Frame.plane (f : Frame) : Plane → Memory
  | .y => f.y
  | .cb => f.cb
  | .cr => f.cr

/-- A frame buffer with one plane replaced. -/
def Frame.setPlane (f : Frame) : Plane → Memory → Frame
  | .y, m => { f with y := m }
  | .cb, m => { f with cb := m }
  | .cr, m => { f with cr := m }

/-- The number of a plane (opcode table, VFRAME_READ). -/
def Plane.number : Plane → Nat
  | .y => 0
  | .cb => 1
  | .cr => 2

/-- `FB[f]` (R108). -/
def Video.frame (v : Video) (f : Fin 3) : Frame :=
  match f with
  | 0 => v.fb0
  | 1 => v.fb1
  | 2 => v.fb2

/-- The engine with `FB[f]` replaced. -/
def Video.setFrame (v : Video) (f : Fin 3) (x : Frame) : Video :=
  match f with
  | 0 => { v with fb0 := x }
  | 1 => { v with fb1 := x }
  | 2 => { v with fb2 := x }

/-- `PlaneRead(f, p, i)` (R204): a sample nothing has written is UNSPECIFIED, a free value (R108). -/
def Video.planeRead (v : Video) (f : Fin 3) (p : Plane) (i : Nat) : Byte :=
  (((v.frame f).plane p).read i).getD (Config.unwrittenSample f.val p.number i)

/-- `PlaneWrite(f, p, i, v)` (R204). -/
def Video.planeWrite (v : Video) (f : Fin 3) (p : Plane) (i : Nat) (x : Byte) : Video :=
  v.setFrame f ((v.frame f).setPlane p (((v.frame f).plane p).write i x))

/-- `W(p)` (R205). -/
def Video.planeWidth (v : Video) : Plane → Nat
  | .y => v.lumaWidth.toNat
  | .cb => v.chromaWidth.toNat
  | .cr => v.chromaWidth.toNat

/-- `H(p)` (R205). -/
def Video.planeHeight (v : Video) : Plane → Nat
  | .y => v.lumaHeight.toNat
  | .cb => v.chromaHeight.toNat
  | .cr => v.chromaHeight.toNat

/-! ### Integers (R9) -/

/-- `a >> n`: the floor shift (R9). -/
def floorShift (a : Int) (n : Nat) : Int := a / 2 ^ n

/-- `clip(v, lo, hi)` (R9). -/
def clip (v lo hi : Int) : Int := min hi (max lo v)

/-- `clamp(v)` as a sample (R9, R204). -/
def clampSample (v : Int) : Byte := BitVec.ofNat 8 (clip v 0 255).toNat

/-! ### Register files -/

/-- The coefficient registers, all zero (R107, R720). -/
def zeroBlock : List Int := List.replicate 64 0

/-- A list with the entries from position `at_` on overwritten by `xs`, its length kept. -/
def splice : List α → Nat → List α → List α
  | [], _, _ => []
  | x :: l, _, [] => x :: l
  | _ :: l, 0, y :: ys => y :: splice l 0 ys
  | x :: l, n + 1, ys => x :: splice l n ys

/-! ### Raising a cause (R1201) -/

/-- The video causes (R1202). -/
inductive VideoCause where
  | seqHeaderInvalid | pictureTypeUnsupported | fCodeZero | vlcInvalid | mbAddressRange
  | coefPositionRange | mcOutOfFrame | noDelayBPicture
  deriving DecidableEq, Repr

/-- The code of a video cause (R1202). -/
def VideoCause.code : VideoCause → Nat
  | .seqHeaderInvalid => 0x10
  | .pictureTypeUnsupported => 0x11
  | .fCodeZero => 0x12
  | .vlcInvalid => 0x13
  | .mbAddressRange => 0x14
  | .coefPositionRange => 0x15
  | .mcOutOfFrame => 0x16
  | .noDelayBPicture => 0x17

/-- The audio causes (R1203). -/
inductive AudioCause where
  | resync | versionLayer | bitrate | samplerate | headerChange | scalefactor63 | groupedCodeRange
  deriving DecidableEq, Repr

/-- The code of an audio cause (R1203). -/
def AudioCause.code : AudioCause → Nat
  | .resync => 0x20
  | .versionLayer => 0x21
  | .bitrate => 0x22
  | .samplerate => 0x23
  | .headerChange => 0x24
  | .scalefactor63 => 0x25
  | .groupedCodeRange => 0x26

/-- An error counter after one more error: it stays at `2^32 - 1` (R1201, R1209). -/
def countError (n : Word) : Word := if n = 0xFFFFFFFF then n else n + 1

/-- `raise` on the VDE (R1201): the sticky bit, the counter, the command's `raised`. -/
def Video.raise (c : VideoCause) (v : Video) : Video :=
  { v with verr := v.verr ||| (1 <<< (c.code - 0x10))
           verrcnt := countError v.verrcnt
           raised := true }

/-- `raise` on the ADE (R1201). -/
def Audio.raise (c : AudioCause) (a : Audio) : Audio :=
  { a with aerr := a.aerr ||| (1 <<< (c.code - 0x20))
           aerrcnt := countError a.aerrcnt
           raised := true }

end Sys2Proof.Machine
end

