-- ==== Sys2Proof/Machine/Tables.lean ====
section
/-! DEFINITION. The constant tables of 30_encoding.md: the video tables R330-R335, and the MP2 tables
R336-R338, R340 and R341. -/

namespace Sys2Proof.Machine

/-! ### Video tables -/

/-- PICTURE_RATE (R330), with 0 for a reserved code. -/
def pictureRate (code : BitVec 4) : Rat :=
  match code.toNat with
  | 1 => 23976 / 1000
  | 2 => 24
  | 3 => 25
  | 4 => 2997 / 100
  | 5 => 30
  | 6 => 50
  | 7 => 5994 / 100
  | 8 => 60
  | _ => 0

/-- Table ASPECT (R331): the height/width ratio of a pel, none for the reserved codes 0 and 15. -/
def pelAspect (code : BitVec 4) : Option Rat :=
  match code.toNat with
  | 1 => some 1
  | 2 => some (6735 / 10000)
  | 3 => some (7031 / 10000)
  | 4 => some (7615 / 10000)
  | 5 => some (8055 / 10000)
  | 6 => some (8437 / 10000)
  | 7 => some (8935 / 10000)
  | 8 => some (9157 / 10000)
  | 9 => some (9815 / 10000)
  | 10 => some (10255 / 10000)
  | 11 => some (10695 / 10000)
  | 12 => some (10950 / 10000)
  | 13 => some (11575 / 10000)
  | 14 => some (12015 / 10000)
  | _ => none

/-- The pel aspect ratio of the sequence (R103, R331): the one of the code stored raw. It affects no
decoded sample. -/
def Video.pelAspectRatio (v : Video) : Option Rat := pelAspect v.aspectRatioIndex

/-- Table ZZ (R332). -/
def zigzagTable : List Nat := [
  0, 1, 8, 16, 9, 2, 3, 10,
  17, 24, 32, 25, 18, 11, 4, 5,
  12, 19, 26, 33, 40, 48, 41, 34,
  27, 20, 13, 6, 7, 14, 21, 28,
  35, 42, 49, 56, 57, 50, 43, 36,
  29, 22, 15, 23, 30, 37, 44, 51,
  58, 59, 52, 45, 38, 31, 39, 46,
  53, 60, 61, 54, 47, 55, 62, 63]

/-- `ZZ[n]` (R332). -/
def zigzag (n : Nat) : Nat := zigzagTable.getD n 0

/-- INTRA_Q (R333). -/
def intraQ : List Byte := [
  8, 16, 19, 22, 26, 27, 29, 34,
  16, 16, 22, 24, 27, 29, 34, 37,
  19, 22, 26, 27, 29, 34, 34, 38,
  22, 22, 26, 27, 29, 34, 37, 40,
  22, 26, 27, 29, 32, 35, 40, 48,
  26, 27, 29, 32, 35, 40, 48, 58,
  26, 27, 29, 34, 38, 46, 56, 69,
  27, 29, 35, 38, 46, 56, 69, 83]

/-- NON_INTRA_Q (R334). -/
def nonIntraQ : List Byte := List.replicate 64 16

/-- PM (R335). -/
def premultiplierTable : List Int := [
  32, 44, 42, 38, 32, 25, 17, 9,
  44, 62, 58, 52, 44, 35, 24, 12,
  42, 58, 55, 49, 42, 33, 23, 12,
  38, 52, 49, 44, 38, 30, 20, 10,
  32, 44, 42, 38, 32, 25, 17, 9,
  25, 35, 33, 30, 25, 20, 14, 7,
  17, 24, 23, 20, 17, 14, 9, 5,
  9, 12, 12, 10, 9, 7, 5, 2]

/-- `PM[i]` (R335). -/
def premultiplier (i : Nat) : Int := premultiplierTable.getD i 0

/-- A quantizer matrix given in transmission order, in natural order: entry `i` goes to `ZZ[i]`
(R310, R502 step 4). -/
def naturalOrder (m : List Byte) : List Byte :=
  (m.zip zigzagTable).foldl (fun q e => q.set e.2 e.1) (List.replicate 64 0)

/-! ### MP2 tables -/

/-- The level count `L` of a quantizer class (R336). -/
def QuantClass.levels : QuantClass → Nat
  | .q3 => 3
  | .q5 => 5
  | .q7 => 7
  | .q9 => 9
  | .q15 => 15
  | .q31 => 31
  | .q63 => 63
  | .q127 => 127
  | .q255 => 255
  | .q511 => 511
  | .q1023 => 1023
  | .q2047 => 2047
  | .q4095 => 4095
  | .q8191 => 8191
  | .q16383 => 16383
  | .q32767 => 32767
  | .q65535 => 65535

/-- The classes that code three samples in one code (R336). -/
def QuantClass.grouped : QuantClass → Bool
  | .q3 => true
  | .q5 => true
  | .q9 => true
  | _ => false

/-- The code width of a class (R336). -/
def QuantClass.codeWidth : QuantClass → Nat
  | .q3 => 5
  | .q5 => 7
  | .q7 => 3
  | .q9 => 10
  | .q15 => 4
  | .q31 => 5
  | .q63 => 6
  | .q127 => 7
  | .q255 => 8
  | .q511 => 9
  | .q1023 => 10
  | .q2047 => 11
  | .q4095 => 12
  | .q8191 => 13
  | .q16383 => 14
  | .q32767 => 15
  | .q65535 => 16

/-- BITRATE in kbit/s (R337), with 0 for a rejected index. -/
def bitrate (index : BitVec 4) : Nat :=
  match index.toNat with
  | 1 => 32
  | 2 => 48
  | 3 => 56
  | 4 => 64
  | 5 => 80
  | 6 => 96
  | 7 => 112
  | 8 => 128
  | 9 => 160
  | 10 => 192
  | 11 => 224
  | 12 => 256
  | 13 => 320
  | 14 => 384
  | _ => 0

/-- SAMPLE_RATE in Hz (R338), with 0 for the rejected index. -/
def sampleRate (index : BitVec 2) : Nat :=
  match index.toNat with
  | 0 => 44100
  | 1 => 48000
  | 2 => 32000
  | _ => 0

/-- The four allocation tables (R340, R341). -/
inductive AllocationTable where
  | a | b | c | d
  deriving DecidableEq, Repr

/-- `sblimit` of an allocation table (R340). -/
def AllocationTable.sblimit : AllocationTable → Nat
  | .a => 27
  | .b => 30
  | .c => 8
  | .d => 12

/-- The per-channel rate `pc` (R340); `kbps / 2` is exact, since every table rate is even. -/
def channelRate (bitrateIndex : BitVec 4) (mode : BitVec 2) : Nat :=
  if mode = 3 then bitrate bitrateIndex else bitrate bitrateIndex / 2

/-- The allocation table of a frame (R1001, R340). -/
def allocationTable (bitrateIndex : BitVec 4) (mode samplerateIndex : BitVec 2) : AllocationTable :=
  let pc := channelRate bitrateIndex mode
  if pc ≤ 48 then (if samplerateIndex = 2 then .d else .c)
  else if pc ≤ 80 then .a
  else if samplerateIndex = 1 then .a
  else .b

/-- `nbal(tab, sb)` (R341). -/
def AllocationTable.nbal (t : AllocationTable) (sb : Nat) : Nat :=
  match t with
  | .a => if sb ≤ 10 then 4 else if sb ≤ 22 then 3 else 2
  | .b => if sb ≤ 10 then 4 else if sb ≤ 22 then 3 else 2
  | .c => if sb ≤ 1 then 4 else 3
  | .d => if sb ≤ 1 then 4 else 3

/-- The class list of tables A and B for a subband (R341). -/
def classesAB (sb : Nat) : List QuantClass :=
  if sb ≤ 2 then
    [.q3, .q7, .q15, .q31, .q63, .q127, .q255, .q511, .q1023, .q2047, .q4095, .q8191, .q16383,
      .q32767, .q65535]
  else if sb ≤ 10 then
    [.q3, .q5, .q7, .q9, .q15, .q31, .q63, .q127, .q255, .q511, .q1023, .q2047, .q4095, .q8191,
      .q65535]
  else if sb ≤ 22 then [.q3, .q5, .q7, .q9, .q15, .q31, .q65535]
  else [.q3, .q5, .q65535]

/-- The class list of tables C and D for a subband (R341). -/
def classesCD (sb : Nat) : List QuantClass :=
  if sb ≤ 1 then
    [.q3, .q5, .q9, .q15, .q31, .q63, .q127, .q255, .q511, .q1023, .q2047, .q4095, .q8191,
      .q16383, .q32767]
  else [.q3, .q5, .q9, .q15, .q31, .q63, .q127]

/-- `CLASS(tab, sb, a)` (R341, R1003): allocation 0 is NONE, allocation `a` the `a`-th class. -/
def AllocationTable.quantClass (t : AllocationTable) (sb a : Nat) : Option QuantClass :=
  let classes :=
    match t with
    | .a => classesAB sb
    | .b => classesAB sb
    | .c => classesCD sb
    | .d => classesCD sb
  if a = 0 then none else classes[a - 1]?

end Sys2Proof.Machine
end

