-- ==== Sys2Proof/Machine/Operands.lean ====
section
/-! DEFINITION. The operand forms: how the fields of an element combine into the number the element
carries (30_encoding.md R315-R317), and how a motion vector is wrapped, halved and doubled
(44_video_motion_comp.md R802-R806). -/

namespace Sys2Proof.Machine

/-! ### DCT levels (R315, R706, R707) -/

/-- A magnitude with its sign bit (R300, R315). -/
def signedLevel (sign : Bool) (level : Nat) : Int := if sign then -(level : Int) else level

/-- The level of an escape whose `level8` is neither 0 nor 128 (R315). -/
def shortLevel (level8 : Byte) : Int :=
  if 128 < level8.toNat then (level8.toNat : Int) - 256 else level8.toNat

/-- The level of an escape with `level8 = 0` (R315). -/
def longPositiveLevel (level2 : Byte) : Int := level2.toNat

/-- The level of an escape with `level8 = 128` (R315). -/
def longNegativeLevel (level2 : Byte) : Int := (level2.toNat : Int) - 256

/-- The level fields of an escape, read at the cursor (R706). -/
def readEscapeLevel (b : BitReader) : Int × BitReader :=
  let (level8, b) := b.read 8
  if level8 = 0 then
    let (level2, b) := b.read 8
    (longPositiveLevel (BitVec.ofNat 8 level2), b)
  else if level8 = 128 then
    let (level2, b) := b.read 8
    (longNegativeLevel (BitVec.ofNat 8 level2), b)
  else (shortLevel (BitVec.ofNat 8 level8), b)

/-! ### Intra DC (R316, R702) -/

/-- The differential coded by the `z`-bit value `u` (R316, R702). -/
def dcDifferential (z u : Nat) : Int :=
  if z = 0 then 0
  else if u.testBit (z - 1) then u
  else (u : Int) - (2 ^ z - 1)

/-- The differential after a `dct_dc_size` of `z`, read at the cursor (R702). -/
def readDcDifferential (z : Nat) (b : BitReader) : Int × BitReader :=
  let (u, b) := b.read z
  (dcDifferential z u, b)

/-! ### Motion vectors (R317, R802-R804, R806) -/

/-- The differential of a motion code and its residual (R802). -/
def motionDelta (rSize : Nat) (code : Int) (residual : Nat) : Int :=
  if code = 0 ∨ rSize = 0 then code
  else
    let d := ((code.natAbs : Int) - 1) * 2 ^ rSize + residual + 1
    if code < 0 then -d else d

/-- The wrap of a motion component (R803). -/
def wrapMotion (rSize : Nat) (m : Int) : Int :=
  let fscale : Int := 2 ^ rSize
  if fscale * 16 - 1 < m then m - fscale * 32
  else if m < -(fscale * 16) then m + fscale * 32
  else m

/-- MVC (R802): the new value of a component with old value `m`, after its `motion_code`. The residual
is read where the code is not 0 and `fscale` is not 1. -/
def motionComponent (rSize : Nat) (code m : Int) (b : BitReader) : Int × BitReader :=
  let (residual, b) := if code ≠ 0 ∧ rSize ≠ 0 then b.read rSize else (0, b)
  (wrapMotion rSize (m + motionDelta rSize code residual), b)

/-- The luma vector a direction predicts with, in half samples (R804). -/
def MotionState.lumaVector (m : MotionState) : Int × Int :=
  if m.fullPx then (m.h * 2, m.v * 2) else (m.h, m.v)

/-- The chroma component of a luma component: halved toward zero (R806). -/
def halveVector (m : Int) : Int := m.tdiv 2

end Sys2Proof.Machine
end

