-- ==== Sys2Proof/Machine/AudioNumber.lean ====
section
/-! DEFINITION. Exact arithmetic of the audio engine: sums of rational multiples of
`cos (c * pi / 64) * 2 ^ (t / 3)`, in the canonical form `Surd` names. The requantizer (R1008) yields
multiples of `2 ^ (t / 3)` and the matrixing (R1101) multiplies by cosines, so nothing is rounded. -/

namespace Sys2Proof.Machine

/-- `q * cos (c * pi / 64) * 2 ^ (t / 3)` with `k = 3 * c + t` added to a number. -/
def addTerm (k : Nat) (q : Rat) : Surd → Surd
  | [] => if q = 0 then [] else [(k, q)]
  | (j, p) :: rest =>
    if k < j then (if q = 0 then (j, p) :: rest else (k, q) :: (j, p) :: rest)
    else if k = j then (if p + q = 0 then rest else (j, p + q) :: rest)
    else (j, p) :: addTerm k q rest

/-- The sum of two numbers. -/
def addSurd (x y : Surd) : Surd := x.foldl (fun sum e => addTerm e.1 e.2 sum) y

/-- `cos (m * pi / 64)` as a sign and the index `c < 32` of a basis cosine: period 128, even, and odd
around 32, where it is 0. -/
def reduceCosine (m : Nat) : Nat × Int :=
  let r := m % 128
  let r := if 64 < r then 128 - r else r
  if r < 32 then (r, 1) else if r = 32 then (0, 0) else (64 - r, -1)

/-- `q * cos (m * pi / 64) * 2 ^ (t / 3)` added to a number, for any `m`. -/
def addCosine (m t : Nat) (q : Rat) (x : Surd) : Surd :=
  let (c, sign) := reduceCosine m
  addTerm (3 * c + t) (sign * q) x

/-- The product of a number and `cos (m * pi / 64)`, by
`cos a * cos b = (cos (a + b) + cos (a - b)) / 2`. -/
def mulCosine (m : Nat) (x : Surd) : Surd :=
  x.foldl (fun sum e =>
    let c := e.1 / 3
    let t := e.1 % 3
    addCosine (m + c) t (e.2 / 2) (addCosine (m + 128 - c) t (e.2 / 2) sum)) []

/-- The multiplier `SCF[i] = 2 ^ (1 - i / 3)` (R342) as a coefficient and the exponent `t` of
`2 ^ (t / 3)`: with `i = 3 * a + b` it is `2 ^ (1 - a)`, `2 ^ (-a) * 2 ^ (2 / 3)` or
`2 ^ (-a) * 2 ^ (1 / 3)` for `b` 0, 1 or 2. -/
def scaleFactor (i : Nat) : Rat × Nat :=
  let scale : Rat := 1 / 2 ^ (i / 3)
  match i % 3 with
  | 0 => (2 * scale, 0)
  | 1 => (scale, 2)
  | _ => (scale, 1)

/-- The requantized and rescaled sample of a code (R1008); the reserved index 63 has the multiplier 0. -/
def requantize (q : QuantClass) (factor : BitVec 6) (code : Nat) : Surd :=
  if factor = 63 then []
  else
    let levels : Int := q.levels
    let (scale, t) := scaleFactor factor.toNat
    addTerm t (((2 * code - (levels - 1) : Int) : Rat) / levels * scale) []

end Sys2Proof.Machine
end

