-- ==== Sys2Proof/Machine/Synthesis.lean ====
section
/-! DEFINITION. The polyphase synthesis filter bank (47_audio_synthesis.md R1100-R1103), exact, with the
entries of SYNTH_WINDOW as symbols (R343, R1104). -/

namespace Sys2Proof.Machine

/-- The subbands with a nonzero sample, each with its sample: the input `S_ch` of a step (R1006 (e)). -/
def Audio.subbandInput (a : Audio) (ch k : Nat) : List (Nat × Surd) :=
  (List.range 32).filterMap fun sb =>
    let x := a.sample.getD (3 * (32 * ch + sb) + k) []
    if x.isEmpty then none else some (sb, x)

/-- The matrixed word `i` (R1101): a subband whose sample is 0 adds nothing. -/
def matrixWord (input : List (Nat × Surd)) (i : Nat) : Surd :=
  input.foldl (fun sum e => addSurd (mulCosine ((16 + i) * (2 * e.1 + 1) % 128) e.2) sum) []

/-- The 64 matrixed words of a step (R1101). -/
def matrixVector (input : List (Nat × Surd)) : List Surd := (List.range 64).map (matrixWord input)

/-- The shift and the matrixing of both channels (R1101). -/
def Audio.matrixing (k : Nat) (a : Audio) : Audio :=
  let v0 := matrixVector (a.subbandInput 0 k)
  let v1 := matrixVector (a.subbandInput 1 k)
  let vPos := a.vPos - 64
  { a with
      vPos := vPos
      delay := splice (splice a.delay vPos.toNat v0) (1024 + vPos.toNat) v1 }

/-- `Vc(n)` (R1102). -/
def Audio.delayWord (a : Audio) (ch n : Nat) : Surd :=
  a.delay.getD (1024 * ch + (a.vPos.toNat + n) % 1024) []

/-- The window entries and delay-line offsets that output `j` sums over (R1102), window entry first. -/
def windowTaps (j : Nat) : List (Nat × Nat) :=
  (List.range 8).flatMap fun i => [(64 * i + j, 128 * i + j), (64 * i + 32 + j, 128 * i + 96 + j)]

/-- `out_ch[j]` (R1102). -/
def Audio.windowSample (a : Audio) (ch j : Nat) : WindowSum :=
  (windowTaps j).filterMap fun tap =>
    let x := a.delayWord ch tap.2
    if x.isEmpty then none else some (tap.1, x)

/-- The 32 outputs of a channel. -/
def Audio.windowOutput (a : Audio) (ch : Nat) : List WindowSum :=
  (List.range 32).map (a.windowSample ch)

/-- One synthesis step on sample `k` of granule `granule` of part `part` (R1006 (e), R1100-R1103). -/
def Audio.synthesisStep (part granule : Nat) (a : Audio) (k : Nat) : Audio :=
  let a := a.matrixing k
  let at_ := 96 * (4 * part + granule) + 32 * k
  { a with out := splice (splice a.out at_ (a.windowOutput 0)) (1152 + at_) (a.windowOutput 1) }

end Sys2Proof.Machine
end

