-- ==== Sys2Proof/Machine/AudioFrame.lean ====
section
/-! DEFINITION. DECODE_FRAME (46_audio_frame.md R1000-R1012): allocations, scalefactor selection,
scalefactors, and twelve granules of sample triples, each followed by three synthesis steps. -/

namespace Sys2Proof.Machine

/-! ### Register files (R112) -/

/-- The position of `[ch][sb]` in a 2 x 32 register file. -/
def bandIndex (ch sb : Nat) : Nat := 32 * ch + sb

/-- `A.allocation[ch][sb]`. -/
def Audio.allocationOf (a : Audio) (ch sb : Nat) : Option QuantClass :=
  a.allocation.getD (bandIndex ch sb) none

/-- `A.allocation[ch][sb] := x`. -/
def Audio.setAllocation (x : Option QuantClass) (sb : Nat) (a : Audio) (ch : Nat) : Audio :=
  { a with allocation := a.allocation.set (bandIndex ch sb) x }

/-- `A.sample[ch][sb][0..2] := xs`. -/
def Audio.setTriple (ch sb : Nat) (xs : List Surd) (a : Audio) : Audio :=
  { a with sample := splice a.sample (3 * bandIndex ch sb) xs }

/-- `A.sample[ch][sb][0..2]`. -/
def Audio.triple (a : Audio) (ch sb : Nat) : List Surd :=
  (List.range 3).map fun i => a.sample.getD (3 * bandIndex ch sb + i) []

/-- Three samples of 0. -/
def zeroTriple : List Surd := [[], [], []]

/-! ### Frame parameters (R1001, R1002) -/

/-- `tab` (R1001). -/
def Audio.table (a : Audio) : AllocationTable :=
  allocationTable a.bitrateIndex a.mode a.samplerateIndex

/-- `bnd` (R1002). -/
def Audio.effectiveBound (a : Audio) : Nat := min a.bound.toNat a.table.sblimit

/-- `nch`. -/
def Audio.channelCount (a : Audio) : Nat := a.channels.toNat

/-- The numbers `lo .. hi - 1`. -/
def numbersFrom (lo hi : Nat) : List Nat := List.range' lo (hi - lo)

/-- A step for `sb` in the given subbands and, inside, for `ch = 0 .. nch - 1`. -/
def Audio.forBands (bands : List Nat) (f : Nat → Nat → Audio → Audio) (a : Audio) : Audio :=
  let channels := List.range a.channelCount
  bands.foldl (fun a sb => channels.foldl (fun a ch => f ch sb a) a) a

/-! ### Allocations (R1003) -/

/-- One allocation field of subband `sb`, for the given channels. -/
def Audio.readAllocation (channels : List Nat) (sb : Nat) (a : Audio) : Audio :=
  let (x, br) := a.br.read (a.table.nbal sb)
  channels.foldl (Audio.setAllocation (a.table.quantClass sb x) sb) { a with br := br }

/-- R1003. -/
def Audio.readAllocations (a : Audio) : Audio :=
  let bound := a.effectiveBound
  let limit := a.table.sblimit
  let a := a.forBands (numbersFrom 0 bound) fun ch sb a => a.readAllocation [ch] sb
  let a := (numbersFrom bound limit).foldl (fun a sb => a.readAllocation [0, 1] sb) a
  (numbersFrom limit 32).foldl (fun a sb => [0, 1].foldl (Audio.setAllocation none sb) a) a

/-! ### Scalefactors (R1004, R1005) -/

/-- One selector, where the subband is allocated (R1004). -/
def Audio.readSelector (ch sb : Nat) (a : Audio) : Audio :=
  if (a.allocationOf ch sb).isSome then
    let (x, br) := a.br.read 2
    { a with br := br, scfsi := a.scfsi.set (bandIndex ch sb) (BitVec.ofNat 2 x) }
  else a

/-- The three scalefactors a selector gives (R1005), and the reader after their fields. -/
def readFactors (selector : BitVec 2) (b : BitReader) : List (BitVec 6) × BitReader :=
  let (r1, b) := b.read 6
  let f1 := BitVec.ofNat 6 r1
  match selector.toNat with
  | 0 =>
    let (r2, b) := b.read 6
    let (r3, b) := b.read 6
    ([f1, BitVec.ofNat 6 r2, BitVec.ofNat 6 r3], b)
  | 1 =>
    let (r2, b) := b.read 6
    ([f1, f1, BitVec.ofNat 6 r2], b)
  | 2 => ([f1, f1, f1], b)
  | _ =>
    let (r2, b) := b.read 6
    ([f1, BitVec.ofNat 6 r2, BitVec.ofNat 6 r2], b)

/-- The scalefactors of a subband, where it is allocated (R1005). -/
def Audio.readScalefactors (ch sb : Nat) (a : Audio) : Audio :=
  if (a.allocationOf ch sb).isSome then
    let (factors, br) := readFactors (a.scfsi.getD (bandIndex ch sb) 0) a.br
    { a with br := br, scalefactor := splice a.scalefactor (3 * bandIndex ch sb) factors }
  else a

/-! ### Samples (R1006-R1011) -/

/-- The three codes of a triple (R1007). -/
def Audio.readCodes (q : QuantClass) (a : Audio) : List Nat × Audio :=
  let levels := q.levels
  let (c, br) := a.br.read q.codeWidth
  if q.grouped then
    let a := { a with br := br }
    let a := if levels ^ 3 ≤ c then a.raise .groupedCodeRange else a
    ([c % levels, c / levels % levels, c / levels / levels], a)
  else
    let (s1, br) := br.read q.codeWidth
    let (s2, br) := br.read q.codeWidth
    ([c, s1, s2], { a with br := br })

/-- The codes of a triple become the samples of a channel (R1008). DEDUCED: the informational cause of
scalefactor index 63 is raised once for each triple it is used for (log entry 11). -/
def Audio.requantizeTriple (q : QuantClass) (codes : List Nat) (ch sb part : Nat) (a : Audio) : Audio :=
  let factor := a.scalefactor.getD (3 * bandIndex ch sb + part) 0
  let a := if factor = 63 then a.raise .scalefactor63 else a
  a.setTriple ch sb (codes.map (requantize q factor))

/-- READ_TRIPLE(ch, sb, part) (R1007, R1008). -/
def Audio.readTriple (part ch sb : Nat) (a : Audio) : Audio :=
  match a.allocationOf ch sb with
  | none => a.setTriple ch sb zeroTriple
  | some q =>
    let (codes, a) := a.readCodes q
    a.requantizeTriple q codes ch sb part

/-- The shared triple (R1009): one set of codes. In mono channel 1 takes channel 0's samples afterwards
(R1011), whatever JS_SHARE_MODE is. -/
def Audio.readSharedTriple (part : Nat) (a : Audio) (sb : Nat) : Audio :=
  match a.allocationOf 0 sb with
  | none => (a.setTriple 0 sb zeroTriple).setTriple 1 sb zeroTriple
  | some q =>
    let (codes, a) := a.readCodes q
    let a := a.requantizeTriple q codes 0 sb part
    if a.channels = 1 then a
    else
      match Config.jsShareMode with
      | .isoPerChannel => a.requantizeTriple q codes 1 sb part
      | .copyCh0 => a.setTriple 1 sb (a.triple 0 sb)

/-- Channel 1 takes channel 0's samples (R1011). -/
def Audio.duplicateMono (a : Audio) : Audio :=
  if a.channels = 1 then { a with sample := splice a.sample 96 (a.sample.take 96) } else a

/-- One granule (R1006). -/
def Audio.decodeGranule (part : Nat) (a : Audio) (granule : Nat) : Audio :=
  let bound := a.effectiveBound
  let limit := a.table.sblimit
  let a := a.forBands (numbersFrom 0 bound) fun ch sb a => a.readTriple part ch sb
  let a := (numbersFrom bound limit).foldl (Audio.readSharedTriple part) a
  let a := (numbersFrom limit 32).foldl
    (fun a sb => (a.setTriple 0 sb zeroTriple).setTriple 1 sb zeroTriple) a
  (List.range 3).foldl (Audio.synthesisStep part granule) a.duplicateMono

/-- DECODE_FRAME (R1000, R1012). -/
def Audio.decodeFrame (a : Audio) : Audio :=
  let bands := numbersFrom 0 a.table.sblimit
  let a := a.readAllocations
  let a := a.forBands bands Audio.readSelector
  let a := a.forBands bands Audio.readScalefactors
  let a := (List.range 3).foldl
    (fun a part => (List.range 4).foldl (Audio.decodeGranule part) a) a
  { a with br := a.br.align }

end Sys2Proof.Machine
end

