-- ==== Sys2Proof/Machine/Flags.lean ====
section
/-! DEFINITION. The flags: the bits of a macroblock type and of a coded block pattern (R606, R611), the
response words (R1152), and the fields of the control and status registers with their access rules
(R118, R1159). -/

namespace Sys2Proof.Machine

/-! ### Macroblock flags -/

/-- The intra bit 0x01 of a macroblock type (R106). -/
def typeIntra (t : BitVec 5) : Bool := t.getLsbD 0

/-- The pattern bit 0x02. -/
def typePattern (t : BitVec 5) : Bool := t.getLsbD 1

/-- The backward bit 0x04. -/
def typeBackward (t : BitVec 5) : Bool := t.getLsbD 2

/-- The forward bit 0x08. -/
def typeForward (t : BitVec 5) : Bool := t.getLsbD 3

/-- The qscale bit 0x10. -/
def typeQscale (t : BitVec 5) : Bool := t.getLsbD 4

/-- Block `i` is coded: `cbp & (0x20 >> i)` (R611). -/
def blockCoded (cbp : BitVec 6) (i : Nat) : Bool := (cbp &&& (0x20#6 >>> i)) != 0

/-! ### Response words -/

/-- A bit as a word. -/
def bitWord (b : Bool) : Word := if b then 1 else 0

/-- The response word of VDECODE (R1152). -/
def videoResponse (v : Video) : Word :=
  bitWord v.outFrame.isSome ||| bitWord v.br.needData <<< 1 ||| bitWord v.br.ended <<< 2 |||
    bitWord v.raised <<< 3 |||
    (match v.outFrame with
     | some f => BitVec.ofNat 32 f.val <<< 4
     | none => 0)

/-- The response word of ADECODE (R1152, R1156). -/
def audioResponse (a : Audio) : Word :=
  bitWord a.outValid ||| bitWord a.br.needData <<< 1 ||| bitWord a.br.ended <<< 2 |||
    bitWord a.raised <<< 3

/-! ### Control and status registers: reads (R118) -/

/-- A field at bit `k` of a register. -/
def fieldAt (k : Nat) (v : BitVec w) : Word := v.setWidth 32 <<< k

/-- A sequence-register field: "the CSRs read 0" before the first accepted sequence header (R1301). -/
def sequenceField (v : Video) (x : Word) : Word := if v.hasSequenceHeader then x else 0

/-- VCTRL. -/
def vctrl (v : Video) : Word := bitWord v.noDelay ||| bitWord v.br.discardRead <<< 1

/-- VSTATUS. -/
def vstatus (v : Video) : Word :=
  bitWord v.hasSequenceHeader ||| bitWord v.br.ended <<< 1 ||| bitWord v.hasReferenceFrame <<< 2 |||
    bitWord v.outFrame.isSome <<< 3 ||| bitWord v.br.underrun <<< 4

/-- VSIZE. -/
def vsize (v : Video) : Word := sequenceField v (fieldAt 0 v.width ||| fieldAt 16 v.height)

/-- VSEQ. -/
def vseq (v : Video) : Word :=
  sequenceField v
    (fieldAt 0 v.aspectRatioIndex ||| fieldAt 4 v.pictureRateIndex ||| fieldAt 8 v.bitRate)

/-- VMB. -/
def vmb (v : Video) : Word := sequenceField v (fieldAt 0 v.mbWidth ||| fieldAt 16 v.mbHeight)

/-- VPICT. -/
def vpict (v : Video) : Word :=
  fieldAt 0 v.pictureType |||
    (match v.outFrame with
     | some f => BitVec.ofNat 32 f.val <<< 4
     | none => 0)

/-- ACTRL. -/
def actrl (a : Audio) : Word := fieldAt 0 a.format ||| bitWord a.br.discardRead <<< 2

/-- ASTATUS. -/
def astatus (a : Audio) : Word :=
  bitWord a.hasHeader ||| bitWord a.br.ended <<< 1 ||| bitWord a.outValid <<< 2 |||
    bitWord a.br.underrun <<< 3

/-- AHDR. -/
def ahdr (a : Audio) : Word :=
  fieldAt 0 a.bitrateIndex ||| fieldAt 4 a.samplerateIndex ||| fieldAt 6 a.mode |||
    fieldAt 8 a.modeExtension ||| fieldAt 10 a.bound ||| bitWord a.hasCrc <<< 16 |||
    bitWord a.padding <<< 17 ||| fieldAt 18 a.channels

/-- The register of the map numbered `r`; a number not in the map reads 0 (R118, R1159). -/
def csrValue (v : Video) (a : Audio) (r : Nat) : Word :=
  match r with
  | 0x00 => vctrl v
  | 0x01 => vstatus v
  | 0x02 => fieldAt 0 v.verr
  | 0x03 => vsize v
  | 0x04 => vseq v
  | 0x05 => vmb v
  | 0x06 => BitVec.ofNat 32 v.framesDecoded
  | 0x07 => vpict v
  | 0x08 => v.verrcnt
  | 0x10 => actrl a
  | 0x11 => astatus a
  | 0x12 => fieldAt 0 a.aerr
  | 0x13 => ahdr a
  | 0x14 => BitVec.ofNat 32 a.samplesDecoded
  | 0x15 => a.aerrcnt
  | _ => 0

/-! ### Control and status registers: writes (R118, R1159) -/

/-- A write to a register of the VDE: the RW fields of VCTRL take the value, UNDERRUN and the bits of
VERR clear where the value has a 1, VERRCNT becomes 0; every other register ignores it. -/
def writeVideoCsr (r : Nat) (x : Word) (v : Video) : Video :=
  match r with
  | 0x00 => { v with noDelay := x.getLsbD 0, br.discardRead := x.getLsbD 1 }
  | 0x01 => { v with br.underrun := v.br.underrun && !x.getLsbD 4 }
  | 0x02 => { v with verr := v.verr &&& ~~~(x.setWidth 10) }
  | 0x08 => { v with verrcnt := 0 }
  | _ => v

/-- A write to a register of the ADE. -/
def writeAudioCsr (r : Nat) (x : Word) (a : Audio) : Audio :=
  match r with
  | 0x10 => { a with format := x.setWidth 2, br.discardRead := x.getLsbD 2 }
  | 0x11 => { a with br.underrun := a.br.underrun && !x.getLsbD 3 }
  | 0x12 => { a with aerr := a.aerr &&& ~~~(x.setWidth 7) }
  | 0x15 => { a with aerrcnt := 0 }
  | _ => a

/-- The register is one of the VDE's (R118). -/
def csrOfVideo (r : Nat) : Bool := decide (r ≤ 0x08)

/-- The register is one of the ADE's (R118). -/
def csrOfAudio (r : Nat) : Bool := decide (0x10 ≤ r) && decide (r ≤ 0x15)

end Sys2Proof.Machine
end

