-- ==== Sys2Proof/Machine/AudioHeader.lean ====
section
/-! DEFINITION. ADECODE below its header search (45_audio_header.md): the meanings of the two MP2 header
rows (R902-R908), and what ADECODE does once a header is accepted (R901 steps 3-5). A row's codeword
begins at the syncword; the meaning consumes the bits the rules read, field by field, and stops where a
header is rejected. -/

namespace Sys2Proof.Machine

/-- ADECODE returns with no output (R901). -/
def Audio.returnNone (a : Audio) : Audio := { a with pos := .finished }

/-- Step 5 of R901: the clocks. -/
def Audio.emitSamples (a : Audio) : Audio :=
  { a with
      samplesTime := a.time
      samplesDecoded := a.samplesDecoded + 1152
      time := ((a.samplesDecoded + 1152 : Nat) : Rat) / sampleRate a.samplerateIndex
      outValid := true
      pos := .finished }

/-- Steps 3 to 5 of R901: the body is decoded once all of it is stored. -/
def Audio.decodeBody (a : Audio) : Audio :=
  if a.nextFrameDataSize = 0 then a.returnNone
  else
    let (ok, br) := a.br.has (8 * a.nextFrameDataSize.toNat)
    let a := { a with br := br }
    if ok then { a.decodeFrame with nextFrameDataSize := 0 }.emitSamples else a.returnNone

/-- ADECODE from its start to its header search (R1156, R901 steps 1 and 2): the 48 bits are those at the
cursor, stuffing among them. -/
def Audio.beginDecode (a : Audio) : Audio :=
  let a := { a with outValid := false, raised := false, br.needData := false }
  if a.nextFrameDataSize = 0 then
    let (ok, br) := a.br.has 48
    let a := { a with br := br }
    if ok then { a with pos := .header } else a.returnNone
  else a.decodeBody

/-- A decode command of the ADE that has ended returns its response word, and the engine is idle again
(R1152, R1156); the command-local flags are gone with the command (R1301). -/
def deliverAudio (s : State) : State :=
  if s.a.pos = .finished then
    { s with
        a := { s.a with pos := .idle, raised := false, br.needData := false }
        response := some (audioResponse s.a) }
  else s

/-- One element of the audio stream. -/
def audioRow (f : Audio → Audio) (s : State) : Result := .next (deliverAudio { s with a := f s.a })

/-- A rejected header (R904, R905): DECODE_HEADER returns 0, so ADECODE has no output (R909). -/
def Audio.rejectHeader (c : AudioCause) (a : Audio) : Audio :=
  { a.raise c with nextFrameDataSize := 0 }.returnNone

/-- The header differs from the latched one (R905). -/
def Audio.headerChanged (h : Mp2Header) (a : Audio) : Bool :=
  a.hasHeader &&
    (h.bitrateIndex != a.bitrateIndex || h.samplingFrequency != a.samplerateIndex || h.mode != a.mode)

/-- The stereo bound (R906). -/
def stereoBound (mode extension : BitVec 2) : BitVec 6 :=
  if mode = 1 then BitVec.ofNat 6 ((extension.toNat + 1) * 4)
  else if mode = 3 then 0
  else 32

/-- The bytes of the frame body (R908). -/
def bodySize (bitrateIndex : BitVec 4) (samplerateIndex : BitVec 2) (padding hasCrc : Bool) : Nat :=
  144000 * bitrate bitrateIndex / sampleRate samplerateIndex + padding.toNat -
    (if hasCrc then 6 else 4)

/-- The latch of an accepted header (R905, R906, R908). -/
def Audio.latchHeader (h : Mp2Header) (a : Audio) : Audio :=
  { a with
      version := 3
      layer := 2
      hasCrc := !h.protection
      bitrateIndex := h.bitrateIndex
      samplerateIndex := h.samplingFrequency
      padding := h.padding
      mode := h.mode
      channels := if h.mode = 3 then 1 else 2
      hasHeader := true
      modeExtension := h.modeExtension
      bound := stereoBound h.mode h.modeExtension
      nextFrameDataSize :=
        BitVec.ofNat 16 (bodySize h.bitrateIndex h.samplingFrequency h.padding (!h.protection)) }

/-- How many bits of a header R902 and R904 to R907 read, from its syncword on: all of them, with the CRC word
where it has one, or those up to the check that rejects it. -/
def Audio.headerReads (i : Instr) (a : Audio) : Nat :=
  match i with
  | .mp2Header h =>
    if h.bitrateIndex = 0 ∨ h.bitrateIndex = 15 then 20
    else if h.samplingFrequency = 3 then 22
    else if a.headerChanged h then 26
    else if h.protection then 32
    else 48
  | _ => 16

/-- A header of version 3 and layer 2 (R902, R904-R908), then steps 3 to 5 of R901. -/
def Audio.headerRow (h : Mp2Header) (a : Audio) : Audio :=
  let a := { a with br := a.br.takeFields [11, 2, 2, 1, 4] }
  if h.bitrateIndex = 0 ∨ h.bitrateIndex = 15 then a.rejectHeader .bitrate
  else
    let a := { a with br := a.br.take 2 }
    if h.samplingFrequency = 3 then a.rejectHeader .samplerate
    else
      let a := { a with br := a.br.takeFields [1, 1, 2] }
      if a.headerChanged h then a.rejectHeader .headerChange
      else
        let a := { a with
          br := a.br.takeFields ([2, 4] ++ if h.protection then [] else [16]) }
        (a.latchHeader h).decodeBody

/-- `MP2_HEADER` (R902, R904-R908). -/
def execMp2Header (h : Mp2Header) (s : State) : Result := audioRow (.headerRow h) s

/-- A header of another version or layer (R902, R904): the bits after the protection bit stay. -/
def Audio.otherHeaderRow (_ : Mp2SyncOther) (a : Audio) : Audio :=
  { a with br := a.br.takeFields [11, 2, 2, 1] }.rejectHeader .versionLayer

/-- `MP2_SYNC_OTHER` (R904). -/
def execMp2SyncOther (h : Mp2SyncOther) (s : State) : Result := audioRow (.otherHeaderRow h) s

end Sys2Proof.Machine
end

