-- ==== Sys2Proof/Machine/Predict.lean ====
section
/-! DEFINITION. Motion-compensated prediction (44_video_motion_comp.md R804-R809). -/

namespace Sys2Proof.Machine

/-- The interpolated value at (x, y), with `s` the samples of the source plane and `oddH`, `oddV` the
half-sample bits of the vector (R805). -/
def interpolate (s : Int → Int → Nat) (oddH oddV : Bool) (x y : Int) : Nat :=
  match oddH, oddV with
  | false, false => s x y
  | true, false => (s x y + s (x + 1) y + 1) / 2
  | false, true => (s x y + s x (y + 1) + 1) / 2
  | true, true => (s x y + s (x + 1) y + s x (y + 1) + s (x + 1) (y + 1) + 2) / 4

/-- The half-sample bit of a vector component (R805). -/
def oddComponent (m : Int) : Bool := m % 2 == 1

/-- `x0` and `y0` of R805: where the rectangle read begins. -/
def Video.predictionOrigin (v : Video) (mh mv : Int) (size : Nat) : Int × Int :=
  ((v.mbCol.toNat * size : Nat) + floorShift mh 1, (v.mbRow.toNat * size : Nat) + floorShift mv 1)

/-- The range check of R807: the rectangle read lies in the plane. -/
def Video.predictionInRange (v : Video) (p : Plane) (mh mv : Int) (size : Nat) : Bool :=
  let (x0, y0) := v.predictionOrigin mh mv size
  decide (0 ≤ x0) && decide (0 ≤ y0) &&
    decide (x0 + size - 1 + (oddComponent mh).toNat < v.planeWidth p) &&
    decide (y0 + size - 1 + (oddComponent mv).toNat < v.planeHeight p)

/-- The plane index of sample `k` of the macroblock's block, in row-major order (R805). -/
def Video.predictionIndex (v : Video) (p : Plane) (size k : Nat) : Nat :=
  (v.mbRow.toNat * size + k / size) * v.planeWidth p + v.mbCol.toNat * size + k % size

/-- Sample `k` of the block is predicted from frame `s` (R805). -/
def Video.predictSample (average : Bool) (s : Fin 3) (p : Plane) (mh mv : Int) (size : Nat)
    (v : Video) (k : Nat) : Video :=
  let (x0, y0) := v.predictionOrigin mh mv size
  let source := fun (x y : Int) => (v.planeRead s p (y * v.planeWidth p + x).toNat).toNat
  let value := interpolate source (oddComponent mh) (oddComponent mv)
    (x0 + (k % size : Nat)) (y0 + (k / size : Nat))
  let i := v.predictionIndex p size k
  let value := if average then ((v.planeRead v.cur p i).toNat + value + 1) / 2 else value
  v.planeWrite v.cur p i (BitVec.ofNat 8 value)

/-- PLANE_PREDICT (R805) with its range check: a block read from outside the plane is not predicted, and
McOutOfFrame is raised (R807). -/
def Video.planePredict (average : Bool) (s : Fin 3) (p : Plane) (mh mv : Int) (size : Nat)
    (v : Video) : Video :=
  if v.predictionInRange p mh mv size then
    (List.range (size * size)).foldl (Video.predictSample average s p mh mv size) v
  else v.raise .mcOutOfFrame

/-- The three planes of a macroblock predicted from one frame with one luma vector (R806). -/
def Video.predictFrom (average : Bool) (s : Fin 3) (vector : Int × Int) (v : Video) : Video :=
  let ch := halveVector vector.1
  let cv := halveVector vector.2
  let v := v.planePredict average s .y vector.1 vector.2 16
  let v := v.planePredict average s .cb ch cv 8
  v.planePredict average s .cr ch cv 8

/-- PREDICT_MACROBLOCK (R808, R809). -/
def Video.predictMacroblock (v : Video) : Video :=
  let forward := v.mf.lumaVector
  let backward := v.mb.lumaVector
  if v.pictureType = 3 then
    if v.mf.isSet then
      let w := v.predictFrom false v.fwd forward
      if v.mb.isSet then w.predictFrom true w.bwd backward else w
    else v.predictFrom false v.bwd backward
  else v.predictFrom false v.fwd forward

end Sys2Proof.Machine
end

