-- ==== Sys2Proof/Machine/Transform.lean ====
section
/-! DEFINITION. The block pipeline of 43_video_block_idct.md: dequantization (R710-R713), the inverse
transform (R715-R717), and the reconstruction of a block in the current frame (R714, R718-R720).
IDCT_IMPL has its default, the datapath of R716-R717 (D20). The fast path of R721 needs no definition
of its own: its result is that of the transform. -/

namespace Sys2Proof.Machine

/-! ### Dequantization -/

/-- R710: the scaled level. -/
def scaleLevel (intra : Bool) (quantizerScale quantEntry level : Int) : Int :=
  let doubled := level * 2
  let adjusted := if intra then doubled else if doubled < 0 then doubled - 1 else doubled + 1
  floorShift (adjusted * quantizerScale * quantEntry) 4

/-- R711: an even level moves one toward 0, and 0 becomes 1 (D35). -/
def oddCorrect (level : Int) : Int :=
  if level % 2 = 0 then (if 0 < level then level - 1 else level + 1) else level

/-- R710-R712. -/
def dequantize (intra : Bool) (quantizerScale quantEntry level : Int) : Int :=
  clip (oddCorrect (scaleLevel intra quantizerScale quantEntry level)) (-2048) 2047

/-- `QM` (R700). -/
def Video.quantMatrix (v : Video) : List Byte :=
  if v.macroblockIntra then v.intraQuantMatrix else v.nonIntraQuantMatrix

/-- What is stored at natural position `idx` for a level (R710-R713). -/
def Video.coefficient (v : Video) (idx : Nat) (level : Int) : Int :=
  dequantize v.macroblockIntra v.quantizerScale.toNat (v.quantMatrix.getD idx 0).toNat level *
    premultiplier idx

/-! ### Inverse transform -/

/-- T8 (R716). -/
def transform8 (c : Nat → Int) : List Int :=
  let b1 := c 4
  let b3 := c 2 + c 6
  let b4 := c 5 - c 3
  let tmp1 := c 1 + c 7
  let tmp2 := c 3 + c 5
  let b6 := c 1 - c 7
  let b7 := tmp1 + tmp2
  let m0 := c 0
  let x4 := floorShift (b6 * 473 - b4 * 196 + 128) 8 - b7
  let x0 := x4 - floorShift ((tmp1 - tmp2) * 362 + 128) 8
  let x1 := m0 - b1
  let x2 := floorShift ((c 2 - c 6) * 362 + 128) 8 - b3
  let x3 := m0 + b1
  let y3 := x1 + x2
  let y4 := x3 + b3
  let y5 := x1 - x2
  let y6 := x3 - b3
  let y7 := -x0 - floorShift (b4 * 473 + b6 * 196 + 128) 8
  [b7 + y4, x4 + y3, y5 - x0, y6 - y7, y6 + y7, x0 + y5, y3 - x4, y4 - b7]

/-- The column pass (R717): column `k` of the result is T8 of column `k`. -/
def columnPass (block : List Int) : List Int :=
  let columns := (List.range 8).map fun k => transform8 fun j => block.getD (8 * j + k) 0
  (List.range 64).map fun i => (columns.getD (i % 8) []).getD (i / 8) 0

/-- The row pass (R717): row `r` of the result is T8 of row `r`, rounded. -/
def rowPass (block : List Int) : List Int :=
  (List.range 8).flatMap fun r =>
    (transform8 fun j => block.getD (8 * r + j) 0).map fun o => floorShift (o + 128) 8

/-- The residual or sample block `R` (R717). -/
def inverseTransform (block : List Int) : List Int := rowPass (columnPass block)

/-! ### Reconstruction -/

/-- Where a block goes: its plane, the index of its first sample, and the plane's stride (R714). -/
structure BlockTarget where
  plane : Plane
  base : Nat
  stride : Nat
  deriving DecidableEq, Repr

/-- The destination of block `i` (R714). -/
def Video.blockTarget (v : Video) (i : Nat) : BlockTarget :=
  let row := v.mbRow.toNat
  let col := v.mbCol.toNat
  let luma := v.lumaWidth.toNat
  let chromaBase := row * luma * 4 + col * 8
  match i with
  | 0 => ⟨.y, (row * luma + col) * 16, luma⟩
  | 1 => ⟨.y, (row * luma + col) * 16 + 8, luma⟩
  | 2 => ⟨.y, (row * luma + col) * 16 + luma * 8, luma⟩
  | 3 => ⟨.y, (row * luma + col) * 16 + 8 + luma * 8, luma⟩
  | 4 => ⟨.cb, chromaBase, v.chromaWidth.toNat⟩
  | _ => ⟨.cr, chromaBase, v.chromaWidth.toNat⟩

/-- The plane index of sample `k` of a block, in row-major order (R714). -/
def BlockTarget.index (t : BlockTarget) (k : Nat) : Nat := t.base + k / 8 * t.stride + k % 8

/-- Sample `k` of the block is written: `R` in an intra macroblock (R718), added to the predicted
sample in any other (R719). -/
def Video.writeBlockSample (residual : List Int) (t : BlockTarget) (v : Video) (k : Nat) : Video :=
  let i := t.index k
  let r := residual.getD k 0
  let sample :=
    if v.macroblockIntra then r else ((v.planeRead v.cur t.plane i).toNat : Int) + r
  v.planeWrite v.cur t.plane i (clampSample sample)

/-- A block is transformed, written to the current frame and cleared (R714-R720). -/
def Video.reconstruct (v : Video) : Video :=
  let residual := inverseTransform v.blockData
  let t := v.blockTarget v.block
  { (List.range 64).foldl (Video.writeBlockSample residual t) v with blockData := zeroBlock }

end Sys2Proof.Machine
end

