-- ==== Sys2Proof/Machine/VideoControl.lean ====
section
/-! DEFINITION. The control of the video engine, from VDECODE down to the block loop: what the rules of
41_video_sequence_picture.md, 42_video_slice_macroblock.md and 43_video_block_idct.md do between two
elements of the stream, cut at the points where the next element is read. Each operation ends by
saying, in `pos`, what the cursor then stands before. Every meaning of a video row is one of these over
the row's own operands. -/

namespace Sys2Proof.Machine

/-! ### The end of a command (R501, R507-R509) -/

/-- VDECODE returns NONE (R501). -/
def Video.returnNone (v : Video) : Video := { v with pos := .finished }

/-- Emission of frame `f` (R508): VDECODE returns FRAME(f). -/
def Video.emit (f : Fin 3) (v : Video) : Video :=
  let x := v.frame f
  let v := v.setFrame f { x with time := v.time }
  { v with framesDecoded := v.framesDecoded + 1
           time := ((v.framesDecoded + 1 : Nat) : Rat) / v.framerate
           outFrame := some f
           pos := .finished }

/-! ### The picture loop of VDECODE (R501 step 3) -/

/-- Step 3b and the entry of 3c: the picture is decoded once the next picture start code is stored or
the end is known. -/
def Video.beginPicture (v : Video) : Video :=
  let (next, br) := v.br.hasStartCode 0x00
  let v := { v with br := br }
  if next.isNone && !br.ended then v.returnNone else { v with pos := .pictureHeader }

/-- Step 3a: a picture start code already found is not searched again. -/
def Video.pictureLoop (v : Video) : Video :=
  if v.startCode = some 0x00 then v.beginPicture else { v with pos := .pictureSearch }

/-- The search of step 3a has found nothing: the held-back reference is flushed at a known end. -/
def Video.endOfPictures (v : Video) : Video :=
  let v := { v with startCode := none }
  if v.hasReferenceFrame && !v.noDelay && v.br.ended then
    { v with hasReferenceFrame := false }.emit v.bwd
  else v.returnNone

/-- A dropped picture (R511). -/
def Video.dropPicture (c : VideoCause) (v : Video) : Video :=
  ({ v.raise c with startCode := none }).pictureLoop

/-- Pre-rotation (R505). -/
def Video.preRotate (v : Video) : Video :=
  let v := { v with temp := v.fwd }
  if v.pictureType = 1 ∨ v.pictureType = 2 then { v with fwd := v.bwd } else v

/-- Post-rotation (R506). -/
def Video.postRotate (v : Video) : Video :=
  if v.pictureType = 1 ∨ v.pictureType = 2 then { v with bwd := v.cur, cur := v.temp } else v

/-- Output selection (R507, R509) and what follows it: emission, or the next picture. -/
def Video.selectOutput (v : Video) : Video :=
  if v.noDelay then
    let v := if v.pictureType = 3 then v.raise .noDelayBPicture else v
    v.emit v.bwd
  else if v.pictureType = 3 then v.emit v.cur
  else if v.hasReferenceFrame then v.emit v.fwd
  else { v with hasReferenceFrame := true }.pictureLoop

/-- The end of a picture: R506, then R501 step 3d. -/
def Video.endPicture (v : Video) : Video := v.postRotate.selectOutput

/-! ### The sequence header of VDECODE (R502) -/

/-- Step 1 of DECODE_SEQUENCE_HEADER: the longest header must be stored, or the end known. -/
def Video.beginSequenceHeader (v : Video) : Video :=
  let (ok, br) := v.br.has 1088
  let v := { v with br := br }
  if !ok && !br.ended then v.returnNone else { v with pos := .sequenceHeader }

/-- HAS_HEADER (R502): a sequence start code already found is not searched again. -/
def Video.sequenceLoop (v : Video) : Video :=
  if v.startCode = some 0xB3 then v.beginSequenceHeader else { v with pos := .sequenceSearch }

/-- VDECODE from its start to its first element (R1155, R501 steps 1 and 2): the command-local flags
and `out_frame` are cleared. -/
def Video.beginDecode (v : Video) : Video :=
  let v := { v with outFrame := none, raised := false, br.needData := false }
  if v.hasSequenceHeader then v.pictureLoop else v.sequenceLoop

/-! ### Slices and macroblocks (R601-R612) -/

/-- An error inside a slice ends it (R612): the coefficient registers are cleared, and the scan for the
next start code follows. -/
def Video.sliceError (c : VideoCause) (v : Video) : Video :=
  { v.raise c with blockData := zeroBlock, pos := .sliceSearch }

/-- Both components of a direction at 0. -/
def MotionState.zeroVector (m : MotionState) : MotionState := { m with h := 0, v := 0 }

/-- The DC predictors at 128 (R601). -/
def dcReset : List Int := [128, 128, 128]

/-- DECODE_SLICE up to its quantizer scale (R601). -/
def Video.beginSlice (sv : Byte) (v : Video) : Video :=
  { v with sliceBegin := true
           macroblockAddress := BitVec.ofInt 32 (((sv.toNat : Int) - 1) * v.mbWidth.toNat - 1)
           mf := v.mf.zeroVector
           mb := v.mb.zeroVector
           dcPredictor := dcReset
           pos := .sliceHeader }

/-- DECODE_MACROBLOCK begins: `inc := 0` (R604). -/
def Video.beginMacroblock (v : Video) : Video := { v with increment := 0, pos := .addressIncrement }

/-- The test at the end of a macroblock (R603). DEDUCED: the second operand of the "and" is evaluated
only where the first holds (log entry 6). -/
def Video.endMacroblock (v : Video) : Video :=
  if v.macroblockAddress.toInt < (v.mbSize.toNat : Int) - 1 then
    let (more, br) := v.br.peekNonzero 23
    let v := { v with br := br }
    if more then v.beginMacroblock else { v with pos := .sliceSearch }
  else { v with pos := .sliceSearch }

/-- An address as `V.macroblock_address` holds it, in signed 32 bits (R106). DESIGN CHOICE (log entry 29):
the spec does not say what an address outside that range leaves, so it leaves a free value. -/
def storedAddress (x : Int) : Word :=
  if -2 ^ 31 ≤ x ∧ x < 2 ^ 31 then BitVec.ofInt 32 x else Config.addressBeyond x

/-- `mb_row` and `mb_col` of the macroblock address (R206, R605). An address of the picture, the only one R605
lets through, has its row and its column inside the picture (R714) and so inside their 9 bits (R106). -/
def Video.locate (v : Video) : Video :=
  { v with mbRow := BitVec.ofInt 9 (v.macroblockAddress.toInt.tdiv v.mbWidth.toNat)
           mbCol := BitVec.ofInt 9 (v.macroblockAddress.toInt.tmod v.mbWidth.toNat) }

/-- `n` skipped macroblocks (R605), each predicted with the current motion state (R809). -/
def Video.skipMacroblocks : Nat → Video → Video
  | 0, v => v
  | n + 1, v =>
    Video.skipMacroblocks n
      ({ v with macroblockAddress := v.macroblockAddress + 1 }.locate.predictMacroblock)

/-- The predictor resets of a skip run (R605). -/
def Video.resetForSkip (v : Video) : Video :=
  let v := { v with dcPredictor := dcReset }
  if v.pictureType = 2 then { v with mf := v.mf.zeroVector } else v

/-- The address update (R605), with `inc` complete. DEDUCED (log entry 29): the sum itself is tested in both
branches, so a sum beyond the address register is an address beyond the picture, whatever the register then
holds; no other reading keeps every sample access inside its plane (R204, R714). -/
def Video.updateAddress (v : Video) : Video :=
  let next := v.macroblockAddress.toInt + v.increment
  if v.sliceBegin then
    let v := { v with sliceBegin := false, macroblockAddress := storedAddress next }
    if (v.mbSize.toNat : Int) ≤ next then v.sliceError .mbAddressRange
    else { v.locate with pos := .macroblockType }
  else if (v.mbSize.toNat : Int) ≤ next then v.sliceError .mbAddressRange
  else
    let v := if 1 < v.increment then v.resetForSkip else v
    let v := v.skipMacroblocks (v.increment - 1)
    { { v with macroblockAddress := v.macroblockAddress + 1 }.locate with pos := .macroblockType }

/-! ### Blocks (R611, R700-R713) -/

/-- DECODE_BLOCK(i) begins (R700): an intra block with its DC size, any other with its coefficients. -/
def Video.beginBlock (i : Nat) (v : Video) : Video :=
  { v with block := i, coefficientPos := 0, pos := if v.macroblockIntra then .dcSize else .coefficient }

/-- The first coded block from block `i` on, over at most as many blocks as the first argument (R611). -/
def nextCoded (cbp : BitVec 6) : Nat → Nat → Option Nat
  | 0, _ => none
  | k + 1, i => if blockCoded cbp i then some i else nextCoded cbp k (i + 1)

/-- The block loop from block `i` on (R611): the next coded block, or the end of the macroblock. -/
def Video.blocksFrom (i : Nat) (v : Video) : Video :=
  match nextCoded v.cbp (6 - i) i with
  | some j => v.beginBlock j
  | none => v.endMacroblock

/-- The coded block pattern stage (R610): a pattern follows, or its value is implied. -/
def Video.patternStage (v : Video) : Video :=
  if typePattern v.macroblockType then { v with pos := .codedBlockPattern }
  else { v with cbp := if v.macroblockIntra then 0x3F else 0 }.blocksFrom 0

/-- A coefficient of run `run` and level `level` (R708-R713). -/
def Video.placeCoefficient (run : Nat) (level : Int) (v : Video) : Video :=
  let n := v.coefficientPos + run
  if 64 ≤ n then v.sliceError .coefPositionRange
  else
    { v with blockData := v.blockData.set (zigzag n) (v.coefficient (zigzag n) level)
             coefficientPos := n + 1
             pos := .coefficient }

/-- The end of a block (R705): its reconstruction (R714-R720), then the next block. -/
def Video.endBlock (v : Video) : Video := v.reconstruct.blocksFrom (v.block + 1)

/-- The plane `p` of a block's DC predictor (R701). -/
def dcPlane (block : Nat) : Nat := if block ≤ 3 then 0 else block - 3

/-- The intra DC coefficient with differential `diff` (R703). -/
def Video.placeDc (diff : Int) (v : Video) : Video :=
  let p := dcPlane v.block
  let dc := v.dcPredictor.getD p 0 + diff
  { v with dcPredictor := v.dcPredictor.set p dc
           blockData := v.blockData.set 0 (dc * 256)
           coefficientPos := 1
           pos := .coefficient }

/-! ### Motion vectors (R801) -/

/-- After the last vector: the macroblock is predicted (R609) and the pattern stage follows. -/
def Video.endMotion (v : Video) : Video := v.predictMacroblock.patternStage

/-- The backward part of DECODE_MOTION_VECTORS (R801). -/
def Video.backwardMotion (v : Video) : Video :=
  if v.mb.isSet then { v with pos := .motion true false } else v.endMotion

/-- DECODE_MOTION_VECTORS begins (R801). -/
def Video.beginMotion (v : Video) : Video :=
  if v.mf.isSet then { v with pos := .motion false false }
  else if v.pictureType = 2 then { v with mf := v.mf.zeroVector }.backwardMotion
  else v.backwardMotion

/-- The motion component the cursor stands before: its direction (backward or not) and its axis (vertical
or not). Away from a motion position, the first one. -/
def Video.motionTarget (v : Video) : Bool × Bool :=
  match v.pos with
  | .motion backward vertical => (backward, vertical)
  | _ => (false, false)

/-- A motion record after MVC of one component, and the reader after it (R801, R802). -/
def MotionState.update (vertical : Bool) (code : Int) (m : MotionState) (b : BitReader) :
    MotionState × BitReader :=
  if vertical then
    let (x, b) := motionComponent m.rSize.toNat code m.v b
    ({ m with v := x }, b)
  else
    let (x, b) := motionComponent m.rSize.toNat code m.h b
    ({ m with h := x }, b)

/-- One component with motion code `code`, and what follows it in the order of R801: horizontal before
vertical, forward before backward. -/
def Video.motionElement (code : Int) (v : Video) : Video :=
  let (backward, vertical) := v.motionTarget
  let (m, br) := MotionState.update vertical code (if backward then v.mb else v.mf) v.br
  let v := if backward then { v with br := br, mb := m } else { v with br := br, mf := m }
  if !vertical then { v with pos := .motion backward true }
  else if backward then v.endMotion
  else v.backwardMotion

/-! ### Macroblock types (R606-R609) -/

/-- A macroblock type `t`, its codeword consumed: R606, the quantizer scale of R607, then R608 or
R609. -/
def Video.macroblockHeader (t : BitVec 5) (v : Video) : Video :=
  let v := { v with macroblockType := t
                    macroblockIntra := typeIntra t
                    mf.isSet := typeForward t
                    mb.isSet := typeBackward t }
  let v :=
    if typeQscale t then
      let (q, br) := v.br.read 5
      { v with br := br, quantizerScale := BitVec.ofNat 5 q }
    else v
  if typeIntra t then
    { v with mf := v.mf.zeroVector, mb := v.mb.zeroVector }.patternStage
  else { v with dcPredictor := dcReset }.beginMotion

/-! ### Start codes (R302, R407, R408, R504) -/

/-- A start code of value `x` in the slice range 0x01..0xAF (R302). -/
def isSlice (x : Byte) : Bool := decide (1 ≤ x.toNat) && decide (x.toNat ≤ 0xAF)

/-- A start code after the first slice (R504): a slice, or the end of the picture. -/
def Video.afterSlice (x : Byte) (v : Video) : Video :=
  let v := { v with startCode := some x }
  if isSlice x then v.beginSlice x else v.endPicture

/-- A start code of value `x`, its four bytes consumed, for the search that met it: the two searches of
R408 pass over every value but their own; the scans of R504 act on it. Away from a search it is passed
over. -/
def Video.startCodeArrived (x : Byte) (v : Video) : Video :=
  match v.pos with
  | .sequenceSearch =>
    if x = 0xB3 then { v with startCode := some x }.beginSequenceHeader else v
  | .pictureSearch =>
    if x = 0x00 then { v with startCode := some x }.beginPicture else v
  | .bodySearch =>
    if x = 0xB5 ∨ x = 0xB2 then { v with startCode := some x } else v.afterSlice x
  | .sliceSearch => v.afterSlice x
  | _ => v

/-- A search has met no start code: `V.start_code := -1`, and what each rule does then (R501, R502,
R504). -/
def Video.startCodeExhausted (v : Video) : Video :=
  match v.pos with
  | .sequenceSearch => { v with startCode := none }.returnNone
  | .pictureSearch => v.endOfPictures
  | .bodySearch => { v with startCode := none }.endPicture
  | .sliceSearch => { v with startCode := none }.endPicture
  | _ => v

end Sys2Proof.Machine
end

