-- ==== Sys2Proof/Machine/Rows.lean ====
section
/-! DEFINITION. The shared operations of the video rows: what every row of a family does, given its
codeword's length and its value. A row consumes its own bits and then does what the rules say; it never
traps (R1200), so each answers a next state. -/

namespace Sys2Proof.Machine

/-- A decode command of the VDE that has ended returns its response word, and the engine is idle again
(R1152, R1155); the command-local flags are gone with the command (R1301). -/
def deliverVideo (s : State) : State :=
  if s.v.pos = .finished then
    { s with
        v := { s.v with pos := .idle, raised := false, br.needData := false }
        response := some (videoResponse s.v) }
  else s

/-- One element of the video stream. -/
def videoRow (f : Video → Video) (s : State) : Result := .next (deliverVideo { s with v := f s.v })

/-- The `len` bits of a codeword are consumed, one `read1()` each (R409). -/
def Video.takeCodeword (len : Nat) (v : Video) : Video := { v with br := v.br.takeOnes len }

/-! ### Start codes -/

/-- A start code of value `x` at the cursor (R302, R407). -/
def Video.startCodeRow (x : Byte) (v : Video) : Video :=
  { v with br := v.br.take 32 }.startCodeArrived x

/-! ### Table MBA (R604, R605) -/

/-- An increment `t` of 1..33, which completes `inc`. -/
def Video.addressRow (len t : Nat) (v : Video) : Video :=
  let v := v.takeCodeword len
  { v with increment := v.increment + t }.updateAddress

/-- `macroblock_stuffing`: read again. -/
def Video.stuffingRow (len : Nat) (v : Video) : Video :=
  { v.takeCodeword len with pos := .addressIncrement }

/-- `macroblock_escape`: 33 more, and read again. -/
def Video.addressEscapeRow (len : Nat) (v : Video) : Video :=
  let v := v.takeCodeword len
  { v with increment := v.increment + 33, pos := .addressIncrement }

/-! ### Tables MBT_I, MBT_P, MBT_B, CBP -/

/-- A macroblock type of flag mask `t` (R606-R609). -/
def Video.typeRow (len : Nat) (t : BitVec 5) (v : Video) : Video :=
  (v.takeCodeword len).macroblockHeader t

/-- A coded block pattern (R610), then the block loop (R611). -/
def Video.patternRow (len : Nat) (pattern : BitVec 6) (v : Video) : Video :=
  { v.takeCodeword len with cbp := pattern }.blocksFrom 0

/-! ### Tables MOTION, DCT_DC_Y, DCT_DC_C -/

/-- The motion code 0, which has no sign bit (R323, R802). -/
def Video.motionZeroRow (len : Nat) (v : Video) : Video := (v.takeCodeword len).motionElement 0

/-- A motion code of magnitude `m` and its sign bit, which is part of the codeword (R317, R409). -/
def Video.motionRow (len m : Nat) (sign : Bool) (v : Video) : Video :=
  (v.takeCodeword (len + 1)).motionElement (signedLevel sign m)

/-- A DC size `z`, then its differential (R701-R703). -/
def Video.dcSizeRow (len z : Nat) (v : Video) : Video :=
  let v := v.takeCodeword len
  let (diff, br) := readDcDifferential z v.br
  { v with br := br }.placeDc diff

/-! ### Table DCT -/

/-- The end of a block (R705). -/
def Video.endOfBlockRow (len : Nat) (v : Video) : Video := (v.takeCodeword len).endBlock

/-- A table coefficient and its sign bit (R705, R707). -/
def Video.coefficientRow (len run level : Nat) (sign : Bool) (v : Video) : Video :=
  { v with br := (v.br.takeOnes len).take 1 }.placeCoefficient run (signedLevel sign level)

/-- The bare escape codeword: the run and the level are read here (R706). -/
def Video.escapeRow (len : Nat) (v : Video) : Video :=
  let v := v.takeCodeword len
  let (run, br) := v.br.read 6
  let (level, br) := readEscapeLevel br
  { v with br := br }.placeCoefficient run level

/-- A completed escape: the codeword, then fields of the given widths (R315, R706). -/
def Video.completedEscapeRow (len : Nat) (widths : List Nat) (run : BitVec 6) (level : Int)
    (v : Video) : Video :=
  { v with br := (v.br.takeOnes len).takeFields widths }.placeCoefficient run.toNat level

/-! ### Reserved prefixes (R326) -/

/-- An invalid prefix of a VLC table: VlcInvalid, with the bits of the prefix consumed (R409, R612). -/
def Video.reservedRow (len : Nat) (v : Video) : Video :=
  (v.takeCodeword len).sliceError .vlcInvalid

end Sys2Proof.Machine
end

