-- ==== Sys2Proof/Machine/Cbp.lean ====
section
/-! DEFINITION. The meanings of the rows of table CBP (R322, R326): coded block patterns (R610, R611). -/

namespace Sys2Proof.Machine

/-- `CBP_60` (R610, R611). -/
def execCbp60 (s : State) : Result := videoRow (.patternRow 3 60) s

/-- `CBP_4` (R610, R611). -/
def execCbp4 (s : State) : Result := videoRow (.patternRow 4 4) s

/-- `CBP_8` (R610, R611). -/
def execCbp8 (s : State) : Result := videoRow (.patternRow 4 8) s

/-- `CBP_16` (R610, R611). -/
def execCbp16 (s : State) : Result := videoRow (.patternRow 4 16) s

/-- `CBP_32` (R610, R611). -/
def execCbp32 (s : State) : Result := videoRow (.patternRow 4 32) s

/-- `CBP_12` (R610, R611). -/
def execCbp12 (s : State) : Result := videoRow (.patternRow 5 12) s

/-- `CBP_48` (R610, R611). -/
def execCbp48 (s : State) : Result := videoRow (.patternRow 5 48) s

/-- `CBP_20` (R610, R611). -/
def execCbp20 (s : State) : Result := videoRow (.patternRow 5 20) s

/-- `CBP_40` (R610, R611). -/
def execCbp40 (s : State) : Result := videoRow (.patternRow 5 40) s

/-- `CBP_28` (R610, R611). -/
def execCbp28 (s : State) : Result := videoRow (.patternRow 5 28) s

/-- `CBP_44` (R610, R611). -/
def execCbp44 (s : State) : Result := videoRow (.patternRow 5 44) s

/-- `CBP_52` (R610, R611). -/
def execCbp52 (s : State) : Result := videoRow (.patternRow 5 52) s

/-- `CBP_56` (R610, R611). -/
def execCbp56 (s : State) : Result := videoRow (.patternRow 5 56) s

/-- `CBP_1` (R610, R611). -/
def execCbp1 (s : State) : Result := videoRow (.patternRow 5 1) s

/-- `CBP_61` (R610, R611). -/
def execCbp61 (s : State) : Result := videoRow (.patternRow 5 61) s

/-- `CBP_2` (R610, R611). -/
def execCbp2 (s : State) : Result := videoRow (.patternRow 5 2) s

/-- `CBP_62` (R610, R611). -/
def execCbp62 (s : State) : Result := videoRow (.patternRow 5 62) s

/-- `CBP_24` (R610, R611). -/
def execCbp24 (s : State) : Result := videoRow (.patternRow 6 24) s

/-- `CBP_36` (R610, R611). -/
def execCbp36 (s : State) : Result := videoRow (.patternRow 6 36) s

/-- `CBP_3` (R610, R611). -/
def execCbp3 (s : State) : Result := videoRow (.patternRow 6 3) s

/-- `CBP_63` (R610, R611). -/
def execCbp63 (s : State) : Result := videoRow (.patternRow 6 63) s

/-- `CBP_5` (R610, R611). -/
def execCbp5 (s : State) : Result := videoRow (.patternRow 7 5) s

/-- `CBP_9` (R610, R611). -/
def execCbp9 (s : State) : Result := videoRow (.patternRow 7 9) s

/-- `CBP_17` (R610, R611). -/
def execCbp17 (s : State) : Result := videoRow (.patternRow 7 17) s

/-- `CBP_33` (R610, R611). -/
def execCbp33 (s : State) : Result := videoRow (.patternRow 7 33) s

/-- `CBP_6` (R610, R611). -/
def execCbp6 (s : State) : Result := videoRow (.patternRow 7 6) s

/-- `CBP_10` (R610, R611). -/
def execCbp10 (s : State) : Result := videoRow (.patternRow 7 10) s

/-- `CBP_18` (R610, R611). -/
def execCbp18 (s : State) : Result := videoRow (.patternRow 7 18) s

/-- `CBP_34` (R610, R611). -/
def execCbp34 (s : State) : Result := videoRow (.patternRow 7 34) s

/-- `CBP_7` (R610, R611). -/
def execCbp7 (s : State) : Result := videoRow (.patternRow 8 7) s

/-- `CBP_11` (R610, R611). -/
def execCbp11 (s : State) : Result := videoRow (.patternRow 8 11) s

/-- `CBP_19` (R610, R611). -/
def execCbp19 (s : State) : Result := videoRow (.patternRow 8 19) s

/-- `CBP_35` (R610, R611). -/
def execCbp35 (s : State) : Result := videoRow (.patternRow 8 35) s

/-- `CBP_13` (R610, R611). -/
def execCbp13 (s : State) : Result := videoRow (.patternRow 8 13) s

/-- `CBP_49` (R610, R611). -/
def execCbp49 (s : State) : Result := videoRow (.patternRow 8 49) s

/-- `CBP_21` (R610, R611). -/
def execCbp21 (s : State) : Result := videoRow (.patternRow 8 21) s

/-- `CBP_41` (R610, R611). -/
def execCbp41 (s : State) : Result := videoRow (.patternRow 8 41) s

/-- `CBP_14` (R610, R611). -/
def execCbp14 (s : State) : Result := videoRow (.patternRow 8 14) s

/-- `CBP_50` (R610, R611). -/
def execCbp50 (s : State) : Result := videoRow (.patternRow 8 50) s

/-- `CBP_22` (R610, R611). -/
def execCbp22 (s : State) : Result := videoRow (.patternRow 8 22) s

/-- `CBP_42` (R610, R611). -/
def execCbp42 (s : State) : Result := videoRow (.patternRow 8 42) s

/-- `CBP_15` (R610, R611). -/
def execCbp15 (s : State) : Result := videoRow (.patternRow 8 15) s

/-- `CBP_51` (R610, R611). -/
def execCbp51 (s : State) : Result := videoRow (.patternRow 8 51) s

/-- `CBP_23` (R610, R611). -/
def execCbp23 (s : State) : Result := videoRow (.patternRow 8 23) s

/-- `CBP_43` (R610, R611). -/
def execCbp43 (s : State) : Result := videoRow (.patternRow 8 43) s

/-- `CBP_25` (R610, R611). -/
def execCbp25 (s : State) : Result := videoRow (.patternRow 8 25) s

/-- `CBP_37` (R610, R611). -/
def execCbp37 (s : State) : Result := videoRow (.patternRow 8 37) s

/-- `CBP_26` (R610, R611). -/
def execCbp26 (s : State) : Result := videoRow (.patternRow 8 26) s

/-- `CBP_38` (R610, R611). -/
def execCbp38 (s : State) : Result := videoRow (.patternRow 8 38) s

/-- `CBP_29` (R610, R611). -/
def execCbp29 (s : State) : Result := videoRow (.patternRow 8 29) s

/-- `CBP_45` (R610, R611). -/
def execCbp45 (s : State) : Result := videoRow (.patternRow 8 45) s

/-- `CBP_53` (R610, R611). -/
def execCbp53 (s : State) : Result := videoRow (.patternRow 8 53) s

/-- `CBP_57` (R610, R611). -/
def execCbp57 (s : State) : Result := videoRow (.patternRow 8 57) s

/-- `CBP_30` (R610, R611). -/
def execCbp30 (s : State) : Result := videoRow (.patternRow 8 30) s

/-- `CBP_46` (R610, R611). -/
def execCbp46 (s : State) : Result := videoRow (.patternRow 8 46) s

/-- `CBP_54` (R610, R611). -/
def execCbp54 (s : State) : Result := videoRow (.patternRow 8 54) s

/-- `CBP_58` (R610, R611). -/
def execCbp58 (s : State) : Result := videoRow (.patternRow 8 58) s

/-- `CBP_31` (R610, R611). -/
def execCbp31 (s : State) : Result := videoRow (.patternRow 9 31) s

/-- `CBP_47` (R610, R611). -/
def execCbp47 (s : State) : Result := videoRow (.patternRow 9 47) s

/-- `CBP_55` (R610, R611). -/
def execCbp55 (s : State) : Result := videoRow (.patternRow 9 55) s

/-- `CBP_59` (R610, R611). -/
def execCbp59 (s : State) : Result := videoRow (.patternRow 9 59) s

/-- `CBP_27` (R610, R611). -/
def execCbp27 (s : State) : Result := videoRow (.patternRow 9 27) s

/-- `CBP_39` (R610, R611). -/
def execCbp39 (s : State) : Result := videoRow (.patternRow 9 39) s

/-- `CBP_RESERVED` (R326): VlcInvalid. -/
def execCbpReserved (s : State) : Result := videoRow (.reservedRow 8) s


end Sys2Proof.Machine
end

