-- ==== Sys2Proof/Machine/DcSize.lean ====
section
/-! DEFINITION. The meanings of the rows of tables DCT_DC_Y and DCT_DC_C (R324, R326): intra DC sizes (R701-R703). -/

namespace Sys2Proof.Machine

/-- `DC_SIZE_Y_0` (R701-R703). -/
def execDcSizeY0 (s : State) : Result := videoRow (.dcSizeRow 3 0) s

/-- `DC_SIZE_Y_1` (R701-R703). -/
def execDcSizeY1 (s : State) : Result := videoRow (.dcSizeRow 2 1) s

/-- `DC_SIZE_Y_2` (R701-R703). -/
def execDcSizeY2 (s : State) : Result := videoRow (.dcSizeRow 2 2) s

/-- `DC_SIZE_Y_3` (R701-R703). -/
def execDcSizeY3 (s : State) : Result := videoRow (.dcSizeRow 3 3) s

/-- `DC_SIZE_Y_4` (R701-R703). -/
def execDcSizeY4 (s : State) : Result := videoRow (.dcSizeRow 3 4) s

/-- `DC_SIZE_Y_5` (R701-R703). -/
def execDcSizeY5 (s : State) : Result := videoRow (.dcSizeRow 4 5) s

/-- `DC_SIZE_Y_6` (R701-R703). -/
def execDcSizeY6 (s : State) : Result := videoRow (.dcSizeRow 5 6) s

/-- `DC_SIZE_Y_7` (R701-R703). -/
def execDcSizeY7 (s : State) : Result := videoRow (.dcSizeRow 6 7) s

/-- `DC_SIZE_Y_8` (R701-R703). -/
def execDcSizeY8 (s : State) : Result := videoRow (.dcSizeRow 7 8) s

/-- `DC_SIZE_C_0` (R701-R703). -/
def execDcSizeC0 (s : State) : Result := videoRow (.dcSizeRow 2 0) s

/-- `DC_SIZE_C_1` (R701-R703). -/
def execDcSizeC1 (s : State) : Result := videoRow (.dcSizeRow 2 1) s

/-- `DC_SIZE_C_2` (R701-R703). -/
def execDcSizeC2 (s : State) : Result := videoRow (.dcSizeRow 2 2) s

/-- `DC_SIZE_C_3` (R701-R703). -/
def execDcSizeC3 (s : State) : Result := videoRow (.dcSizeRow 3 3) s

/-- `DC_SIZE_C_4` (R701-R703). -/
def execDcSizeC4 (s : State) : Result := videoRow (.dcSizeRow 4 4) s

/-- `DC_SIZE_C_5` (R701-R703). -/
def execDcSizeC5 (s : State) : Result := videoRow (.dcSizeRow 5 5) s

/-- `DC_SIZE_C_6` (R701-R703). -/
def execDcSizeC6 (s : State) : Result := videoRow (.dcSizeRow 6 6) s

/-- `DC_SIZE_C_7` (R701-R703). -/
def execDcSizeC7 (s : State) : Result := videoRow (.dcSizeRow 7 7) s

/-- `DC_SIZE_C_8` (R701-R703). -/
def execDcSizeC8 (s : State) : Result := videoRow (.dcSizeRow 8 8) s

/-- `DCT_DC_Y_RESERVED` (R326): VlcInvalid. -/
def execDctDcYReserved (s : State) : Result := videoRow (.reservedRow 7) s

/-- `DCT_DC_C_RESERVED` (R326): VlcInvalid. -/
def execDctDcCReserved (s : State) : Result := videoRow (.reservedRow 8) s


end Sys2Proof.Machine
end

