-- ==== Sys2Proof/Machine/Dct.lean ====
section
/-! DEFINITION. The meanings of the rows of table DCT (R325, R326): coefficients, escapes and the end of a block (R704-R713). -/

namespace Sys2Proof.Machine

/-- `DCT_EOB` (R705, R714-R720). -/
def execDctEob (s : State) : Result := videoRow (.endOfBlockRow 2) s

/-- `DCT_FIRST_R0_L1` (R707-R713): `sg` is the sign bit. -/
def execDctFirstR0L1 (sg : Bool) (s : State) : Result := videoRow (.coefficientRow 1 0 1 sg) s

/-- `DCT_NEXT_R0_L1` (R707-R713): `sg` is the sign bit. -/
def execDctNextR0L1 (sg : Bool) (s : State) : Result := videoRow (.coefficientRow 2 0 1 sg) s

/-- `DCT_ESCAPE` (R706): the bare codeword, whose run and level are read here. -/
def execDctEscape (s : State) : Result := videoRow (.escapeRow 6) s

/-- `DCT_R1_L1` (R707-R713): `sg` is the sign bit. -/
def execDctR1L1 (sg : Bool) (s : State) : Result := videoRow (.coefficientRow 3 1 1 sg) s

/-- `DCT_R0_L2` (R707-R713): `sg` is the sign bit. -/
def execDctR0L2 (sg : Bool) (s : State) : Result := videoRow (.coefficientRow 4 0 2 sg) s

/-- `DCT_R2_L1` (R707-R713): `sg` is the sign bit. -/
def execDctR2L1 (sg : Bool) (s : State) : Result := videoRow (.coefficientRow 4 2 1 sg) s

/-- `DCT_R0_L3` (R707-R713): `sg` is the sign bit. -/
def execDctR0L3 (sg : Bool) (s : State) : Result := videoRow (.coefficientRow 5 0 3 sg) s

/-- `DCT_R3_L1` (R707-R713): `sg` is the sign bit. -/
def execDctR3L1 (sg : Bool) (s : State) : Result := videoRow (.coefficientRow 5 3 1 sg) s

/-- `DCT_R4_L1` (R707-R713): `sg` is the sign bit. -/
def execDctR4L1 (sg : Bool) (s : State) : Result := videoRow (.coefficientRow 5 4 1 sg) s

/-- `DCT_R1_L2` (R707-R713): `sg` is the sign bit. -/
def execDctR1L2 (sg : Bool) (s : State) : Result := videoRow (.coefficientRow 6 1 2 sg) s

/-- `DCT_R5_L1` (R707-R713): `sg` is the sign bit. -/
def execDctR5L1 (sg : Bool) (s : State) : Result := videoRow (.coefficientRow 6 5 1 sg) s

/-- `DCT_R6_L1` (R707-R713): `sg` is the sign bit. -/
def execDctR6L1 (sg : Bool) (s : State) : Result := videoRow (.coefficientRow 6 6 1 sg) s

/-- `DCT_R7_L1` (R707-R713): `sg` is the sign bit. -/
def execDctR7L1 (sg : Bool) (s : State) : Result := videoRow (.coefficientRow 6 7 1 sg) s

/-- `DCT_R0_L4` (R707-R713): `sg` is the sign bit. -/
def execDctR0L4 (sg : Bool) (s : State) : Result := videoRow (.coefficientRow 7 0 4 sg) s

/-- `DCT_R2_L2` (R707-R713): `sg` is the sign bit. -/
def execDctR2L2 (sg : Bool) (s : State) : Result := videoRow (.coefficientRow 7 2 2 sg) s

/-- `DCT_R8_L1` (R707-R713): `sg` is the sign bit. -/
def execDctR8L1 (sg : Bool) (s : State) : Result := videoRow (.coefficientRow 7 8 1 sg) s

/-- `DCT_R9_L1` (R707-R713): `sg` is the sign bit. -/
def execDctR9L1 (sg : Bool) (s : State) : Result := videoRow (.coefficientRow 7 9 1 sg) s

/-- `DCT_R0_L5` (R707-R713): `sg` is the sign bit. -/
def execDctR0L5 (sg : Bool) (s : State) : Result := videoRow (.coefficientRow 8 0 5 sg) s

/-- `DCT_R0_L6` (R707-R713): `sg` is the sign bit. -/
def execDctR0L6 (sg : Bool) (s : State) : Result := videoRow (.coefficientRow 8 0 6 sg) s

/-- `DCT_R1_L3` (R707-R713): `sg` is the sign bit. -/
def execDctR1L3 (sg : Bool) (s : State) : Result := videoRow (.coefficientRow 8 1 3 sg) s

/-- `DCT_R3_L2` (R707-R713): `sg` is the sign bit. -/
def execDctR3L2 (sg : Bool) (s : State) : Result := videoRow (.coefficientRow 8 3 2 sg) s

/-- `DCT_R10_L1` (R707-R713): `sg` is the sign bit. -/
def execDctR10L1 (sg : Bool) (s : State) : Result := videoRow (.coefficientRow 8 10 1 sg) s

/-- `DCT_R11_L1` (R707-R713): `sg` is the sign bit. -/
def execDctR11L1 (sg : Bool) (s : State) : Result := videoRow (.coefficientRow 8 11 1 sg) s

/-- `DCT_R12_L1` (R707-R713): `sg` is the sign bit. -/
def execDctR12L1 (sg : Bool) (s : State) : Result := videoRow (.coefficientRow 8 12 1 sg) s

/-- `DCT_R13_L1` (R707-R713): `sg` is the sign bit. -/
def execDctR13L1 (sg : Bool) (s : State) : Result := videoRow (.coefficientRow 8 13 1 sg) s

/-- `DCT_R0_L7` (R707-R713): `sg` is the sign bit. -/
def execDctR0L7 (sg : Bool) (s : State) : Result := videoRow (.coefficientRow 10 0 7 sg) s

/-- `DCT_R1_L4` (R707-R713): `sg` is the sign bit. -/
def execDctR1L4 (sg : Bool) (s : State) : Result := videoRow (.coefficientRow 10 1 4 sg) s

/-- `DCT_R2_L3` (R707-R713): `sg` is the sign bit. -/
def execDctR2L3 (sg : Bool) (s : State) : Result := videoRow (.coefficientRow 10 2 3 sg) s

/-- `DCT_R4_L2` (R707-R713): `sg` is the sign bit. -/
def execDctR4L2 (sg : Bool) (s : State) : Result := videoRow (.coefficientRow 10 4 2 sg) s

/-- `DCT_R5_L2` (R707-R713): `sg` is the sign bit. -/
def execDctR5L2 (sg : Bool) (s : State) : Result := videoRow (.coefficientRow 10 5 2 sg) s

/-- `DCT_R14_L1` (R707-R713): `sg` is the sign bit. -/
def execDctR14L1 (sg : Bool) (s : State) : Result := videoRow (.coefficientRow 10 14 1 sg) s

/-- `DCT_R15_L1` (R707-R713): `sg` is the sign bit. -/
def execDctR15L1 (sg : Bool) (s : State) : Result := videoRow (.coefficientRow 10 15 1 sg) s

/-- `DCT_R16_L1` (R707-R713): `sg` is the sign bit. -/
def execDctR16L1 (sg : Bool) (s : State) : Result := videoRow (.coefficientRow 10 16 1 sg) s

/-- `DCT_R0_L8` (R707-R713): `sg` is the sign bit. -/
def execDctR0L8 (sg : Bool) (s : State) : Result := videoRow (.coefficientRow 12 0 8 sg) s

/-- `DCT_R0_L9` (R707-R713): `sg` is the sign bit. -/
def execDctR0L9 (sg : Bool) (s : State) : Result := videoRow (.coefficientRow 12 0 9 sg) s

/-- `DCT_R0_L10` (R707-R713): `sg` is the sign bit. -/
def execDctR0L10 (sg : Bool) (s : State) : Result := videoRow (.coefficientRow 12 0 10 sg) s

/-- `DCT_R0_L11` (R707-R713): `sg` is the sign bit. -/
def execDctR0L11 (sg : Bool) (s : State) : Result := videoRow (.coefficientRow 12 0 11 sg) s

/-- `DCT_R1_L5` (R707-R713): `sg` is the sign bit. -/
def execDctR1L5 (sg : Bool) (s : State) : Result := videoRow (.coefficientRow 12 1 5 sg) s

/-- `DCT_R2_L4` (R707-R713): `sg` is the sign bit. -/
def execDctR2L4 (sg : Bool) (s : State) : Result := videoRow (.coefficientRow 12 2 4 sg) s

/-- `DCT_R3_L3` (R707-R713): `sg` is the sign bit. -/
def execDctR3L3 (sg : Bool) (s : State) : Result := videoRow (.coefficientRow 12 3 3 sg) s

/-- `DCT_R4_L3` (R707-R713): `sg` is the sign bit. -/
def execDctR4L3 (sg : Bool) (s : State) : Result := videoRow (.coefficientRow 12 4 3 sg) s

/-- `DCT_R6_L2` (R707-R713): `sg` is the sign bit. -/
def execDctR6L2 (sg : Bool) (s : State) : Result := videoRow (.coefficientRow 12 6 2 sg) s

/-- `DCT_R7_L2` (R707-R713): `sg` is the sign bit. -/
def execDctR7L2 (sg : Bool) (s : State) : Result := videoRow (.coefficientRow 12 7 2 sg) s

/-- `DCT_R8_L2` (R707-R713): `sg` is the sign bit. -/
def execDctR8L2 (sg : Bool) (s : State) : Result := videoRow (.coefficientRow 12 8 2 sg) s

/-- `DCT_R17_L1` (R707-R713): `sg` is the sign bit. -/
def execDctR17L1 (sg : Bool) (s : State) : Result := videoRow (.coefficientRow 12 17 1 sg) s

/-- `DCT_R18_L1` (R707-R713): `sg` is the sign bit. -/
def execDctR18L1 (sg : Bool) (s : State) : Result := videoRow (.coefficientRow 12 18 1 sg) s

/-- `DCT_R19_L1` (R707-R713): `sg` is the sign bit. -/
def execDctR19L1 (sg : Bool) (s : State) : Result := videoRow (.coefficientRow 12 19 1 sg) s

/-- `DCT_R20_L1` (R707-R713): `sg` is the sign bit. -/
def execDctR20L1 (sg : Bool) (s : State) : Result := videoRow (.coefficientRow 12 20 1 sg) s

/-- `DCT_R21_L1` (R707-R713): `sg` is the sign bit. -/
def execDctR21L1 (sg : Bool) (s : State) : Result := videoRow (.coefficientRow 12 21 1 sg) s

/-- `DCT_R0_L12` (R707-R713): `sg` is the sign bit. -/
def execDctR0L12 (sg : Bool) (s : State) : Result := videoRow (.coefficientRow 13 0 12 sg) s

/-- `DCT_R0_L13` (R707-R713): `sg` is the sign bit. -/
def execDctR0L13 (sg : Bool) (s : State) : Result := videoRow (.coefficientRow 13 0 13 sg) s

/-- `DCT_R0_L14` (R707-R713): `sg` is the sign bit. -/
def execDctR0L14 (sg : Bool) (s : State) : Result := videoRow (.coefficientRow 13 0 14 sg) s

/-- `DCT_R0_L15` (R707-R713): `sg` is the sign bit. -/
def execDctR0L15 (sg : Bool) (s : State) : Result := videoRow (.coefficientRow 13 0 15 sg) s

/-- `DCT_R1_L6` (R707-R713): `sg` is the sign bit. -/
def execDctR1L6 (sg : Bool) (s : State) : Result := videoRow (.coefficientRow 13 1 6 sg) s

/-- `DCT_R1_L7` (R707-R713): `sg` is the sign bit. -/
def execDctR1L7 (sg : Bool) (s : State) : Result := videoRow (.coefficientRow 13 1 7 sg) s

/-- `DCT_R2_L5` (R707-R713): `sg` is the sign bit. -/
def execDctR2L5 (sg : Bool) (s : State) : Result := videoRow (.coefficientRow 13 2 5 sg) s

/-- `DCT_R3_L4` (R707-R713): `sg` is the sign bit. -/
def execDctR3L4 (sg : Bool) (s : State) : Result := videoRow (.coefficientRow 13 3 4 sg) s

/-- `DCT_R5_L3` (R707-R713): `sg` is the sign bit. -/
def execDctR5L3 (sg : Bool) (s : State) : Result := videoRow (.coefficientRow 13 5 3 sg) s

/-- `DCT_R9_L2` (R707-R713): `sg` is the sign bit. -/
def execDctR9L2 (sg : Bool) (s : State) : Result := videoRow (.coefficientRow 13 9 2 sg) s

/-- `DCT_R10_L2` (R707-R713): `sg` is the sign bit. -/
def execDctR10L2 (sg : Bool) (s : State) : Result := videoRow (.coefficientRow 13 10 2 sg) s

/-- `DCT_R22_L1` (R707-R713): `sg` is the sign bit. -/
def execDctR22L1 (sg : Bool) (s : State) : Result := videoRow (.coefficientRow 13 22 1 sg) s

/-- `DCT_R23_L1` (R707-R713): `sg` is the sign bit. -/
def execDctR23L1 (sg : Bool) (s : State) : Result := videoRow (.coefficientRow 13 23 1 sg) s

/-- `DCT_R24_L1` (R707-R713): `sg` is the sign bit. -/
def execDctR24L1 (sg : Bool) (s : State) : Result := videoRow (.coefficientRow 13 24 1 sg) s

/-- `DCT_R25_L1` (R707-R713): `sg` is the sign bit. -/
def execDctR25L1 (sg : Bool) (s : State) : Result := videoRow (.coefficientRow 13 25 1 sg) s

/-- `DCT_R26_L1` (R707-R713): `sg` is the sign bit. -/
def execDctR26L1 (sg : Bool) (s : State) : Result := videoRow (.coefficientRow 13 26 1 sg) s

/-- `DCT_R0_L16` (R707-R713): `sg` is the sign bit. -/
def execDctR0L16 (sg : Bool) (s : State) : Result := videoRow (.coefficientRow 14 0 16 sg) s

/-- `DCT_R0_L17` (R707-R713): `sg` is the sign bit. -/
def execDctR0L17 (sg : Bool) (s : State) : Result := videoRow (.coefficientRow 14 0 17 sg) s

/-- `DCT_R0_L18` (R707-R713): `sg` is the sign bit. -/
def execDctR0L18 (sg : Bool) (s : State) : Result := videoRow (.coefficientRow 14 0 18 sg) s

/-- `DCT_R0_L19` (R707-R713): `sg` is the sign bit. -/
def execDctR0L19 (sg : Bool) (s : State) : Result := videoRow (.coefficientRow 14 0 19 sg) s

/-- `DCT_R0_L20` (R707-R713): `sg` is the sign bit. -/
def execDctR0L20 (sg : Bool) (s : State) : Result := videoRow (.coefficientRow 14 0 20 sg) s

/-- `DCT_R0_L21` (R707-R713): `sg` is the sign bit. -/
def execDctR0L21 (sg : Bool) (s : State) : Result := videoRow (.coefficientRow 14 0 21 sg) s

/-- `DCT_R0_L22` (R707-R713): `sg` is the sign bit. -/
def execDctR0L22 (sg : Bool) (s : State) : Result := videoRow (.coefficientRow 14 0 22 sg) s

/-- `DCT_R0_L23` (R707-R713): `sg` is the sign bit. -/
def execDctR0L23 (sg : Bool) (s : State) : Result := videoRow (.coefficientRow 14 0 23 sg) s

/-- `DCT_R0_L24` (R707-R713): `sg` is the sign bit. -/
def execDctR0L24 (sg : Bool) (s : State) : Result := videoRow (.coefficientRow 14 0 24 sg) s

/-- `DCT_R0_L25` (R707-R713): `sg` is the sign bit. -/
def execDctR0L25 (sg : Bool) (s : State) : Result := videoRow (.coefficientRow 14 0 25 sg) s

/-- `DCT_R0_L26` (R707-R713): `sg` is the sign bit. -/
def execDctR0L26 (sg : Bool) (s : State) : Result := videoRow (.coefficientRow 14 0 26 sg) s

/-- `DCT_R0_L27` (R707-R713): `sg` is the sign bit. -/
def execDctR0L27 (sg : Bool) (s : State) : Result := videoRow (.coefficientRow 14 0 27 sg) s

/-- `DCT_R0_L28` (R707-R713): `sg` is the sign bit. -/
def execDctR0L28 (sg : Bool) (s : State) : Result := videoRow (.coefficientRow 14 0 28 sg) s

/-- `DCT_R0_L29` (R707-R713): `sg` is the sign bit. -/
def execDctR0L29 (sg : Bool) (s : State) : Result := videoRow (.coefficientRow 14 0 29 sg) s

/-- `DCT_R0_L30` (R707-R713): `sg` is the sign bit. -/
def execDctR0L30 (sg : Bool) (s : State) : Result := videoRow (.coefficientRow 14 0 30 sg) s

/-- `DCT_R0_L31` (R707-R713): `sg` is the sign bit. -/
def execDctR0L31 (sg : Bool) (s : State) : Result := videoRow (.coefficientRow 14 0 31 sg) s

/-- `DCT_R0_L32` (R707-R713): `sg` is the sign bit. -/
def execDctR0L32 (sg : Bool) (s : State) : Result := videoRow (.coefficientRow 15 0 32 sg) s

/-- `DCT_R0_L33` (R707-R713): `sg` is the sign bit. -/
def execDctR0L33 (sg : Bool) (s : State) : Result := videoRow (.coefficientRow 15 0 33 sg) s

/-- `DCT_R0_L34` (R707-R713): `sg` is the sign bit. -/
def execDctR0L34 (sg : Bool) (s : State) : Result := videoRow (.coefficientRow 15 0 34 sg) s

/-- `DCT_R0_L35` (R707-R713): `sg` is the sign bit. -/
def execDctR0L35 (sg : Bool) (s : State) : Result := videoRow (.coefficientRow 15 0 35 sg) s

/-- `DCT_R0_L36` (R707-R713): `sg` is the sign bit. -/
def execDctR0L36 (sg : Bool) (s : State) : Result := videoRow (.coefficientRow 15 0 36 sg) s

/-- `DCT_R0_L37` (R707-R713): `sg` is the sign bit. -/
def execDctR0L37 (sg : Bool) (s : State) : Result := videoRow (.coefficientRow 15 0 37 sg) s

/-- `DCT_R0_L38` (R707-R713): `sg` is the sign bit. -/
def execDctR0L38 (sg : Bool) (s : State) : Result := videoRow (.coefficientRow 15 0 38 sg) s

/-- `DCT_R0_L39` (R707-R713): `sg` is the sign bit. -/
def execDctR0L39 (sg : Bool) (s : State) : Result := videoRow (.coefficientRow 15 0 39 sg) s

/-- `DCT_R0_L40` (R707-R713): `sg` is the sign bit. -/
def execDctR0L40 (sg : Bool) (s : State) : Result := videoRow (.coefficientRow 15 0 40 sg) s

/-- `DCT_R1_L8` (R707-R713): `sg` is the sign bit. -/
def execDctR1L8 (sg : Bool) (s : State) : Result := videoRow (.coefficientRow 15 1 8 sg) s

/-- `DCT_R1_L9` (R707-R713): `sg` is the sign bit. -/
def execDctR1L9 (sg : Bool) (s : State) : Result := videoRow (.coefficientRow 15 1 9 sg) s

/-- `DCT_R1_L10` (R707-R713): `sg` is the sign bit. -/
def execDctR1L10 (sg : Bool) (s : State) : Result := videoRow (.coefficientRow 15 1 10 sg) s

/-- `DCT_R1_L11` (R707-R713): `sg` is the sign bit. -/
def execDctR1L11 (sg : Bool) (s : State) : Result := videoRow (.coefficientRow 15 1 11 sg) s

/-- `DCT_R1_L12` (R707-R713): `sg` is the sign bit. -/
def execDctR1L12 (sg : Bool) (s : State) : Result := videoRow (.coefficientRow 15 1 12 sg) s

/-- `DCT_R1_L13` (R707-R713): `sg` is the sign bit. -/
def execDctR1L13 (sg : Bool) (s : State) : Result := videoRow (.coefficientRow 15 1 13 sg) s

/-- `DCT_R1_L14` (R707-R713): `sg` is the sign bit. -/
def execDctR1L14 (sg : Bool) (s : State) : Result := videoRow (.coefficientRow 15 1 14 sg) s

/-- `DCT_R1_L15` (R707-R713): `sg` is the sign bit. -/
def execDctR1L15 (sg : Bool) (s : State) : Result := videoRow (.coefficientRow 16 1 15 sg) s

/-- `DCT_R1_L16` (R707-R713): `sg` is the sign bit. -/
def execDctR1L16 (sg : Bool) (s : State) : Result := videoRow (.coefficientRow 16 1 16 sg) s

/-- `DCT_R1_L17` (R707-R713): `sg` is the sign bit. -/
def execDctR1L17 (sg : Bool) (s : State) : Result := videoRow (.coefficientRow 16 1 17 sg) s

/-- `DCT_R1_L18` (R707-R713): `sg` is the sign bit. -/
def execDctR1L18 (sg : Bool) (s : State) : Result := videoRow (.coefficientRow 16 1 18 sg) s

/-- `DCT_R6_L3` (R707-R713): `sg` is the sign bit. -/
def execDctR6L3 (sg : Bool) (s : State) : Result := videoRow (.coefficientRow 16 6 3 sg) s

/-- `DCT_R11_L2` (R707-R713): `sg` is the sign bit. -/
def execDctR11L2 (sg : Bool) (s : State) : Result := videoRow (.coefficientRow 16 11 2 sg) s

/-- `DCT_R12_L2` (R707-R713): `sg` is the sign bit. -/
def execDctR12L2 (sg : Bool) (s : State) : Result := videoRow (.coefficientRow 16 12 2 sg) s

/-- `DCT_R13_L2` (R707-R713): `sg` is the sign bit. -/
def execDctR13L2 (sg : Bool) (s : State) : Result := videoRow (.coefficientRow 16 13 2 sg) s

/-- `DCT_R14_L2` (R707-R713): `sg` is the sign bit. -/
def execDctR14L2 (sg : Bool) (s : State) : Result := videoRow (.coefficientRow 16 14 2 sg) s

/-- `DCT_R15_L2` (R707-R713): `sg` is the sign bit. -/
def execDctR15L2 (sg : Bool) (s : State) : Result := videoRow (.coefficientRow 16 15 2 sg) s

/-- `DCT_R16_L2` (R707-R713): `sg` is the sign bit. -/
def execDctR16L2 (sg : Bool) (s : State) : Result := videoRow (.coefficientRow 16 16 2 sg) s

/-- `DCT_R27_L1` (R707-R713): `sg` is the sign bit. -/
def execDctR27L1 (sg : Bool) (s : State) : Result := videoRow (.coefficientRow 16 27 1 sg) s

/-- `DCT_R28_L1` (R707-R713): `sg` is the sign bit. -/
def execDctR28L1 (sg : Bool) (s : State) : Result := videoRow (.coefficientRow 16 28 1 sg) s

/-- `DCT_R29_L1` (R707-R713): `sg` is the sign bit. -/
def execDctR29L1 (sg : Bool) (s : State) : Result := videoRow (.coefficientRow 16 29 1 sg) s

/-- `DCT_R30_L1` (R707-R713): `sg` is the sign bit. -/
def execDctR30L1 (sg : Bool) (s : State) : Result := videoRow (.coefficientRow 16 30 1 sg) s

/-- `DCT_R31_L1` (R707-R713): `sg` is the sign bit. -/
def execDctR31L1 (sg : Bool) (s : State) : Result := videoRow (.coefficientRow 16 31 1 sg) s

/-- `DCT_ESCAPE_SHORT` (R706, R708-R713). -/
def execDctEscapeShort (r : BitVec 6) (l : Byte) (s : State) : Result :=
  videoRow (.completedEscapeRow 6 [6, 8] r (shortLevel l)) s

/-- `DCT_ESCAPE_LONG_POS` (R706, R708-R713). -/
def execDctEscapeLongPos (r : BitVec 6) (l : Byte) (s : State) : Result :=
  videoRow (.completedEscapeRow 6 [6, 8, 8] r (longPositiveLevel l)) s

/-- `DCT_ESCAPE_LONG_NEG` (R706, R708-R713). -/
def execDctEscapeLongNeg (r : BitVec 6) (l : Byte) (s : State) : Result :=
  videoRow (.completedEscapeRow 6 [6, 8, 8] r (longNegativeLevel l)) s

/-- `DCT_RESERVED` (R326): VlcInvalid. -/
def execDctReserved (s : State) : Result := videoRow (.reservedRow 12) s


end Sys2Proof.Machine
end

