-- ==== Sys2Proof/Machine/Headers.lean ====
section
/-! DEFINITION. The meanings of the layout rows: the sequence header (R502), the picture header (R503)
and the slice header (R601, R602). Their operands are the fields; the meaning consumes the bits the rule
reads, field by field, and stops reading where the rule stops. -/

namespace Sys2Proof.Machine

/-! ### Sequence header -/

/-- The fields R502 step 2 reads before its check. -/
def sequenceFixedWidths : List Nat := [12, 12, 4, 4, 18, 1, 10, 1]

/-- The fields of one load flag and its matrix (R502 step 4). -/
def matrixWidths (m : Option (List Byte)) : List Nat :=
  1 :: (if m.isSome then List.replicate 64 8 else [])

/-- The check of R502 step 3. -/
def sequenceAccepted (h : SequenceHeader) : Bool :=
  h.horizontalSize != 0 && h.verticalSize != 0 && h.pictureRate != 0 &&
    decide (h.pictureRate.toNat ≤ 8)

/-- Planes of the new sizes, with UNSPECIFIED contents: nothing is written in them (R502 step 5). -/
def Frame.unwritten (f : Frame) : Frame := { f with y := [], cb := [], cr := [] }

/-- The commit (R502 step 5). -/
def Video.commitSequence (h : SequenceHeader) (v : Video) : Video :=
  let mbWidth := (h.horizontalSize.toNat + 15) / 16
  let mbHeight := (h.verticalSize.toNat + 15) / 16
  { v with
      width := h.horizontalSize
      height := h.verticalSize
      aspectRatioIndex := h.pelAspectRatio
      pictureRateIndex := h.pictureRate
      framerate := pictureRate h.pictureRate
      bitRate := h.bitRate
      intraQuantMatrix := (h.intraMatrix.map naturalOrder).getD intraQ
      nonIntraQuantMatrix := (h.nonIntraMatrix.map naturalOrder).getD nonIntraQ
      mbWidth := BitVec.ofNat 9 mbWidth
      mbHeight := BitVec.ofNat 9 mbHeight
      mbSize := BitVec.ofNat 17 (mbWidth * mbHeight)
      lumaWidth := BitVec.ofNat 13 (mbWidth * 16)
      lumaHeight := BitVec.ofNat 13 (mbHeight * 16)
      chromaWidth := BitVec.ofNat 12 (mbWidth * 8)
      chromaHeight := BitVec.ofNat 12 (mbHeight * 8)
      fb0 := v.fb0.unwritten
      fb1 := v.fb1.unwritten
      fb2 := v.fb2.unwritten
      hasSequenceHeader := true }

/-- DECODE_SEQUENCE_HEADER from step 2 on (R502): a rejected header changes no register but
`V.start_code`, and VDECODE returns NONE; an accepted one is committed, and the picture loop begins. -/
def Video.sequenceHeaderRow (h : SequenceHeader) (v : Video) : Video :=
  let v := { v with br := v.br.takeFields sequenceFixedWidths }
  if sequenceAccepted h then
    let v := { v with
      br := v.br.takeFields (matrixWidths h.intraMatrix ++ matrixWidths h.nonIntraMatrix) }
    (v.commitSequence h).pictureLoop
  else { v.raise .seqHeaderInvalid with startCode := none }.returnNone

/-- `SEQUENCE_HEADER` (R502). -/
def execSequenceHeader (h : SequenceHeader) (s : State) : Result := videoRow (.sequenceHeaderRow h) s

/-! ### Picture header -/

/-- A motion record after a full-pel flag and an `f_code` that is not 0 (R503 steps 3 and 4). -/
def MotionState.setCode (c : VectorCode) (m : MotionState) : MotionState :=
  { m with fullPx := c.fullPel, rSize := c.fCode - 1 }

/-- The code of an absent vector field. -/
def noCode : VectorCode := ⟨false, 0⟩

/-- The end of an accepted picture header: pre-rotation (R505), then the scan of R504. -/
def Video.beginBody (v : Video) : Video := { v.preRotate with pos := .bodySearch }

/-- Step 4 of R503: the backward vector code. -/
def Video.backwardCode (c : VectorCode) (v : Video) : Video :=
  let v := { v with br := v.br.takeFields [1, 3], mb.fullPx := c.fullPel }
  if c.fCode = 0 then v.dropPicture .fCodeZero
  else { v with mb := v.mb.setCode c }.beginBody

/-- Steps 3 and 4 of R503: the vector codes of a P or B picture. -/
def Video.vectorCodes (h : PictureHeader) (v : Video) : Video :=
  let c := h.forward.getD noCode
  let v := { v with br := v.br.takeFields [1, 3], mf.fullPx := c.fullPel }
  if c.fCode = 0 then v.dropPicture .fCodeZero
  else
    let v := { v with mf := v.mf.setCode c }
    if h.codingType = 3 then v.backwardCode (h.backward.getD noCode) else v.beginBody

/-- DECODE_PICTURE part 1 (R503) with the pre-rotation (R505). -/
def Video.pictureHeaderRow (h : PictureHeader) (v : Video) : Video :=
  let v := { v with br := v.br.takeFields [10, 3, 16], pictureType := h.codingType }
  if h.codingType = 1 then v.beginBody
  else if h.codingType = 2 ∨ h.codingType = 3 then v.vectorCodes h
  else v.dropPicture .pictureTypeUnsupported

/-- `PICTURE_HEADER` (R503). -/
def execPictureHeader (h : PictureHeader) (s : State) : Result := videoRow (.pictureHeaderRow h) s

/-! ### Slice header -/

/-- The fields of a slice header: the scale, a flag and a byte per extra byte, the last flag (R312). -/
def sliceHeaderWidths (extra : List Byte) : List Nat := 5 :: extra.flatMap (fun _ => [1, 8]) ++ [1]

/-- The quantizer scale and the extra slice information (R601, R602), then the macroblock loop (R603). -/
def Video.sliceHeaderRow (h : SliceHeader) (v : Video) : Video :=
  { v with br := v.br.takeFields (sliceHeaderWidths h.extra)
           quantizerScale := h.quantizerScale }.beginMacroblock

/-- `SLICE_HEADER` (R601, R602). -/
def execSliceHeader (h : SliceHeader) (s : State) : Result := videoRow (.sliceHeaderRow h) s

end Sys2Proof.Machine
end

