-- ==== Sys2Proof/Machine/MbType.lean ====
section
/-! DEFINITION. The meanings of the rows of tables MBT_I, MBT_P and MBT_B (R321, R326): macroblock types (R606-R609). -/

namespace Sys2Proof.Machine

/-- `MBT_I_0x01` (R606-R609). -/
def execMbtI01 (s : State) : Result := videoRow (.typeRow 1 0x01) s

/-- `MBT_I_0x11` (R606-R609). -/
def execMbtI11 (s : State) : Result := videoRow (.typeRow 2 0x11) s

/-- `MBT_P_0x0A` (R606-R609). -/
def execMbtP0A (s : State) : Result := videoRow (.typeRow 1 0x0A) s

/-- `MBT_P_0x02` (R606-R609). -/
def execMbtP02 (s : State) : Result := videoRow (.typeRow 2 0x02) s

/-- `MBT_P_0x08` (R606-R609). -/
def execMbtP08 (s : State) : Result := videoRow (.typeRow 3 0x08) s

/-- `MBT_P_0x01` (R606-R609). -/
def execMbtP01 (s : State) : Result := videoRow (.typeRow 5 0x01) s

/-- `MBT_P_0x1A` (R606-R609). -/
def execMbtP1A (s : State) : Result := videoRow (.typeRow 5 0x1A) s

/-- `MBT_P_0x12` (R606-R609). -/
def execMbtP12 (s : State) : Result := videoRow (.typeRow 5 0x12) s

/-- `MBT_P_0x11` (R606-R609). -/
def execMbtP11 (s : State) : Result := videoRow (.typeRow 6 0x11) s

/-- `MBT_B_0x0C` (R606-R609). -/
def execMbtB0C (s : State) : Result := videoRow (.typeRow 2 0x0C) s

/-- `MBT_B_0x0E` (R606-R609). -/
def execMbtB0E (s : State) : Result := videoRow (.typeRow 2 0x0E) s

/-- `MBT_B_0x04` (R606-R609). -/
def execMbtB04 (s : State) : Result := videoRow (.typeRow 3 0x04) s

/-- `MBT_B_0x06` (R606-R609). -/
def execMbtB06 (s : State) : Result := videoRow (.typeRow 3 0x06) s

/-- `MBT_B_0x08` (R606-R609). -/
def execMbtB08 (s : State) : Result := videoRow (.typeRow 4 0x08) s

/-- `MBT_B_0x0A` (R606-R609). -/
def execMbtB0A (s : State) : Result := videoRow (.typeRow 4 0x0A) s

/-- `MBT_B_0x01` (R606-R609). -/
def execMbtB01 (s : State) : Result := videoRow (.typeRow 5 0x01) s

/-- `MBT_B_0x1E` (R606-R609). -/
def execMbtB1E (s : State) : Result := videoRow (.typeRow 5 0x1E) s

/-- `MBT_B_0x1A` (R606-R609). -/
def execMbtB1A (s : State) : Result := videoRow (.typeRow 6 0x1A) s

/-- `MBT_B_0x16` (R606-R609). -/
def execMbtB16 (s : State) : Result := videoRow (.typeRow 6 0x16) s

/-- `MBT_B_0x11` (R606-R609). -/
def execMbtB11 (s : State) : Result := videoRow (.typeRow 6 0x11) s

/-- `MBT_I_RESERVED` (R326): VlcInvalid. -/
def execMbtIReserved (s : State) : Result := videoRow (.reservedRow 2) s

/-- `MBT_P_RESERVED` (R326): VlcInvalid. -/
def execMbtPReserved (s : State) : Result := videoRow (.reservedRow 6) s

/-- `MBT_B_RESERVED` (R326): VlcInvalid. -/
def execMbtBReserved (s : State) : Result := videoRow (.reservedRow 6) s


end Sys2Proof.Machine
end

