-- ==== Sys2Proof/Machine/Mba.lean ====
section
/-! DEFINITION. The meanings of the rows of table MBA (R320, R326): macroblock address increments (R604, R605). -/

namespace Sys2Proof.Machine

/-- `MBA_1` (R604, R605). -/
def execMba1 (s : State) : Result := videoRow (.addressRow 1 1) s

/-- `MBA_2` (R604, R605). -/
def execMba2 (s : State) : Result := videoRow (.addressRow 3 2) s

/-- `MBA_3` (R604, R605). -/
def execMba3 (s : State) : Result := videoRow (.addressRow 3 3) s

/-- `MBA_4` (R604, R605). -/
def execMba4 (s : State) : Result := videoRow (.addressRow 4 4) s

/-- `MBA_5` (R604, R605). -/
def execMba5 (s : State) : Result := videoRow (.addressRow 4 5) s

/-- `MBA_6` (R604, R605). -/
def execMba6 (s : State) : Result := videoRow (.addressRow 5 6) s

/-- `MBA_7` (R604, R605). -/
def execMba7 (s : State) : Result := videoRow (.addressRow 5 7) s

/-- `MBA_8` (R604, R605). -/
def execMba8 (s : State) : Result := videoRow (.addressRow 7 8) s

/-- `MBA_9` (R604, R605). -/
def execMba9 (s : State) : Result := videoRow (.addressRow 7 9) s

/-- `MBA_10` (R604, R605). -/
def execMba10 (s : State) : Result := videoRow (.addressRow 8 10) s

/-- `MBA_11` (R604, R605). -/
def execMba11 (s : State) : Result := videoRow (.addressRow 8 11) s

/-- `MBA_12` (R604, R605). -/
def execMba12 (s : State) : Result := videoRow (.addressRow 8 12) s

/-- `MBA_13` (R604, R605). -/
def execMba13 (s : State) : Result := videoRow (.addressRow 8 13) s

/-- `MBA_14` (R604, R605). -/
def execMba14 (s : State) : Result := videoRow (.addressRow 8 14) s

/-- `MBA_15` (R604, R605). -/
def execMba15 (s : State) : Result := videoRow (.addressRow 8 15) s

/-- `MBA_16` (R604, R605). -/
def execMba16 (s : State) : Result := videoRow (.addressRow 10 16) s

/-- `MBA_17` (R604, R605). -/
def execMba17 (s : State) : Result := videoRow (.addressRow 10 17) s

/-- `MBA_18` (R604, R605). -/
def execMba18 (s : State) : Result := videoRow (.addressRow 10 18) s

/-- `MBA_19` (R604, R605). -/
def execMba19 (s : State) : Result := videoRow (.addressRow 10 19) s

/-- `MBA_20` (R604, R605). -/
def execMba20 (s : State) : Result := videoRow (.addressRow 10 20) s

/-- `MBA_21` (R604, R605). -/
def execMba21 (s : State) : Result := videoRow (.addressRow 10 21) s

/-- `MBA_22` (R604, R605). -/
def execMba22 (s : State) : Result := videoRow (.addressRow 11 22) s

/-- `MBA_23` (R604, R605). -/
def execMba23 (s : State) : Result := videoRow (.addressRow 11 23) s

/-- `MBA_24` (R604, R605). -/
def execMba24 (s : State) : Result := videoRow (.addressRow 11 24) s

/-- `MBA_25` (R604, R605). -/
def execMba25 (s : State) : Result := videoRow (.addressRow 11 25) s

/-- `MBA_26` (R604, R605). -/
def execMba26 (s : State) : Result := videoRow (.addressRow 11 26) s

/-- `MBA_27` (R604, R605). -/
def execMba27 (s : State) : Result := videoRow (.addressRow 11 27) s

/-- `MBA_28` (R604, R605). -/
def execMba28 (s : State) : Result := videoRow (.addressRow 11 28) s

/-- `MBA_29` (R604, R605). -/
def execMba29 (s : State) : Result := videoRow (.addressRow 11 29) s

/-- `MBA_30` (R604, R605). -/
def execMba30 (s : State) : Result := videoRow (.addressRow 11 30) s

/-- `MBA_31` (R604, R605). -/
def execMba31 (s : State) : Result := videoRow (.addressRow 11 31) s

/-- `MBA_32` (R604, R605). -/
def execMba32 (s : State) : Result := videoRow (.addressRow 11 32) s

/-- `MBA_33` (R604, R605). -/
def execMba33 (s : State) : Result := videoRow (.addressRow 11 33) s

/-- `MBA_STUFFING` (R604). -/
def execMbaStuffing (s : State) : Result := videoRow (.stuffingRow 11) s

/-- `MBA_ESCAPE` (R604). -/
def execMbaEscape (s : State) : Result := videoRow (.addressEscapeRow 11) s

/-- `MBA_RESERVED_1` (R326): VlcInvalid. -/
def execMbaReserved1 (s : State) : Result := videoRow (.reservedRow 8) s

/-- `MBA_RESERVED_2` (R326): VlcInvalid. -/
def execMbaReserved2 (s : State) : Result := videoRow (.reservedRow 11) s

/-- `MBA_RESERVED_3` (R326): VlcInvalid. -/
def execMbaReserved3 (s : State) : Result := videoRow (.reservedRow 10) s

/-- `MBA_RESERVED_4` (R326): VlcInvalid. -/
def execMbaReserved4 (s : State) : Result := videoRow (.reservedRow 10) s

/-- `MBA_RESERVED_5` (R326): VlcInvalid. -/
def execMbaReserved5 (s : State) : Result := videoRow (.reservedRow 11) s

/-- `MBA_RESERVED_6` (R326): VlcInvalid. -/
def execMbaReserved6 (s : State) : Result := videoRow (.reservedRow 8) s


end Sys2Proof.Machine
end

