-- ==== Sys2Proof/Machine/Motion.lean ====
section
/-! DEFINITION. The meanings of the rows of table MOTION (R323, R326): motion codes (R801-R803). -/

namespace Sys2Proof.Machine

/-- `MOTION_0` (R802). -/
def execMotion0 (s : State) : Result := videoRow (.motionZeroRow 1) s

/-- `MOTION_1` (R802, R803): `sg` is the sign bit. -/
def execMotion1 (sg : Bool) (s : State) : Result := videoRow (.motionRow 2 1 sg) s

/-- `MOTION_2` (R802, R803): `sg` is the sign bit. -/
def execMotion2 (sg : Bool) (s : State) : Result := videoRow (.motionRow 3 2 sg) s

/-- `MOTION_3` (R802, R803): `sg` is the sign bit. -/
def execMotion3 (sg : Bool) (s : State) : Result := videoRow (.motionRow 4 3 sg) s

/-- `MOTION_4` (R802, R803): `sg` is the sign bit. -/
def execMotion4 (sg : Bool) (s : State) : Result := videoRow (.motionRow 6 4 sg) s

/-- `MOTION_5` (R802, R803): `sg` is the sign bit. -/
def execMotion5 (sg : Bool) (s : State) : Result := videoRow (.motionRow 7 5 sg) s

/-- `MOTION_6` (R802, R803): `sg` is the sign bit. -/
def execMotion6 (sg : Bool) (s : State) : Result := videoRow (.motionRow 7 6 sg) s

/-- `MOTION_7` (R802, R803): `sg` is the sign bit. -/
def execMotion7 (sg : Bool) (s : State) : Result := videoRow (.motionRow 7 7 sg) s

/-- `MOTION_8` (R802, R803): `sg` is the sign bit. -/
def execMotion8 (sg : Bool) (s : State) : Result := videoRow (.motionRow 9 8 sg) s

/-- `MOTION_9` (R802, R803): `sg` is the sign bit. -/
def execMotion9 (sg : Bool) (s : State) : Result := videoRow (.motionRow 9 9 sg) s

/-- `MOTION_10` (R802, R803): `sg` is the sign bit. -/
def execMotion10 (sg : Bool) (s : State) : Result := videoRow (.motionRow 9 10 sg) s

/-- `MOTION_11` (R802, R803): `sg` is the sign bit. -/
def execMotion11 (sg : Bool) (s : State) : Result := videoRow (.motionRow 10 11 sg) s

/-- `MOTION_12` (R802, R803): `sg` is the sign bit. -/
def execMotion12 (sg : Bool) (s : State) : Result := videoRow (.motionRow 10 12 sg) s

/-- `MOTION_13` (R802, R803): `sg` is the sign bit. -/
def execMotion13 (sg : Bool) (s : State) : Result := videoRow (.motionRow 10 13 sg) s

/-- `MOTION_14` (R802, R803): `sg` is the sign bit. -/
def execMotion14 (sg : Bool) (s : State) : Result := videoRow (.motionRow 10 14 sg) s

/-- `MOTION_15` (R802, R803): `sg` is the sign bit. -/
def execMotion15 (sg : Bool) (s : State) : Result := videoRow (.motionRow 10 15 sg) s

/-- `MOTION_16` (R802, R803): `sg` is the sign bit. -/
def execMotion16 (sg : Bool) (s : State) : Result := videoRow (.motionRow 10 16 sg) s

/-- `MOTION_RESERVED_1` (R326): VlcInvalid. -/
def execMotionReserved1 (s : State) : Result := videoRow (.reservedRow 7) s

/-- `MOTION_RESERVED_2` (R326): VlcInvalid. -/
def execMotionReserved2 (s : State) : Result := videoRow (.reservedRow 8) s


end Sys2Proof.Machine
end

