-- ==== Sys2Proof/Machine/StartCodes.lean ====
section
/-! DEFINITION. The meanings of the start codes (R302): one shared operation with the value of each. -/

namespace Sys2Proof.Machine

/-- `PICTURE_START`: starts a picture (R302, R501, R503). -/
def execPictureStart (s : State) : Result := videoRow (.startCodeRow 0x00) s

/-- `USER_DATA_START`: skipped before the first slice, elsewhere not a slice (R302, R504). -/
def execUserDataStart (s : State) : Result := videoRow (.startCodeRow 0xB2) s

/-- `SEQUENCE_HEADER_START`: the first one found starts decoding, later ones are skipped (R302, R502, R510). -/
def execSequenceHeaderStart (s : State) : Result := videoRow (.startCodeRow 0xB3) s

/-- `SEQUENCE_ERROR`: not a slice: ends the slice loop, skipped by searches (R302). -/
def execSequenceError (s : State) : Result := videoRow (.startCodeRow 0xB4) s

/-- `EXTENSION_START`: skipped like 0xB2 (R302, R504). -/
def execExtensionStart (s : State) : Result := videoRow (.startCodeRow 0xB5) s

/-- `SEQUENCE_END`: not a slice; no other effect (R302). -/
def execSequenceEnd (s : State) : Result := videoRow (.startCodeRow 0xB7) s

/-- `GROUP_START`: not a slice; its fields are never read (R302, R510). -/
def execGroupStart (s : State) : Result := videoRow (.startCodeRow 0xB8) s

/-- `RESERVED_B0`: not a slice (R302). -/
def execReservedB0 (s : State) : Result := videoRow (.startCodeRow 0xB0) s

/-- `RESERVED_B1`: not a slice (R302). -/
def execReservedB1 (s : State) : Result := videoRow (.startCodeRow 0xB1) s

/-- `RESERVED_B6`: not a slice (R302). -/
def execReservedB6 (s : State) : Result := videoRow (.startCodeRow 0xB6) s

/-- `ISO_11172_END`: not a slice (R302). -/
def execIso11172End (s : State) : Result := videoRow (.startCodeRow 0xB9) s

/-- `PACK_START`: not a slice (R302). -/
def execPackStart (s : State) : Result := videoRow (.startCodeRow 0xBA) s

/-- `SYSTEM_HEADER_START`: not a slice (R302). -/
def execSystemHeaderStart (s : State) : Result := videoRow (.startCodeRow 0xBB) s

/-- `SLICE_START`: starts slice `v` (R302, R504, R601). -/
def execSliceStart (v : Byte) (s : State) : Result := videoRow (.startCodeRow v) s

/-- `STREAM_ID_START`: not a slice (R302). -/
def execStreamIdStart (v : Byte) (s : State) : Result := videoRow (.startCodeRow v) s


end Sys2Proof.Machine
end

