-- ==== Sys2Proof/Machine/Elements.lean ====
section
/-! DEFINITION. The meanings an engine itself runs inside a decode command: one arm per row of its
elementary stream, each the row's own meaning, the one `exec` gives it. -/

namespace Sys2Proof.Machine

/-- The meaning of a row of an elementary stream. An engine never meets a host command in its stream
(R1208: "the bitstream cannot reach a CSR"); no fetch gives one, and it would change nothing. -/
def runRow (i : Instr) (s : State) : Result :=
  match i with
  | .vwrite _ => .next s
  | .vsignalEnd => .next s
  | .vdecode => .next s
  | .vrewind => .next s
  | .vframeRead _ _ => .next s
  | .awrite _ => .next s
  | .asignalEnd => .next s
  | .adecode => .next s
  | .arewind => .next s
  | .asamplesRead _ => .next s
  | .csrRead _ => .next s
  | .csrWrite _ _ => .next s
  | .pictureStart => execPictureStart s
  | .userDataStart => execUserDataStart s
  | .sequenceHeaderStart => execSequenceHeaderStart s
  | .sequenceError => execSequenceError s
  | .extensionStart => execExtensionStart s
  | .sequenceEnd => execSequenceEnd s
  | .groupStart => execGroupStart s
  | .reservedB0 => execReservedB0 s
  | .reservedB1 => execReservedB1 s
  | .reservedB6 => execReservedB6 s
  | .iso11172End => execIso11172End s
  | .packStart => execPackStart s
  | .systemHeaderStart => execSystemHeaderStart s
  | .sliceStart v => execSliceStart v s
  | .streamIdStart v => execStreamIdStart v s
  | .sequenceHeader h => execSequenceHeader h s
  | .pictureHeader h => execPictureHeader h s
  | .sliceHeader h => execSliceHeader h s
  | .mp2Header h => execMp2Header h s
  | .mp2SyncOther h => execMp2SyncOther h s
  | .motion0 => execMotion0 s
  | .motion1 b => execMotion1 b s
  | .motion2 b => execMotion2 b s
  | .motion3 b => execMotion3 b s
  | .motion4 b => execMotion4 b s
  | .motion5 b => execMotion5 b s
  | .motion6 b => execMotion6 b s
  | .motion7 b => execMotion7 b s
  | .motion8 b => execMotion8 b s
  | .motion9 b => execMotion9 b s
  | .motion10 b => execMotion10 b s
  | .motion11 b => execMotion11 b s
  | .motion12 b => execMotion12 b s
  | .motion13 b => execMotion13 b s
  | .motion14 b => execMotion14 b s
  | .motion15 b => execMotion15 b s
  | .motion16 b => execMotion16 b s
  | .dctEob => execDctEob s
  | .dctFirstR0L1 b => execDctFirstR0L1 b s
  | .dctNextR0L1 b => execDctNextR0L1 b s
  | .dctEscape => execDctEscape s
  | .dctR1L1 b => execDctR1L1 b s
  | .dctR0L2 b => execDctR0L2 b s
  | .dctR2L1 b => execDctR2L1 b s
  | .dctR0L3 b => execDctR0L3 b s
  | .dctR3L1 b => execDctR3L1 b s
  | .dctR4L1 b => execDctR4L1 b s
  | .dctR1L2 b => execDctR1L2 b s
  | .dctR5L1 b => execDctR5L1 b s
  | .dctR6L1 b => execDctR6L1 b s
  | .dctR7L1 b => execDctR7L1 b s
  | .dctR0L4 b => execDctR0L4 b s
  | .dctR2L2 b => execDctR2L2 b s
  | .dctR8L1 b => execDctR8L1 b s
  | .dctR9L1 b => execDctR9L1 b s
  | .dctR0L5 b => execDctR0L5 b s
  | .dctR0L6 b => execDctR0L6 b s
  | .dctR1L3 b => execDctR1L3 b s
  | .dctR3L2 b => execDctR3L2 b s
  | .dctR10L1 b => execDctR10L1 b s
  | .dctR11L1 b => execDctR11L1 b s
  | .dctR12L1 b => execDctR12L1 b s
  | .dctR13L1 b => execDctR13L1 b s
  | .dctR0L7 b => execDctR0L7 b s
  | .dctR1L4 b => execDctR1L4 b s
  | .dctR2L3 b => execDctR2L3 b s
  | .dctR4L2 b => execDctR4L2 b s
  | .dctR5L2 b => execDctR5L2 b s
  | .dctR14L1 b => execDctR14L1 b s
  | .dctR15L1 b => execDctR15L1 b s
  | .dctR16L1 b => execDctR16L1 b s
  | .dctR0L8 b => execDctR0L8 b s
  | .dctR0L9 b => execDctR0L9 b s
  | .dctR0L10 b => execDctR0L10 b s
  | .dctR0L11 b => execDctR0L11 b s
  | .dctR1L5 b => execDctR1L5 b s
  | .dctR2L4 b => execDctR2L4 b s
  | .dctR3L3 b => execDctR3L3 b s
  | .dctR4L3 b => execDctR4L3 b s
  | .dctR6L2 b => execDctR6L2 b s
  | .dctR7L2 b => execDctR7L2 b s
  | .dctR8L2 b => execDctR8L2 b s
  | .dctR17L1 b => execDctR17L1 b s
  | .dctR18L1 b => execDctR18L1 b s
  | .dctR19L1 b => execDctR19L1 b s
  | .dctR20L1 b => execDctR20L1 b s
  | .dctR21L1 b => execDctR21L1 b s
  | .dctR0L12 b => execDctR0L12 b s
  | .dctR0L13 b => execDctR0L13 b s
  | .dctR0L14 b => execDctR0L14 b s
  | .dctR0L15 b => execDctR0L15 b s
  | .dctR1L6 b => execDctR1L6 b s
  | .dctR1L7 b => execDctR1L7 b s
  | .dctR2L5 b => execDctR2L5 b s
  | .dctR3L4 b => execDctR3L4 b s
  | .dctR5L3 b => execDctR5L3 b s
  | .dctR9L2 b => execDctR9L2 b s
  | .dctR10L2 b => execDctR10L2 b s
  | .dctR22L1 b => execDctR22L1 b s
  | .dctR23L1 b => execDctR23L1 b s
  | .dctR24L1 b => execDctR24L1 b s
  | .dctR25L1 b => execDctR25L1 b s
  | .dctR26L1 b => execDctR26L1 b s
  | .dctR0L16 b => execDctR0L16 b s
  | .dctR0L17 b => execDctR0L17 b s
  | .dctR0L18 b => execDctR0L18 b s
  | .dctR0L19 b => execDctR0L19 b s
  | .dctR0L20 b => execDctR0L20 b s
  | .dctR0L21 b => execDctR0L21 b s
  | .dctR0L22 b => execDctR0L22 b s
  | .dctR0L23 b => execDctR0L23 b s
  | .dctR0L24 b => execDctR0L24 b s
  | .dctR0L25 b => execDctR0L25 b s
  | .dctR0L26 b => execDctR0L26 b s
  | .dctR0L27 b => execDctR0L27 b s
  | .dctR0L28 b => execDctR0L28 b s
  | .dctR0L29 b => execDctR0L29 b s
  | .dctR0L30 b => execDctR0L30 b s
  | .dctR0L31 b => execDctR0L31 b s
  | .dctR0L32 b => execDctR0L32 b s
  | .dctR0L33 b => execDctR0L33 b s
  | .dctR0L34 b => execDctR0L34 b s
  | .dctR0L35 b => execDctR0L35 b s
  | .dctR0L36 b => execDctR0L36 b s
  | .dctR0L37 b => execDctR0L37 b s
  | .dctR0L38 b => execDctR0L38 b s
  | .dctR0L39 b => execDctR0L39 b s
  | .dctR0L40 b => execDctR0L40 b s
  | .dctR1L8 b => execDctR1L8 b s
  | .dctR1L9 b => execDctR1L9 b s
  | .dctR1L10 b => execDctR1L10 b s
  | .dctR1L11 b => execDctR1L11 b s
  | .dctR1L12 b => execDctR1L12 b s
  | .dctR1L13 b => execDctR1L13 b s
  | .dctR1L14 b => execDctR1L14 b s
  | .dctR1L15 b => execDctR1L15 b s
  | .dctR1L16 b => execDctR1L16 b s
  | .dctR1L17 b => execDctR1L17 b s
  | .dctR1L18 b => execDctR1L18 b s
  | .dctR6L3 b => execDctR6L3 b s
  | .dctR11L2 b => execDctR11L2 b s
  | .dctR12L2 b => execDctR12L2 b s
  | .dctR13L2 b => execDctR13L2 b s
  | .dctR14L2 b => execDctR14L2 b s
  | .dctR15L2 b => execDctR15L2 b s
  | .dctR16L2 b => execDctR16L2 b s
  | .dctR27L1 b => execDctR27L1 b s
  | .dctR28L1 b => execDctR28L1 b s
  | .dctR29L1 b => execDctR29L1 b s
  | .dctR30L1 b => execDctR30L1 b s
  | .dctR31L1 b => execDctR31L1 b s
  | .dctEscapeShort r l => execDctEscapeShort r l s
  | .dctEscapeLongPos r l => execDctEscapeLongPos r l s
  | .dctEscapeLongNeg r l => execDctEscapeLongNeg r l s
  | .mba1 => execMba1 s
  | .mba2 => execMba2 s
  | .mba3 => execMba3 s
  | .mba4 => execMba4 s
  | .mba5 => execMba5 s
  | .mba6 => execMba6 s
  | .mba7 => execMba7 s
  | .mba8 => execMba8 s
  | .mba9 => execMba9 s
  | .mba10 => execMba10 s
  | .mba11 => execMba11 s
  | .mba12 => execMba12 s
  | .mba13 => execMba13 s
  | .mba14 => execMba14 s
  | .mba15 => execMba15 s
  | .mba16 => execMba16 s
  | .mba17 => execMba17 s
  | .mba18 => execMba18 s
  | .mba19 => execMba19 s
  | .mba20 => execMba20 s
  | .mba21 => execMba21 s
  | .mba22 => execMba22 s
  | .mba23 => execMba23 s
  | .mba24 => execMba24 s
  | .mba25 => execMba25 s
  | .mba26 => execMba26 s
  | .mba27 => execMba27 s
  | .mba28 => execMba28 s
  | .mba29 => execMba29 s
  | .mba30 => execMba30 s
  | .mba31 => execMba31 s
  | .mba32 => execMba32 s
  | .mba33 => execMba33 s
  | .mbaStuffing => execMbaStuffing s
  | .mbaEscape => execMbaEscape s
  | .mbtI01 => execMbtI01 s
  | .mbtI11 => execMbtI11 s
  | .mbtP0A => execMbtP0A s
  | .mbtP02 => execMbtP02 s
  | .mbtP08 => execMbtP08 s
  | .mbtP01 => execMbtP01 s
  | .mbtP1A => execMbtP1A s
  | .mbtP12 => execMbtP12 s
  | .mbtP11 => execMbtP11 s
  | .mbtB0C => execMbtB0C s
  | .mbtB0E => execMbtB0E s
  | .mbtB04 => execMbtB04 s
  | .mbtB06 => execMbtB06 s
  | .mbtB08 => execMbtB08 s
  | .mbtB0A => execMbtB0A s
  | .mbtB01 => execMbtB01 s
  | .mbtB1E => execMbtB1E s
  | .mbtB1A => execMbtB1A s
  | .mbtB16 => execMbtB16 s
  | .mbtB11 => execMbtB11 s
  | .cbp60 => execCbp60 s
  | .cbp4 => execCbp4 s
  | .cbp8 => execCbp8 s
  | .cbp16 => execCbp16 s
  | .cbp32 => execCbp32 s
  | .cbp12 => execCbp12 s
  | .cbp48 => execCbp48 s
  | .cbp20 => execCbp20 s
  | .cbp40 => execCbp40 s
  | .cbp28 => execCbp28 s
  | .cbp44 => execCbp44 s
  | .cbp52 => execCbp52 s
  | .cbp56 => execCbp56 s
  | .cbp1 => execCbp1 s
  | .cbp61 => execCbp61 s
  | .cbp2 => execCbp2 s
  | .cbp62 => execCbp62 s
  | .cbp24 => execCbp24 s
  | .cbp36 => execCbp36 s
  | .cbp3 => execCbp3 s
  | .cbp63 => execCbp63 s
  | .cbp5 => execCbp5 s
  | .cbp9 => execCbp9 s
  | .cbp17 => execCbp17 s
  | .cbp33 => execCbp33 s
  | .cbp6 => execCbp6 s
  | .cbp10 => execCbp10 s
  | .cbp18 => execCbp18 s
  | .cbp34 => execCbp34 s
  | .cbp7 => execCbp7 s
  | .cbp11 => execCbp11 s
  | .cbp19 => execCbp19 s
  | .cbp35 => execCbp35 s
  | .cbp13 => execCbp13 s
  | .cbp49 => execCbp49 s
  | .cbp21 => execCbp21 s
  | .cbp41 => execCbp41 s
  | .cbp14 => execCbp14 s
  | .cbp50 => execCbp50 s
  | .cbp22 => execCbp22 s
  | .cbp42 => execCbp42 s
  | .cbp15 => execCbp15 s
  | .cbp51 => execCbp51 s
  | .cbp23 => execCbp23 s
  | .cbp43 => execCbp43 s
  | .cbp25 => execCbp25 s
  | .cbp37 => execCbp37 s
  | .cbp26 => execCbp26 s
  | .cbp38 => execCbp38 s
  | .cbp29 => execCbp29 s
  | .cbp45 => execCbp45 s
  | .cbp53 => execCbp53 s
  | .cbp57 => execCbp57 s
  | .cbp30 => execCbp30 s
  | .cbp46 => execCbp46 s
  | .cbp54 => execCbp54 s
  | .cbp58 => execCbp58 s
  | .cbp31 => execCbp31 s
  | .cbp47 => execCbp47 s
  | .cbp55 => execCbp55 s
  | .cbp59 => execCbp59 s
  | .cbp27 => execCbp27 s
  | .cbp39 => execCbp39 s
  | .dcSizeY0 => execDcSizeY0 s
  | .dcSizeY1 => execDcSizeY1 s
  | .dcSizeY2 => execDcSizeY2 s
  | .dcSizeY3 => execDcSizeY3 s
  | .dcSizeY4 => execDcSizeY4 s
  | .dcSizeY5 => execDcSizeY5 s
  | .dcSizeY6 => execDcSizeY6 s
  | .dcSizeY7 => execDcSizeY7 s
  | .dcSizeY8 => execDcSizeY8 s
  | .dcSizeC0 => execDcSizeC0 s
  | .dcSizeC1 => execDcSizeC1 s
  | .dcSizeC2 => execDcSizeC2 s
  | .dcSizeC3 => execDcSizeC3 s
  | .dcSizeC4 => execDcSizeC4 s
  | .dcSizeC5 => execDcSizeC5 s
  | .dcSizeC6 => execDcSizeC6 s
  | .dcSizeC7 => execDcSizeC7 s
  | .dcSizeC8 => execDcSizeC8 s
  | .mbaReserved1 => execMbaReserved1 s
  | .mbaReserved2 => execMbaReserved2 s
  | .mbaReserved3 => execMbaReserved3 s
  | .mbaReserved4 => execMbaReserved4 s
  | .mbaReserved5 => execMbaReserved5 s
  | .mbaReserved6 => execMbaReserved6 s
  | .mbtIReserved => execMbtIReserved s
  | .mbtPReserved => execMbtPReserved s
  | .mbtBReserved => execMbtBReserved s
  | .cbpReserved => execCbpReserved s
  | .motionReserved1 => execMotionReserved1 s
  | .motionReserved2 => execMotionReserved2 s
  | .dctDcYReserved => execDctDcYReserved s
  | .dctDcCReserved => execDctDcCReserved s
  | .dctReserved => execDctReserved s

end Sys2Proof.Machine
end

