-- ==== Sys2Proof/Machine/Fetch.lean ====
section
/-! DEFINITION. Fetching: which row the cursor of an engine stands before (R304, R313, R314), after the
search a start code or a syncword needs; and the bytes that hold the bits of one row, first bit first
(R201, R301), for `withFetchWord`. -/

namespace Sys2Proof.Machine

/-! ### Video -/

/-- What the video engine finds at its cursor. -/
inductive VideoFetch where
  /-- A row, and the engine with its cursor on the row's first bit. -/
  | row (i : Instr) (v : Video)
  /-- A start-code search has met no start code. -/
  | exhausted (v : Video)
  /-- No row is there to read: the engine runs no command, or its table has no codeword here. Neither
  happens inside a command: every VLC table with its reserved prefixes is complete (R304), and a
  macroblock is met only in a picture of type 1, 2 or 3 (R511). -/
  | nothing
  deriving DecidableEq, Repr

/-- The syntax position of a VLC or layout row, from the engine's own position (R313, R314): the
macroblock-type table is chosen by `V.picture_type` (R606), the DC table by the block (R701), and the
form of table DCT by `n` (R705). -/
def Video.syntaxPosition (v : Video) : Option SyntaxPosition :=
  match v.pos with
  | .idle => none
  | .sequenceSearch => some .startCode
  | .sequenceHeader => some .sequenceHeader
  | .pictureSearch => some .startCode
  | .pictureHeader => some .pictureHeader
  | .bodySearch => some .startCode
  | .sliceSearch => some .startCode
  | .sliceHeader => some .sliceHeader
  | .addressIncrement => some .addressIncrement
  | .macroblockType =>
    if v.pictureType = 1 then some .typeI
    else if v.pictureType = 2 then some .typeP
    else if v.pictureType = 3 then some .typeB
    else none
  | .motion _ _ => some .motionCode
  | .codedBlockPattern => some .codedBlockPattern
  | .dcSize => some (if dcPlane v.block = 0 then .dcSizeY else .dcSizeC)
  | .coefficient => some (if v.coefficientPos = 0 then .firstCoefficient else .nextCoefficient)
  | .finished => none

/-- How many bits from the cursor a row at a position can need: a start code 32, the longest sequence
header 1088 (R310), the longest picture header 37 (R311), a slice header all there are (R312), the
longest codeword with its operands 28 (R325). -/
def windowSize (p : SyntaxPosition) (b : BitReader) : Nat :=
  match p with
  | .sequenceHeader => 1088
  | .pictureHeader => 40
  | .sliceHeader => b.avail
  | .mp2Header => 48
  | _ => 32

/-- The bits a row at a position is decoded from. -/
def window (p : SyntaxPosition) (b : BitReader) : List Bool := b.upcoming (windowSize p b)

/-- What the video engine finds at its cursor: a search runs first where the rule names one (R407). -/
def fetchVideo (v : Video) : VideoFetch :=
  match v.syntaxPosition with
  | none => .nothing
  | some .startCode =>
    match v.br.seekStartCode with
    | (some x, br) => .row (startCodeInstr x) { v with br := br }
    | (none, br) => .exhausted { v with br := br }
  | some p =>
    match decode p (window p v.br) with
    | .ok (i, _) => .row i v
    | .error _ => .nothing

/-! ### Audio -/

/-- What the audio engine finds at its cursor. -/
inductive AudioFetch where
  /-- A row, and the engine with its cursor on the row's first bit. -/
  | row (i : Instr) (a : Audio)
  /-- The header search has ended the command (R903). -/
  | ended (a : Audio)
  /-- The engine runs no command. -/
  | nothing
  deriving DecidableEq, Repr

/-- The row of the header at the cursor. -/
def headerAt (a : Audio) : AudioFetch :=
  match decode .mp2Header (window .mp2Header a.br) with
  | .ok (i, _) => .row i a
  | .error _ => .nothing

/-- What follows a syncword that the search has found, with the cursor behind its 11 bits: the header is
parsed where 37 more bits are stored (R903). Where fewer are, the cursor goes back to the syncword and the
command ends, so that the next ADECODE reads it again. -/
def headerBehindSearch (a : Audio) : AudioFetch :=
  let (stored, br) := a.br.has 37
  let a := { a with br := { br with bitIndex := br.bitIndex - 11 } }
  if stored then headerAt a else .ended a.returnNone

/-- Resynchronisation (R903): the cause, and the search for a syncword. DESIGN CHOICE (log entry 30): where it
finds nothing, the next ADECODE goes on by R902 at the last stored byte, as R903 says, though a write that
splits garbage is then seen (R1162). -/
def resync (a : Audio) : AudioFetch :=
  let a := a.raise .resync
  let (found, br) := a.br.findFrameSync
  if found then headerBehindSearch { a with br := br } else .ended { a with br := br }.returnNone

/-- What follows the syncword behind the stuffing, the cursor on it: R904 goes on at the version field (R902),
with no more bits waited for than R904 to R907 read. DESIGN CHOICE (log entry 27): a header of which one of
those bits is not stored is not parsed on the 0 of an under-run, since a split header decodes as the unsplit
one (R1162); the cursor stays on the syncword and the command ends, as behind a search (R903). -/
def headerBehindStuffing (a : Audio) : AudioFetch :=
  match headerAt a with
  | .row i a =>
    let (stored, br) := a.br.has (a.headerReads i)
    if stored then .row i a else .ended { a with br := br }.returnNone
  | found => found

/-- What the audio engine finds at its cursor: stuffing is skipped and the syncword is read (R902); bits
that are not the syncword start the resynchronisation (R903). -/
def fetchAudio (a : Audio) : AudioFetch :=
  match a.pos with
  | .header =>
    let b := (a.br.skipBytes 0x00).2
    let (sync, br) := b.read 11
    if sync = 0x7FF then headerBehindStuffing { a with br := b } else resync { a with br := br }
  | _ => .nothing

/-! ### Placing one row -/

/-- The bytes that hold a row of bits, the last filled with 0 bits (R301). The first argument bounds the
number of bytes. -/
def packBytes : Nat → List Bool → List Byte
  | 0, _ => []
  | n + 1, bits => BitVec.ofNat 8 (natOfBits (padTake 8 bits)) :: packBytes n (bits.drop 8)

/-- The bytes of the row whose bits the opcode table numbers `w`, and 0 bytes after them up to the longest
row. -/
def rowBytes (nbits w : Nat) : List Byte := packBytes 160 (bitsOfNat nbits w)

/-- A store that holds exactly the given bytes, with the cursor on the first of them. -/
def BitReader.holding (bytes : List Byte) (b : BitReader) : BitReader :=
  { b with bytes := bytes, bitIndex := 0 }

/-- The position at which the video engine meets a start code that acts there: the sequence search for
0xB3, the picture search for 0x00, the scan after a picture header for every other. -/
def searchFor (i : Instr) : VideoPos :=
  match i with
  | .sequenceHeaderStart => .sequenceSearch
  | .pictureStart => .pictureSearch
  | _ => .bodySearch

/-- The video engine standing before a row of a syntax position. -/
def Video.atPosition (p : SyntaxPosition) (i : Instr) (v : Video) : Video :=
  match p with
  | .startCode => { v with pos := searchFor i }
  | .sequenceHeader => { v with pos := .sequenceHeader }
  | .pictureHeader => { v with pos := .pictureHeader }
  | .sliceHeader => { v with pos := .sliceHeader }
  | .mp2Header => v
  | .addressIncrement => { v with pos := .addressIncrement }
  | .typeI => { v with pos := .macroblockType, pictureType := 1 }
  | .typeP => { v with pos := .macroblockType, pictureType := 2 }
  | .typeB => { v with pos := .macroblockType, pictureType := 3 }
  | .codedBlockPattern => { v with pos := .codedBlockPattern }
  | .motionCode => { v with pos := .motion false false }
  | .dcSizeY => { v with pos := .dcSize, block := 0 }
  | .dcSizeC => { v with pos := .dcSize, block := 4 }
  | .firstCoefficient => { v with pos := .coefficient, coefficientPos := 0 }
  | .nextCoefficient => { v with pos := .coefficient, coefficientPos := 1 }

/-- The block with both engines idle. -/
def State.idle (s : State) : State := { s with v := { s.v with pos := .idle }, a := { s.a with pos := .idle } }

/-- The block about to run a host command: it is the first in the queue (R1150). -/
def State.withCommand (c : HostCommand) (s : State) : State :=
  let s := s.idle
  { s with host := c :: s.host }

/-- The block about to run a row of an elementary stream: the engine stands before it. -/
def State.withRow (p : SyntaxPosition) (i : Instr) (bytes : List Byte) (s : State) : State :=
  let s := s.idle
  match p with
  | .mp2Header => { s with a := { s.a with pos := .header, br := s.a.br.holding bytes } }
  | _ => { s with v := { s.v with br := s.v.br.holding bytes }.atPosition p i }

end Sys2Proof.Machine
end

