-- ==== Sys2Proof/Machine/Engine.lean ====
section
/-! DEFINITION. The engines inside a decode command: one element after another until the command has
ended (R13: "inside a command the pseudocode executes sequentially in the order written"). -/

namespace Sys2Proof.Machine

/-- A start-code search has met no start code. -/
def videoExhausted (v : Video) (s : State) : Result := videoRow (fun _ => v.startCodeExhausted) s

/-- The header search has ended ADECODE. -/
def audioEnded (a : Audio) (s : State) : Result := audioRow (fun _ => a) s

/-- One element of a VDECODE. -/
def videoElement (s : State) : Result :=
  match fetchVideo s.v with
  | .row i v => runRow i { s with v := v }
  | .exhausted v => videoExhausted v s
  | .nothing => .next s

/-- Elements of a VDECODE until it has ended, at most as many as the first argument. -/
def runVideo : Nat → State → Result
  | 0, s => .next s
  | k + 1, s =>
    if s.v.pos = .idle then .next s
    else
      match videoElement s with
      | .next t => runVideo k t
      | .fault r => .fault r
      | .refused r => .refused r

/-- A bound on the elements of one VDECODE. DEDUCED (log entry 4): an element that consumes no bit moves
the engine to a position nearer to the end of the command, and there are fewer than 16 of them, so 16
elements per stored bit, and 16 more, are enough. -/
def videoBudget (v : Video) : Nat := 128 * v.br.length + 16

/-- One element of an ADECODE. -/
def audioElement (s : State) : Result :=
  match fetchAudio s.a with
  | .row i a => runRow i { s with a := a }
  | .ended a => audioEnded a s
  | .nothing => .next s

/-- The rest of an ADECODE: a header at the most, with all that follows it. -/
def runAudio (s : State) : Result := if s.a.pos = .idle then .next s else audioElement s

end Sys2Proof.Machine
end

