-- ==== Sys2Proof/Machine/SampleNumber.lean ====
section
/-! DEFINITION. The real number an output sample is (47_audio_synthesis.md R1102, R1104): SYNTH_WINDOW
applied to the exact sum of products, and a rational number that stands for it wherever R1105 rounds. -/

namespace Sys2Proof.Machine

/-! ### The window applied -/

/-- A number times a rational. -/
def scaleSurd (r : Rat) (x : Surd) : Surd := x.foldl (fun sum e => addTerm e.1 (r * e.2) sum) []

/-- `sum D[n] * x` over the products of an output sample (R1102), for a window `d`. -/
def windowSurd (d : Nat → Rat) (x : WindowSum) : Surd :=
  x.foldl (fun sum e => addSurd (scaleSurd (d e.1) e.2) sum) []

/-- `A.out[ch][n]` as a number (R1102, R1104): the window is SYNTH_WINDOW (R343). DESIGN CHOICE (log
entry 7): R7 names a result function `round_out` of AUDIO_NUMERICS that no other rule defines; here it is the
identity, so a sample is the exact sum, and R1105 alone rounds. -/
def sampleNumber (x : WindowSum) : Surd := windowSurd Config.synthWindow x

/-! ### Cosines and cube roots in fixed point -/

/-- The largest number with the given bits still to choose below `r` whose `k`-th power is at most `n`. -/
def rootFrom (k n : Nat) : Nat → Nat → Nat
  | 0, r => r
  | b + 1, r => rootFrom k n b (if (r + 2 ^ b) ^ k ≤ n then r + 2 ^ b else r)

/-- The largest number below `2 ^ bits` whose `k`-th power is at most `n`. -/
def integerRoot (k bits n : Nat) : Nat := rootFrom k n bits 0

/-- `2 ^ p * cos (c * pi / 64)` for `c` of 0..32, within 16: halving the angle from 0 and from `pi / 2`,
`cos a = sqrt ((1 + cos (2 a)) / 2)`. The first argument bounds the halvings: six reach every `c`. -/
def fixedCosine (p : Nat) : Nat → Nat → Nat
  | 0, _ => 0
  | k + 1, c =>
    if c = 0 then 2 ^ p
    else if 32 ≤ c then 0
    else
      let doubled : Int :=
        if c ≤ 16 then fixedCosine p k (2 * c) else -(fixedCosine p k (64 - 2 * c) : Int)
      integerRoot 2 (p + 1) (((2 ^ p + doubled) * 2 ^ p / 2).toNat)

/-- `2 ^ p * 2 ^ (t / 3)` for `t` of 0..2, within 1. -/
def fixedCubeRoot (p t : Nat) : Nat := integerRoot 3 (p + 1) (2 ^ (3 * p + t))

/-- `cos (c * pi / 64) * 2 ^ (t / 3)` with `k = 3 * c + t`, within `2 ^ (-p)`; 1 for `k = 0`. -/
def productApprox (p k : Nat) : Rat :=
  let q := p + 8
  if k = 0 then 1
  else ((fixedCosine q 7 (k / 3) * fixedCubeRoot q (k % 3) : Nat) : Rat) / 2 ^ (2 * q)

/-- A number within `2 ^ (-p)` for each unit of its coefficients; a rational number exactly. -/
def surdApprox (p : Nat) (x : Surd) : Rat := (x.map fun e => e.2 * productApprox p e.1).sum

/-! ### A rational number that rounds alike -/

/-- A common denominator of every number at which a rounding of R1105 changes its result: the midpoints
between neighbouring binary32 values, and the multiples of 1/32768 and 1/32767. -/
def boundaryDenominator : Nat := 2 ^ 150 * 32767

/-- A common denominator of the coefficients. -/
def surdDenominator (x : Surd) : Nat := x.foldl (fun d e => Nat.lcm d e.2.den) 1

/-- A bound on the sum of the absolute values of the coefficients. -/
def surdMagnitude (x : Surd) : Nat := x.foldl (fun m e => m + (e.2.num.natAbs / e.2.den + 1)) 1

/-- A precision at which no boundary of R1105 lies between a number and its approximation. DEDUCED (log
entry 26): with the common denominator `D` of the number and of a boundary, and `B` a bound on
`2 D |y|` for every conjugate of their difference `y`, the algebraic integer `2 D y` of degree 96 is 0 or
at least `B ^ (-95)` in absolute value; and it is 0 only for a rational number, which is not approximated. -/
def surdPrecision (x : Surd) : Nat :=
  97 * (Nat.log2 (2 * surdDenominator x * boundaryDenominator * (4 * surdMagnitude x + 1)) + 1)

/-- The rational number that stands for an exact one where R1105 rounds. -/
def surdRational (x : Surd) : Rat := surdApprox (surdPrecision x) x

end Sys2Proof.Machine
end

