-- ==== Sys2Proof/Machine/SampleFormat.lean ====
section
/-! DEFINITION. The formats in which the host reads output samples (47_audio_synthesis.md R1104, R1105). -/

namespace Sys2Proof.Machine

/-- `2 ^ e` for any integer `e`. -/
def pow2 (e : Int) : Rat := if 0 ≤ e then 2 ^ e.toNat else 1 / 2 ^ (-e).toNat

/-- `floor (log2 x)` of a positive rational. -/
def floorLog2 (x : Rat) : Int :=
  let e : Int := (Nat.log2 x.num.natAbs : Int) - Nat.log2 x.den
  if x < pow2 e then e - 1 else e

/-- A nonnegative rational rounded to the nearest integer, ties to even. -/
def roundHalfEven (x : Rat) : Nat :=
  let n := x.floor.toNat
  let rest := x - n
  if rest < 1 / 2 then n
  else if 1 / 2 < rest then n + 1
  else n + n % 2

/-- The binary32 pattern of a positive rational, nearest, ties to even: with `e = floor (log2 x)`, at
least -126, the significand in units of `2 ^ (e - 23)` added to the exponent field gives the pattern, also
where rounding carries into the exponent and where the value is subnormal; past the largest finite
value it is infinity. -/
def float32Magnitude (x : Rat) : Nat :=
  let e := max (floorLog2 x) (-126)
  let m := roundHalfEven (x / pow2 (e - 23))
  min 0x7F800000 ((e + 126).toNat * 2 ^ 23 + m)

/-- `f32(x)` as its 32-bit pattern (R1105); 0 is the positive zero. -/
def float32 (x : Rat) : Word :=
  if x = 0 then 0
  else if x < 0 then 0x80000000 ||| BitVec.ofNat 32 (float32Magnitude (-x))
  else BitVec.ofNat 32 (float32Magnitude x)

/-- `trunc`: toward zero (R1105). -/
def truncate (x : Rat) : Int := x.num.tdiv x.den

/-- The signed 16-bit element, sign-extended (R1105, R1158). -/
def signed16 (x : Rat) : Word :=
  let y := min 1 (max (-1) x)
  BitVec.ofInt 32 (if y < 0 then truncate (y * 32768) else truncate (y * 32767))

/-- A sample in a format (R1105): 0 F32N, 1 F32NLR, 2 F32, 3 S16. -/
def formatSample (format : BitVec 2) (x : Surd) : Word :=
  match format.toNat with
  | 0 => float32 (surdRational x)
  | 1 => float32 (surdRational x)
  | 2 => float32 (surdRational (scaleSurd 2147418112 x))
  | _ => signed16 (surdRational x)

/-- The channel and the sample number of element `n` of the Samples array (R1105, R1158). -/
def elementPosition (format : BitVec 2) (n : Nat) : Nat × Nat :=
  if format = 1 then (n / 1152, n % 1152) else (n % 2, n / 2)

/-- The value of ASAMPLES_READ(n) (R1158). -/
def Audio.sampleElement (a : Audio) (n : Nat) : Word :=
  if a.outValid && decide (n < 2304) then
    let (ch, m) := elementPosition a.format n
    formatSample a.format (sampleNumber (a.out.getD (1152 * ch + m) []))
  else 0

end Sys2Proof.Machine
end

