-- ==== Sys2Proof/Machine/HostCommands.lean ====
section
/-! DEFINITION. The meanings of the twelve host commands (R1151): each is one atomic transition of one
engine (R13). A command on an engine that is still inside another one has no transition in the spec
(R213): it faults. -/

namespace Sys2Proof.Machine

/-! ### Shared operations -/

/-- A command of the VDE. -/
def videoCommand (f : State → Result) (s : State) : Result :=
  if s.v.pos = .idle then f s else .fault .commandOverlap

/-- A command of the ADE. -/
def audioCommand (f : State → Result) (s : State) : Result :=
  if s.a.pos = .idle then f s else .fault .commandOverlap

/-- A command on the register file: the engine that owns the register runs no command. -/
def csrCommand (r : Nat) (f : State → Result) (s : State) : Result :=
  if (csrOfVideo r && s.v.pos != .idle) || (csrOfAudio r && s.a.pos != .idle) then
    .fault .commandOverlap
  else f s

/-- A command that changes the VDE and returns nothing (R1152). -/
def changeVideo (f : Video → Video) (s : State) : Result :=
  .next { s with v := f s.v, response := none }

/-- A command that changes the ADE and returns nothing (R1152). -/
def changeAudio (f : Audio → Audio) (s : State) : Result :=
  .next { s with a := f s.a, response := none }

/-- A read: its value is returned and nothing changes (R209). -/
def returnValue (value : Word) (s : State) : Result := .next { s with response := some value }

/-- VREWIND on the VDE (R1302). -/
def Video.rewind (v : Video) : Video :=
  { v with
      br := v.br.rewind
      time := 0
      framesDecoded := 0
      hasReferenceFrame := false
      startCode := none
      outFrame := none
      pictureType := 0
      cur := 0
      fwd := 1
      bwd := 2 }

/-- AREWIND on the ADE (R1303). -/
def Audio.rewind (a : Audio) : Audio :=
  { a with
      br := a.br.rewind
      time := 0
      samplesTime := 0
      samplesDecoded := 0
      nextFrameDataSize := 0
      outValid := false
      delay := List.replicate 2048 []
      vPos := 0 }

/-- The plane a number names (opcode table, VFRAME_READ): 0 Y, 1 Cb, 2 Cr. -/
def planeOfNumber : Nat → Option Plane
  | 0 => some .y
  | 1 => some .cb
  | 2 => some .cr
  | _ => none

/-- The value of VFRAME_READ(p, i) (R1157). DEDUCED (log entry 10): a number that names no plane is no
valid read, so it reads 0. -/
def Video.frameSample (v : Video) (p i : Nat) : Word :=
  match v.outFrame, planeOfNumber p with
  | some f, some plane =>
    if i < v.planeWidth plane * v.planeHeight plane then (v.planeRead f plane i).setWidth 32 else 0
  | _, _ => 0

/-- A VDECODE, from its start to its response word (R1155, R501). -/
def decodeVideo (s : State) : Result :=
  let t := deliverVideo { s with v := s.v.beginDecode, response := none }
  runVideo (videoBudget t.v) t

/-- An ADECODE, from its start to its response word (R1156, R901). -/
def decodeAudio (s : State) : Result :=
  runAudio (deliverAudio { s with a := s.a.beginDecode, response := none })

/-! ### The commands -/

/-- `VWRITE` (R1153). -/
def execVwrite (b : List Byte) (s : State) : Result :=
  videoCommand (changeVideo fun v => { v with br := v.br.write b }) s

/-- `VSIGNAL_END` (R1154). -/
def execVsignalEnd (s : State) : Result :=
  videoCommand (changeVideo fun v => { v with br := v.br.signalEnd }) s

/-- `VDECODE` (R1155). -/
def execVdecode (s : State) : Result := videoCommand decodeVideo s

/-- `VREWIND` (R1160, R1302). -/
def execVrewind (s : State) : Result := videoCommand (changeVideo .rewind) s

/-- `VFRAME_READ` (R1157). -/
def execVframeRead (p i : Nat) (s : State) : Result :=
  videoCommand (fun s => returnValue (s.v.frameSample p i) s) s

/-- `AWRITE` (R1153). -/
def execAwrite (b : List Byte) (s : State) : Result :=
  audioCommand (changeAudio fun a => { a with br := a.br.write b }) s

/-- `ASIGNAL_END` (R1154). -/
def execAsignalEnd (s : State) : Result :=
  audioCommand (changeAudio fun a => { a with br := a.br.signalEnd }) s

/-- `ADECODE` (R1156). -/
def execAdecode (s : State) : Result := audioCommand decodeAudio s

/-- `AREWIND` (R1160, R1303). -/
def execArewind (s : State) : Result := audioCommand (changeAudio .rewind) s

/-- `ASAMPLES_READ` (R1158). -/
def execAsamplesRead (n : Nat) (s : State) : Result :=
  audioCommand (fun s => returnValue (s.a.sampleElement n) s) s

/-- `CSR_READ` (R1159). -/
def execCsrRead (r : Nat) (s : State) : Result :=
  csrCommand r (fun s => returnValue (csrValue s.v s.a r) s) s

/-- `CSR_WRITE` (R1159). -/
def execCsrWrite (r : Nat) (x : Word) (s : State) : Result :=
  csrCommand r
    (fun s => .next { s with v := writeVideoCsr r x s.v, a := writeAudioCsr r x s.a, response := none })
    s

end Sys2Proof.Machine
end

