-- ==== Sys2Proof/Machine/Dispatch.lean ====
section
/-! DEFINITION. The meaning of every instruction: one arm per row of spec/opcode_table.json. -/

namespace Sys2Proof.Machine

def exec (i : Instr) (s : State) : Host.Outcome State Fault Refusal :=
  match i with
  | .vwrite b => Sys2Proof.Machine.execVwrite b s
  | .vsignalEnd => Sys2Proof.Machine.execVsignalEnd s
  | .vdecode => Sys2Proof.Machine.execVdecode s
  | .vrewind => Sys2Proof.Machine.execVrewind s
  | .vframeRead p n => Sys2Proof.Machine.execVframeRead p n s
  | .awrite b => Sys2Proof.Machine.execAwrite b s
  | .asignalEnd => Sys2Proof.Machine.execAsignalEnd s
  | .adecode => Sys2Proof.Machine.execAdecode s
  | .arewind => Sys2Proof.Machine.execArewind s
  | .asamplesRead n => Sys2Proof.Machine.execAsamplesRead n s
  | .csrRead r => Sys2Proof.Machine.execCsrRead r s
  | .csrWrite r v => Sys2Proof.Machine.execCsrWrite r v s
  | .pictureStart => Sys2Proof.Machine.execPictureStart s
  | .userDataStart => Sys2Proof.Machine.execUserDataStart s
  | .sequenceHeaderStart => Sys2Proof.Machine.execSequenceHeaderStart s
  | .sequenceError => Sys2Proof.Machine.execSequenceError s
  | .extensionStart => Sys2Proof.Machine.execExtensionStart s
  | .sequenceEnd => Sys2Proof.Machine.execSequenceEnd s
  | .groupStart => Sys2Proof.Machine.execGroupStart s
  | .reservedB0 => Sys2Proof.Machine.execReservedB0 s
  | .reservedB1 => Sys2Proof.Machine.execReservedB1 s
  | .reservedB6 => Sys2Proof.Machine.execReservedB6 s
  | .iso11172End => Sys2Proof.Machine.execIso11172End s
  | .packStart => Sys2Proof.Machine.execPackStart s
  | .systemHeaderStart => Sys2Proof.Machine.execSystemHeaderStart s
  | .sliceStart v => Sys2Proof.Machine.execSliceStart v s
  | .streamIdStart v => Sys2Proof.Machine.execStreamIdStart v s
  | .sequenceHeader h => Sys2Proof.Machine.execSequenceHeader h s
  | .pictureHeader h => Sys2Proof.Machine.execPictureHeader h s
  | .sliceHeader h => Sys2Proof.Machine.execSliceHeader h s
  | .mp2Header h => Sys2Proof.Machine.execMp2Header h s
  | .mp2SyncOther h => Sys2Proof.Machine.execMp2SyncOther h s
  | .motion0 => Sys2Proof.Machine.execMotion0 s
  | .motion1 b => Sys2Proof.Machine.execMotion1 b s
  | .motion2 b => Sys2Proof.Machine.execMotion2 b s
  | .motion3 b => Sys2Proof.Machine.execMotion3 b s
  | .motion4 b => Sys2Proof.Machine.execMotion4 b s
  | .motion5 b => Sys2Proof.Machine.execMotion5 b s
  | .motion6 b => Sys2Proof.Machine.execMotion6 b s
  | .motion7 b => Sys2Proof.Machine.execMotion7 b s
  | .motion8 b => Sys2Proof.Machine.execMotion8 b s
  | .motion9 b => Sys2Proof.Machine.execMotion9 b s
  | .motion10 b => Sys2Proof.Machine.execMotion10 b s
  | .motion11 b => Sys2Proof.Machine.execMotion11 b s
  | .motion12 b => Sys2Proof.Machine.execMotion12 b s
  | .motion13 b => Sys2Proof.Machine.execMotion13 b s
  | .motion14 b => Sys2Proof.Machine.execMotion14 b s
  | .motion15 b => Sys2Proof.Machine.execMotion15 b s
  | .motion16 b => Sys2Proof.Machine.execMotion16 b s
  | .dctEob => Sys2Proof.Machine.execDctEob s
  | .dctFirstR0L1 b => Sys2Proof.Machine.execDctFirstR0L1 b s
  | .dctNextR0L1 b => Sys2Proof.Machine.execDctNextR0L1 b s
  | .dctEscape => Sys2Proof.Machine.execDctEscape s
  | .dctR1L1 b => Sys2Proof.Machine.execDctR1L1 b s
  | .dctR0L2 b => Sys2Proof.Machine.execDctR0L2 b s
  | .dctR2L1 b => Sys2Proof.Machine.execDctR2L1 b s
  | .dctR0L3 b => Sys2Proof.Machine.execDctR0L3 b s
  | .dctR3L1 b => Sys2Proof.Machine.execDctR3L1 b s
  | .dctR4L1 b => Sys2Proof.Machine.execDctR4L1 b s
  | .dctR1L2 b => Sys2Proof.Machine.execDctR1L2 b s
  | .dctR5L1 b => Sys2Proof.Machine.execDctR5L1 b s
  | .dctR6L1 b => Sys2Proof.Machine.execDctR6L1 b s
  | .dctR7L1 b => Sys2Proof.Machine.execDctR7L1 b s
  | .dctR0L4 b => Sys2Proof.Machine.execDctR0L4 b s
  | .dctR2L2 b => Sys2Proof.Machine.execDctR2L2 b s
  | .dctR8L1 b => Sys2Proof.Machine.execDctR8L1 b s
  | .dctR9L1 b => Sys2Proof.Machine.execDctR9L1 b s
  | .dctR0L5 b => Sys2Proof.Machine.execDctR0L5 b s
  | .dctR0L6 b => Sys2Proof.Machine.execDctR0L6 b s
  | .dctR1L3 b => Sys2Proof.Machine.execDctR1L3 b s
  | .dctR3L2 b => Sys2Proof.Machine.execDctR3L2 b s
  | .dctR10L1 b => Sys2Proof.Machine.execDctR10L1 b s
  | .dctR11L1 b => Sys2Proof.Machine.execDctR11L1 b s
  | .dctR12L1 b => Sys2Proof.Machine.execDctR12L1 b s
  | .dctR13L1 b => Sys2Proof.Machine.execDctR13L1 b s
  | .dctR0L7 b => Sys2Proof.Machine.execDctR0L7 b s
  | .dctR1L4 b => Sys2Proof.Machine.execDctR1L4 b s
  | .dctR2L3 b => Sys2Proof.Machine.execDctR2L3 b s
  | .dctR4L2 b => Sys2Proof.Machine.execDctR4L2 b s
  | .dctR5L2 b => Sys2Proof.Machine.execDctR5L2 b s
  | .dctR14L1 b => Sys2Proof.Machine.execDctR14L1 b s
  | .dctR15L1 b => Sys2Proof.Machine.execDctR15L1 b s
  | .dctR16L1 b => Sys2Proof.Machine.execDctR16L1 b s
  | .dctR0L8 b => Sys2Proof.Machine.execDctR0L8 b s
  | .dctR0L9 b => Sys2Proof.Machine.execDctR0L9 b s
  | .dctR0L10 b => Sys2Proof.Machine.execDctR0L10 b s
  | .dctR0L11 b => Sys2Proof.Machine.execDctR0L11 b s
  | .dctR1L5 b => Sys2Proof.Machine.execDctR1L5 b s
  | .dctR2L4 b => Sys2Proof.Machine.execDctR2L4 b s
  | .dctR3L3 b => Sys2Proof.Machine.execDctR3L3 b s
  | .dctR4L3 b => Sys2Proof.Machine.execDctR4L3 b s
  | .dctR6L2 b => Sys2Proof.Machine.execDctR6L2 b s
  | .dctR7L2 b => Sys2Proof.Machine.execDctR7L2 b s
  | .dctR8L2 b => Sys2Proof.Machine.execDctR8L2 b s
  | .dctR17L1 b => Sys2Proof.Machine.execDctR17L1 b s
  | .dctR18L1 b => Sys2Proof.Machine.execDctR18L1 b s
  | .dctR19L1 b => Sys2Proof.Machine.execDctR19L1 b s
  | .dctR20L1 b => Sys2Proof.Machine.execDctR20L1 b s
  | .dctR21L1 b => Sys2Proof.Machine.execDctR21L1 b s
  | .dctR0L12 b => Sys2Proof.Machine.execDctR0L12 b s
  | .dctR0L13 b => Sys2Proof.Machine.execDctR0L13 b s
  | .dctR0L14 b => Sys2Proof.Machine.execDctR0L14 b s
  | .dctR0L15 b => Sys2Proof.Machine.execDctR0L15 b s
  | .dctR1L6 b => Sys2Proof.Machine.execDctR1L6 b s
  | .dctR1L7 b => Sys2Proof.Machine.execDctR1L7 b s
  | .dctR2L5 b => Sys2Proof.Machine.execDctR2L5 b s
  | .dctR3L4 b => Sys2Proof.Machine.execDctR3L4 b s
  | .dctR5L3 b => Sys2Proof.Machine.execDctR5L3 b s
  | .dctR9L2 b => Sys2Proof.Machine.execDctR9L2 b s
  | .dctR10L2 b => Sys2Proof.Machine.execDctR10L2 b s
  | .dctR22L1 b => Sys2Proof.Machine.execDctR22L1 b s
  | .dctR23L1 b => Sys2Proof.Machine.execDctR23L1 b s
  | .dctR24L1 b => Sys2Proof.Machine.execDctR24L1 b s
  | .dctR25L1 b => Sys2Proof.Machine.execDctR25L1 b s
  | .dctR26L1 b => Sys2Proof.Machine.execDctR26L1 b s
  | .dctR0L16 b => Sys2Proof.Machine.execDctR0L16 b s
  | .dctR0L17 b => Sys2Proof.Machine.execDctR0L17 b s
  | .dctR0L18 b => Sys2Proof.Machine.execDctR0L18 b s
  | .dctR0L19 b => Sys2Proof.Machine.execDctR0L19 b s
  | .dctR0L20 b => Sys2Proof.Machine.execDctR0L20 b s
  | .dctR0L21 b => Sys2Proof.Machine.execDctR0L21 b s
  | .dctR0L22 b => Sys2Proof.Machine.execDctR0L22 b s
  | .dctR0L23 b => Sys2Proof.Machine.execDctR0L23 b s
  | .dctR0L24 b => Sys2Proof.Machine.execDctR0L24 b s
  | .dctR0L25 b => Sys2Proof.Machine.execDctR0L25 b s
  | .dctR0L26 b => Sys2Proof.Machine.execDctR0L26 b s
  | .dctR0L27 b => Sys2Proof.Machine.execDctR0L27 b s
  | .dctR0L28 b => Sys2Proof.Machine.execDctR0L28 b s
  | .dctR0L29 b => Sys2Proof.Machine.execDctR0L29 b s
  | .dctR0L30 b => Sys2Proof.Machine.execDctR0L30 b s
  | .dctR0L31 b => Sys2Proof.Machine.execDctR0L31 b s
  | .dctR0L32 b => Sys2Proof.Machine.execDctR0L32 b s
  | .dctR0L33 b => Sys2Proof.Machine.execDctR0L33 b s
  | .dctR0L34 b => Sys2Proof.Machine.execDctR0L34 b s
  | .dctR0L35 b => Sys2Proof.Machine.execDctR0L35 b s
  | .dctR0L36 b => Sys2Proof.Machine.execDctR0L36 b s
  | .dctR0L37 b => Sys2Proof.Machine.execDctR0L37 b s
  | .dctR0L38 b => Sys2Proof.Machine.execDctR0L38 b s
  | .dctR0L39 b => Sys2Proof.Machine.execDctR0L39 b s
  | .dctR0L40 b => Sys2Proof.Machine.execDctR0L40 b s
  | .dctR1L8 b => Sys2Proof.Machine.execDctR1L8 b s
  | .dctR1L9 b => Sys2Proof.Machine.execDctR1L9 b s
  | .dctR1L10 b => Sys2Proof.Machine.execDctR1L10 b s
  | .dctR1L11 b => Sys2Proof.Machine.execDctR1L11 b s
  | .dctR1L12 b => Sys2Proof.Machine.execDctR1L12 b s
  | .dctR1L13 b => Sys2Proof.Machine.execDctR1L13 b s
  | .dctR1L14 b => Sys2Proof.Machine.execDctR1L14 b s
  | .dctR1L15 b => Sys2Proof.Machine.execDctR1L15 b s
  | .dctR1L16 b => Sys2Proof.Machine.execDctR1L16 b s
  | .dctR1L17 b => Sys2Proof.Machine.execDctR1L17 b s
  | .dctR1L18 b => Sys2Proof.Machine.execDctR1L18 b s
  | .dctR6L3 b => Sys2Proof.Machine.execDctR6L3 b s
  | .dctR11L2 b => Sys2Proof.Machine.execDctR11L2 b s
  | .dctR12L2 b => Sys2Proof.Machine.execDctR12L2 b s
  | .dctR13L2 b => Sys2Proof.Machine.execDctR13L2 b s
  | .dctR14L2 b => Sys2Proof.Machine.execDctR14L2 b s
  | .dctR15L2 b => Sys2Proof.Machine.execDctR15L2 b s
  | .dctR16L2 b => Sys2Proof.Machine.execDctR16L2 b s
  | .dctR27L1 b => Sys2Proof.Machine.execDctR27L1 b s
  | .dctR28L1 b => Sys2Proof.Machine.execDctR28L1 b s
  | .dctR29L1 b => Sys2Proof.Machine.execDctR29L1 b s
  | .dctR30L1 b => Sys2Proof.Machine.execDctR30L1 b s
  | .dctR31L1 b => Sys2Proof.Machine.execDctR31L1 b s
  | .dctEscapeShort r l => Sys2Proof.Machine.execDctEscapeShort r l s
  | .dctEscapeLongPos r l => Sys2Proof.Machine.execDctEscapeLongPos r l s
  | .dctEscapeLongNeg r l => Sys2Proof.Machine.execDctEscapeLongNeg r l s
  | .mba1 => Sys2Proof.Machine.execMba1 s
  | .mba2 => Sys2Proof.Machine.execMba2 s
  | .mba3 => Sys2Proof.Machine.execMba3 s
  | .mba4 => Sys2Proof.Machine.execMba4 s
  | .mba5 => Sys2Proof.Machine.execMba5 s
  | .mba6 => Sys2Proof.Machine.execMba6 s
  | .mba7 => Sys2Proof.Machine.execMba7 s
  | .mba8 => Sys2Proof.Machine.execMba8 s
  | .mba9 => Sys2Proof.Machine.execMba9 s
  | .mba10 => Sys2Proof.Machine.execMba10 s
  | .mba11 => Sys2Proof.Machine.execMba11 s
  | .mba12 => Sys2Proof.Machine.execMba12 s
  | .mba13 => Sys2Proof.Machine.execMba13 s
  | .mba14 => Sys2Proof.Machine.execMba14 s
  | .mba15 => Sys2Proof.Machine.execMba15 s
  | .mba16 => Sys2Proof.Machine.execMba16 s
  | .mba17 => Sys2Proof.Machine.execMba17 s
  | .mba18 => Sys2Proof.Machine.execMba18 s
  | .mba19 => Sys2Proof.Machine.execMba19 s
  | .mba20 => Sys2Proof.Machine.execMba20 s
  | .mba21 => Sys2Proof.Machine.execMba21 s
  | .mba22 => Sys2Proof.Machine.execMba22 s
  | .mba23 => Sys2Proof.Machine.execMba23 s
  | .mba24 => Sys2Proof.Machine.execMba24 s
  | .mba25 => Sys2Proof.Machine.execMba25 s
  | .mba26 => Sys2Proof.Machine.execMba26 s
  | .mba27 => Sys2Proof.Machine.execMba27 s
  | .mba28 => Sys2Proof.Machine.execMba28 s
  | .mba29 => Sys2Proof.Machine.execMba29 s
  | .mba30 => Sys2Proof.Machine.execMba30 s
  | .mba31 => Sys2Proof.Machine.execMba31 s
  | .mba32 => Sys2Proof.Machine.execMba32 s
  | .mba33 => Sys2Proof.Machine.execMba33 s
  | .mbaStuffing => Sys2Proof.Machine.execMbaStuffing s
  | .mbaEscape => Sys2Proof.Machine.execMbaEscape s
  | .mbtI01 => Sys2Proof.Machine.execMbtI01 s
  | .mbtI11 => Sys2Proof.Machine.execMbtI11 s
  | .mbtP0A => Sys2Proof.Machine.execMbtP0A s
  | .mbtP02 => Sys2Proof.Machine.execMbtP02 s
  | .mbtP08 => Sys2Proof.Machine.execMbtP08 s
  | .mbtP01 => Sys2Proof.Machine.execMbtP01 s
  | .mbtP1A => Sys2Proof.Machine.execMbtP1A s
  | .mbtP12 => Sys2Proof.Machine.execMbtP12 s
  | .mbtP11 => Sys2Proof.Machine.execMbtP11 s
  | .mbtB0C => Sys2Proof.Machine.execMbtB0C s
  | .mbtB0E => Sys2Proof.Machine.execMbtB0E s
  | .mbtB04 => Sys2Proof.Machine.execMbtB04 s
  | .mbtB06 => Sys2Proof.Machine.execMbtB06 s
  | .mbtB08 => Sys2Proof.Machine.execMbtB08 s
  | .mbtB0A => Sys2Proof.Machine.execMbtB0A s
  | .mbtB01 => Sys2Proof.Machine.execMbtB01 s
  | .mbtB1E => Sys2Proof.Machine.execMbtB1E s
  | .mbtB1A => Sys2Proof.Machine.execMbtB1A s
  | .mbtB16 => Sys2Proof.Machine.execMbtB16 s
  | .mbtB11 => Sys2Proof.Machine.execMbtB11 s
  | .cbp60 => Sys2Proof.Machine.execCbp60 s
  | .cbp4 => Sys2Proof.Machine.execCbp4 s
  | .cbp8 => Sys2Proof.Machine.execCbp8 s
  | .cbp16 => Sys2Proof.Machine.execCbp16 s
  | .cbp32 => Sys2Proof.Machine.execCbp32 s
  | .cbp12 => Sys2Proof.Machine.execCbp12 s
  | .cbp48 => Sys2Proof.Machine.execCbp48 s
  | .cbp20 => Sys2Proof.Machine.execCbp20 s
  | .cbp40 => Sys2Proof.Machine.execCbp40 s
  | .cbp28 => Sys2Proof.Machine.execCbp28 s
  | .cbp44 => Sys2Proof.Machine.execCbp44 s
  | .cbp52 => Sys2Proof.Machine.execCbp52 s
  | .cbp56 => Sys2Proof.Machine.execCbp56 s
  | .cbp1 => Sys2Proof.Machine.execCbp1 s
  | .cbp61 => Sys2Proof.Machine.execCbp61 s
  | .cbp2 => Sys2Proof.Machine.execCbp2 s
  | .cbp62 => Sys2Proof.Machine.execCbp62 s
  | .cbp24 => Sys2Proof.Machine.execCbp24 s
  | .cbp36 => Sys2Proof.Machine.execCbp36 s
  | .cbp3 => Sys2Proof.Machine.execCbp3 s
  | .cbp63 => Sys2Proof.Machine.execCbp63 s
  | .cbp5 => Sys2Proof.Machine.execCbp5 s
  | .cbp9 => Sys2Proof.Machine.execCbp9 s
  | .cbp17 => Sys2Proof.Machine.execCbp17 s
  | .cbp33 => Sys2Proof.Machine.execCbp33 s
  | .cbp6 => Sys2Proof.Machine.execCbp6 s
  | .cbp10 => Sys2Proof.Machine.execCbp10 s
  | .cbp18 => Sys2Proof.Machine.execCbp18 s
  | .cbp34 => Sys2Proof.Machine.execCbp34 s
  | .cbp7 => Sys2Proof.Machine.execCbp7 s
  | .cbp11 => Sys2Proof.Machine.execCbp11 s
  | .cbp19 => Sys2Proof.Machine.execCbp19 s
  | .cbp35 => Sys2Proof.Machine.execCbp35 s
  | .cbp13 => Sys2Proof.Machine.execCbp13 s
  | .cbp49 => Sys2Proof.Machine.execCbp49 s
  | .cbp21 => Sys2Proof.Machine.execCbp21 s
  | .cbp41 => Sys2Proof.Machine.execCbp41 s
  | .cbp14 => Sys2Proof.Machine.execCbp14 s
  | .cbp50 => Sys2Proof.Machine.execCbp50 s
  | .cbp22 => Sys2Proof.Machine.execCbp22 s
  | .cbp42 => Sys2Proof.Machine.execCbp42 s
  | .cbp15 => Sys2Proof.Machine.execCbp15 s
  | .cbp51 => Sys2Proof.Machine.execCbp51 s
  | .cbp23 => Sys2Proof.Machine.execCbp23 s
  | .cbp43 => Sys2Proof.Machine.execCbp43 s
  | .cbp25 => Sys2Proof.Machine.execCbp25 s
  | .cbp37 => Sys2Proof.Machine.execCbp37 s
  | .cbp26 => Sys2Proof.Machine.execCbp26 s
  | .cbp38 => Sys2Proof.Machine.execCbp38 s
  | .cbp29 => Sys2Proof.Machine.execCbp29 s
  | .cbp45 => Sys2Proof.Machine.execCbp45 s
  | .cbp53 => Sys2Proof.Machine.execCbp53 s
  | .cbp57 => Sys2Proof.Machine.execCbp57 s
  | .cbp30 => Sys2Proof.Machine.execCbp30 s
  | .cbp46 => Sys2Proof.Machine.execCbp46 s
  | .cbp54 => Sys2Proof.Machine.execCbp54 s
  | .cbp58 => Sys2Proof.Machine.execCbp58 s
  | .cbp31 => Sys2Proof.Machine.execCbp31 s
  | .cbp47 => Sys2Proof.Machine.execCbp47 s
  | .cbp55 => Sys2Proof.Machine.execCbp55 s
  | .cbp59 => Sys2Proof.Machine.execCbp59 s
  | .cbp27 => Sys2Proof.Machine.execCbp27 s
  | .cbp39 => Sys2Proof.Machine.execCbp39 s
  | .dcSizeY0 => Sys2Proof.Machine.execDcSizeY0 s
  | .dcSizeY1 => Sys2Proof.Machine.execDcSizeY1 s
  | .dcSizeY2 => Sys2Proof.Machine.execDcSizeY2 s
  | .dcSizeY3 => Sys2Proof.Machine.execDcSizeY3 s
  | .dcSizeY4 => Sys2Proof.Machine.execDcSizeY4 s
  | .dcSizeY5 => Sys2Proof.Machine.execDcSizeY5 s
  | .dcSizeY6 => Sys2Proof.Machine.execDcSizeY6 s
  | .dcSizeY7 => Sys2Proof.Machine.execDcSizeY7 s
  | .dcSizeY8 => Sys2Proof.Machine.execDcSizeY8 s
  | .dcSizeC0 => Sys2Proof.Machine.execDcSizeC0 s
  | .dcSizeC1 => Sys2Proof.Machine.execDcSizeC1 s
  | .dcSizeC2 => Sys2Proof.Machine.execDcSizeC2 s
  | .dcSizeC3 => Sys2Proof.Machine.execDcSizeC3 s
  | .dcSizeC4 => Sys2Proof.Machine.execDcSizeC4 s
  | .dcSizeC5 => Sys2Proof.Machine.execDcSizeC5 s
  | .dcSizeC6 => Sys2Proof.Machine.execDcSizeC6 s
  | .dcSizeC7 => Sys2Proof.Machine.execDcSizeC7 s
  | .dcSizeC8 => Sys2Proof.Machine.execDcSizeC8 s
  | .mbaReserved1 => Sys2Proof.Machine.execMbaReserved1 s
  | .mbaReserved2 => Sys2Proof.Machine.execMbaReserved2 s
  | .mbaReserved3 => Sys2Proof.Machine.execMbaReserved3 s
  | .mbaReserved4 => Sys2Proof.Machine.execMbaReserved4 s
  | .mbaReserved5 => Sys2Proof.Machine.execMbaReserved5 s
  | .mbaReserved6 => Sys2Proof.Machine.execMbaReserved6 s
  | .mbtIReserved => Sys2Proof.Machine.execMbtIReserved s
  | .mbtPReserved => Sys2Proof.Machine.execMbtPReserved s
  | .mbtBReserved => Sys2Proof.Machine.execMbtBReserved s
  | .cbpReserved => Sys2Proof.Machine.execCbpReserved s
  | .motionReserved1 => Sys2Proof.Machine.execMotionReserved1 s
  | .motionReserved2 => Sys2Proof.Machine.execMotionReserved2 s
  | .dctDcYReserved => Sys2Proof.Machine.execDctDcYReserved s
  | .dctDcCReserved => Sys2Proof.Machine.execDctDcCReserved s
  | .dctReserved => Sys2Proof.Machine.execDctReserved s

end Sys2Proof.Machine
end

