-- ==== Sys2Proof/Machine/Step.lean ====
section
/-! DEFINITION. One step of the block, and how a row is placed where the next step fetches it. -/

namespace Sys2Proof.Machine

/-- One step: an engine inside a decode command runs the element at its cursor; else the next host command
runs, whole (R13). A command whose code is not assigned changes no state and returns nothing (R1163);
with no command queued the block is idle and keeps all state (R1211). -/
def step (s : State) : Host.Outcome State Fault Refusal :=
  if s.v.pos ≠ .idle then
    match fetchVideo s.v with
    | .row i v => exec i { s with v := v }
    | .exhausted v => videoExhausted v s
    | .nothing => .next s
  else if s.a.pos ≠ .idle then
    match fetchAudio s.a with
    | .row i a => exec i { s with a := a }
    | .ended a => audioEnded a s
    | .nothing => .next s
  else
    match s.host with
    | [] => .next s
    | c :: rest =>
      match decodeHost c with
      | .ok i => exec i { s with host := rest }
      | .error _ => .next { s with host := rest, response := none }

/-- The block about to run the instruction that a word of the opcode table stands for: a host command at
the front of the queue, or a row of a stream under the cursor of its engine (log entry 3). -/
def State.withFetchWord (s : State) (nbits w : Nat) : State :=
  match decodeTableWord nbits w with
  | none => s
  | some i =>
    if i.positions.isEmpty then s.withCommand ⟨BitVec.ofNat 8 w, [], 0, 0⟩
    else
      match decodeStreamWord nbits w with
      | none => s
      | some (p, i) => s.withRow p i (rowBytes nbits w)

end Sys2Proof.Machine
end

