-- ==== Sys2Proof/Safety.lean ====
section
/-! DEFINITION. What a legal state is, in the terms the claims use: the cursor inside its store (R100,
R116), register files of their declared sizes (R103-R114), frame memory in its canonical form, the
delay-line offset a multiple of 64 (R113), no command-local flag outside a command (R1301), the frame
indices pairwise distinct (R109), and every sample access inside its plane (R204). -/

namespace Sys2Proof.Machine

/-! ### Register files, memories and cursors -/

/-- The cursor ranges over `0 .. 8 * BR.length` (R116). -/
def BitReader.cursorInStore (b : BitReader) : Bool := decide (b.bitIndex ≤ 8 * b.length)

/-- The three planes are in their canonical form. -/
def Frame.wf (f : Frame) : Bool := Memory.wf f.y && Memory.wf f.cb && Memory.wf f.cr

/-- A legal state of the VDE, apart from its frame indices. -/
def Video.wf (v : Video) : Bool :=
  v.br.cursorInStore && v.fb0.wf && v.fb1.wf && v.fb2.wf &&
    v.intraQuantMatrix.length == 64 && v.nonIntraQuantMatrix.length == 64 &&
    v.dcPredictor.length == 3 && v.blockData.length == 64 && v.pos != .finished &&
    (v.pos != .idle || (!v.raised && !v.br.needData))

/-- A legal state of the ADE. -/
def Audio.wf (a : Audio) : Bool :=
  a.br.cursorInStore && a.allocation.length == 64 && a.scfsi.length == 64 &&
    a.scalefactor.length == 192 && a.sample.length == 192 && a.delay.length == 2048 &&
    a.out.length == 2304 && a.vPos.toNat % 64 == 0 && (a.channels == 1 || a.channels == 2) &&
    a.pos != .finished && (a.pos != .idle || (!a.raised && !a.br.needData))

/-- A legal state of the block. -/
def State.wf (s : State) : Bool := s.v.wf && s.a.wf

/-! ### Frame indices (R109, R505, R506) -/

/-- The engine is between the pre-rotation and the post-rotation of a picture. -/
def VideoPos.inPicture : VideoPos → Bool
  | .idle => false
  | .sequenceSearch => false
  | .sequenceHeader => false
  | .pictureSearch => false
  | .pictureHeader => false
  | .bodySearch => true
  | .sliceSearch => true
  | .sliceHeader => true
  | .addressIncrement => true
  | .macroblockType => true
  | .motion _ _ => true
  | .codedBlockPattern => true
  | .dcSize => true
  | .coefficient => true
  | .finished => false

/-- Three frame indices are pairwise distinct. -/
def distinctIndices (a b c : Fin 3) : Bool := a != b && a != c && b != c

/-- The frame indices: pairwise distinct (R109); inside an I or P picture, where the pre-rotation has made
the forward index the backward one, the old forward index stands in `temp` (R505). -/
def Video.indicesLegal (v : Video) : Bool :=
  if v.pos.inPicture && (v.pictureType == 1 || v.pictureType == 2) then
    v.fwd == v.bwd && distinctIndices v.cur v.bwd v.temp
  else distinctIndices v.cur v.fwd v.bwd

/-! ### How a command ends (R1152) -/

/-- A response word from its fields (R1152): OUTPUT, NEED_DATA, ENDED, ERROR, and the frame index. -/
def responseWord (output needData ended error : Bool) (frame : Nat) : Word :=
  0#26 ++ BitVec.ofNat 2 frame ++ BitVec.ofBool error ++ BitVec.ofBool ended ++
    BitVec.ofBool needData ++ BitVec.ofBool output

/-- The block after a VDECODE that ends with the VDE in the state `v` (R1152, R1155). -/
def videoReturns (v : Video) (s : State) : State :=
  { s with
      v := { v with pos := .idle, raised := false, br.needData := false }
      response := some (responseWord v.outFrame.isSome v.br.needData v.br.ended v.raised
        (match v.outFrame with
         | some f => f.val
         | none => 0)) }

/-- The block after an ADECODE that ends with the ADE in the state `a` (R1152, R1156). -/
def audioReturns (a : Audio) (s : State) : State :=
  { s with
      a := { a with pos := .idle, raised := false, br.needData := false }
      response := some (responseWord a.outValid a.br.needData a.br.ended a.raised 0) }

/-! ### Inside a slice (R601-R612, R803) -/

/-- The engine is between a slice start code and the end of the slice. -/
def VideoPos.inSlice : VideoPos → Bool
  | .idle => false
  | .sequenceSearch => false
  | .sequenceHeader => false
  | .pictureSearch => false
  | .pictureHeader => false
  | .bodySearch => false
  | .sliceSearch => false
  | .sliceHeader => true
  | .addressIncrement => true
  | .macroblockType => true
  | .motion _ _ => true
  | .codedBlockPattern => true
  | .dcSize => true
  | .coefficient => true
  | .finished => false

/-- Both components lie in `-(16 << r_size) .. (16 << r_size) - 1` (R803). -/
def MotionState.inRange (m : MotionState) : Bool :=
  let bound : Int := 16 * 2 ^ m.rSize.toNat
  decide (-bound ≤ m.h) && decide (m.h < bound) && decide (-bound ≤ m.v) && decide (m.v < bound)

/-- Inside a slice both vectors are in range (R803). -/
def Video.vectorsInRange (v : Video) : Bool := !v.pos.inSlice || (v.mf.inRange && v.mb.inRange)

/-! ### Sample accesses inside their planes (R204, R206, R502, R605, R714) -/

/-- The sizes are those of an accepted sequence header (R502 step 5, R205): a picture of 1 to 256 macroblocks
each way, which a 12-bit width and height give. -/
def Video.sizesLegal (v : Video) : Bool :=
  let w := v.mbWidth.toNat
  let h := v.mbHeight.toNat
  decide (1 ≤ w) && decide (w ≤ 256) && decide (1 ≤ h) && decide (h ≤ 256) && v.mbSize.toNat == w * h &&
    v.lumaWidth.toNat == 16 * w && v.lumaHeight.toNat == 16 * h &&
    v.chromaWidth.toNat == 8 * w && v.chromaHeight.toNat == 8 * h

/-- The number of samples of a plane (R204, R205). -/
def Video.planeSize (v : Video) (p : Plane) : Nat := v.planeWidth p * v.planeHeight p

/-- Every written sample of a plane has an index below `n`. -/
def Memory.below (n : Nat) (m : Memory) : Bool := m.all fun e => decide (e.1 < n)

/-- Every written sample of a frame has an index below the size of its plane (R204). -/
def Frame.below (size : Plane → Nat) (f : Frame) : Bool :=
  Memory.below (size .y) f.y && Memory.below (size .cb) f.cb && Memory.below (size .cr) f.cr

/-- Every written sample lies in its plane (R204). -/
def Video.samplesInside (v : Video) : Bool :=
  v.fb0.below v.planeSize && v.fb1.below v.planeSize && v.fb2.below v.planeSize

/-- The engine has a macroblock address and a position, and works on that macroblock (R606-R611). -/
def VideoPos.inMacroblock : VideoPos → Bool
  | .idle => false
  | .sequenceSearch => false
  | .sequenceHeader => false
  | .pictureSearch => false
  | .pictureHeader => false
  | .bodySearch => false
  | .sliceSearch => false
  | .sliceHeader => false
  | .addressIncrement => false
  | .macroblockType => true
  | .motion _ _ => true
  | .codedBlockPattern => true
  | .dcSize => true
  | .coefficient => true
  | .finished => false

/-- The address lies in the picture (R605). -/
def Video.addressInPicture (v : Video) : Bool :=
  decide (0 ≤ v.macroblockAddress.toInt) && decide (v.macroblockAddress.toInt < v.mbSize.toNat)

/-- Inside a macroblock the address lies in the picture and the position is its row and column (R206); between
the macroblocks of a slice the address lies in the picture, and before the first it is -1 or more (R601). -/
def Video.macroblockInPicture (v : Video) : Bool :=
  if v.pos.inMacroblock then
    !v.sliceBegin && v.addressInPicture && decide (v.mbCol.toNat < v.mbWidth.toNat) &&
      decide ((v.mbRow.toNat * v.mbWidth.toNat + v.mbCol.toNat : Nat) = v.macroblockAddress.toInt)
  else if v.pos.inSlice then
    if v.sliceBegin then decide (-1 ≤ v.macroblockAddress.toInt) else v.addressInPicture
  else true

/-- The engine may stand here before the sequence header, and only there (R502, R510), or after it. -/
def VideoPos.legalWith (hasHeader : Bool) : VideoPos → Bool
  | .idle => true
  | .sequenceSearch => !hasHeader
  | .sequenceHeader => !hasHeader
  | .finished => true
  | _ => hasHeader

/-- Every sample written so far lies in its plane, and so does every sample the engine is going to write
(R204): the position it stands at is one that legal sizes and a macroblock of the picture give. -/
def Video.insidePlanes (v : Video) : Bool :=
  v.samplesInside && v.pos.legalWith v.hasSequenceHeader && (!v.hasSequenceHeader || v.sizesLegal) &&
    v.macroblockInPicture

/-! ### What the exact numbers of the audio engine stand for -/

/-- The real number a sum of products stands for: an entry `(3 * c + t, q)` is
`q * cos (c * pi / 64) * 2 ^ (t / 3)`. -/
noncomputable def surdValue (x : Surd) : ℝ :=
  (x.map fun e => (e.2 : ℝ) * Real.cos ((e.1 / 3 : Nat) * Real.pi / 64) *
    (2 : ℝ) ^ (((e.1 % 3 : Nat) : ℝ) / 3)).sum

/-- The real number an output sample stands for under a synthesis window `d` (R1102, R343). -/
noncomputable def windowValue (d : Nat → ℝ) (x : WindowSum) : ℝ :=
  (x.map fun e => d e.1 * surdValue e.2).sum

/-- Every key of a number is one of the 96 products. -/
def surdBounded (x : Surd) : Bool := x.all fun e => decide (e.1 < 96)

/-! ### Which engine an instruction acts on (R1150, R1163) -/

/-- The instructions that act on the ADE. -/
def actsOnAudio : Instr → Bool
  | .awrite _ => true
  | .asignalEnd => true
  | .adecode => true
  | .arewind => true
  | .csrWrite r _ => csrOfAudio r
  | .mp2Header _ => true
  | .mp2SyncOther _ => true
  | _ => false

/-- The host commands that only read. -/
def onlyReads : Instr → Bool
  | .vframeRead _ _ => true
  | .asamplesRead _ => true
  | .csrRead _ => true
  | _ => false

/-- The instructions that act on the VDE: its commands and every row of the video stream. -/
def actsOnVideo : Instr → Bool
  | .csrWrite r _ => csrOfVideo r
  | i => !actsOnAudio i && !onlyReads i

end Sys2Proof.Machine
end

