-- ==== Sys2Proof/Certificates/Slice0/Obligations.lean ====
section
/-! DEFINITION. The statements for the provers. Each names, in its docstring, the rules of spec/ it
formalises and the constructors of `Instr` it speaks of. A row of a VLC table is written as a row `r` of
the table of 30_encoding.md that lists it: `r.make sign` is its instruction, `r.len` its length in bits,
`r.value` what the walk returns for it (none for a reserved prefix). -/

open Sys2Proof Sys2Proof.Machine

/-! ### Encoding -/

/-- Words written out bit by bit from 30_encoding.md decode to the rows they stand for (R302, R318,
R320-R326, R1163). -/
def Obligations.WrittenWordsDecode : Prop :=
  decodeHost ⟨0x03, [], 0, 0⟩ = .ok .vdecode ∧
  decodeHost ⟨0x15, [], 7, 0⟩ = .ok (.asamplesRead 7) ∧
  decode .startCode (bitsOfNat 32 0x000001B3) = .ok (.sequenceHeaderStart, []) ∧
  decode .startCode (bitsOfNat 32 0x000001AF) = .ok (.sliceStart 0xAF, []) ∧
  decode .sliceHeader (bitsOfNat 15 0b010001111111110) = .ok (.sliceHeader ⟨8, [0xFF]⟩, []) ∧
  decode .mp2Header (bitsOfNat 32 0xFFFD84C0) =
    .ok (.mp2Header ⟨true, 8, 1, false, false, 3, 0, false, false, 0, none⟩, []) ∧
  decode .addressIncrement (bitsOfNat 5 0b00011) = .ok (.mba6, []) ∧
  decode .typeI (bitsOfNat 2 0b01) = .ok (.mbtI11, []) ∧
  decode .typeP (bitsOfNat 5 0b00010) = .ok (.mbtP1A, []) ∧
  decode .typeB (bitsOfNat 4 0b0010) = .ok (.mbtB08, []) ∧
  decode .codedBlockPattern (bitsOfNat 4 0b1101) = .ok (.cbp4, []) ∧
  decode .motionCode (bitsOfNat 5 0b00011) = .ok (.motion3 true, []) ∧
  decode .dcSizeY (bitsOfNat 4 0b1110) = .ok (.dcSizeY5, []) ∧
  decode .dcSizeC (bitsOfNat 5 0b11110) = .ok (.dcSizeC5, []) ∧
  decode .firstCoefficient (bitsOfNat 2 0b11) = .ok (.dctFirstR0L1 true, []) ∧
  decode .nextCoefficient (bitsOfNat 2 0b10) = .ok (.dctEob, []) ∧
  decode .nextCoefficient (bitsOfNat 4 0b0110) = .ok (.dctR1L1 false, []) ∧
  decode .nextCoefficient (bitsOfNat 28 0b0000010000111000000011111111) =
    .ok (.dctEscapeLongNeg 3 0xFF, []) ∧
  decode .nextCoefficient (bitsOfNat 12 0) = .ok (.dctReserved, [])

/-- Decode and encode agree, for every constructor and every operand its encoding admits. A host command
comes back from its code and operands; a row of a stream comes back from its bits at each syntax position
that selects it, whatever bits follow. The bare escape prefix is a row of its own only where too few bits
follow to complete it. -/
def Obligations.DecodeEncodeRoundTrip : Prop :=
  ∀ i : Instr, i.wellFormed = true →
    match encode i with
    | .command c => i.positions = [] ∧ decodeHost c = .ok i
    | .stream bits =>
      i.positions ≠ [] ∧
      ∀ p ∈ i.positions, ∀ rest : List Bool,
        (i ≠ .dctEscape ∨ rest.length < 14) → decode p (bits ++ rest) = .ok (i, rest)

/-- What the decoder answers at a syntax position is a row of that position with operands its encoding
admits, and it leaves a tail of the bits. -/
def Obligations.DecodedRowsAreWellFormed : Prop :=
  ∀ (p : SyntaxPosition) (bits rest : List Bool) (i : Instr),
    decode p bits = .ok (i, rest) → p ∈ i.positions ∧ i.wellFormed = true ∧ rest <:+ bits

/-- Every VLC table with its reserved prefixes is complete and unambiguous: exactly one row stands at the
front of any bits (R304, R326, R409). -/
def Obligations.VlcTablesAreComplete : Prop :=
  ∀ T ∈ [mbaTable, mbtITable, mbtPTable, mbtBTable, cbpTable, motionTable, dcYTable, dcCTable,
      dctFirstTable, dctNextTable],
    ∀ bits : List Bool, (T.filter (·.atFront bits)).length = 1

/-! ### A step runs the decoded instruction -/

/-- A step runs the decoded instruction. Inside a VDECODE, away from a start-code search, it runs the row
that the bits at the cursor decode to. Inside a start-code search it moves the cursor to the next start code
and runs its row, and those 32 bits decode to that row. Inside an ADECODE, where the syncword follows the
stuffing, it runs the header row there (R902), if the bits are stored that the row's rules read (R1162). With
both engines idle it runs the first host command of the queue; the others stay queued. A command whose code is not assigned changes no state, raises
no cause and returns nothing (R1163); with no command queued nothing changes (R1211). The model's choices, no
rule of the spec: a queue of host commands (log entry 3), a decode command run element by element (log entry
4), the response of an unassigned command gone with it (log entry 16), the VDE before the ADE where both are
inside a command (log entry 18), and a header that is cut short behind stuffing left for the next ADECODE (log
entry 27). -/
def Obligations.StepRunsTheDecodedInstruction : Prop :=
  (∀ (s : State) (p : SyntaxPosition) (i : Instr) (rest : List Bool),
     s.v.syntaxPosition = some p → p ≠ .startCode →
     decode p (s.v.br.upcoming (windowSize p s.v.br)) = .ok (i, rest) → step s = exec i s) ∧
  (∀ (s : State) (x : Byte) (br : BitReader),
     s.v.syntaxPosition = some .startCode → s.v.br.seekStartCode = (some x, br) →
     decode .startCode (br.upcoming 32) = .ok (startCodeInstr x, []) ∧
     step s = exec (startCodeInstr x) { s with v.br := br }) ∧
  (∀ (s : State) (i : Instr) (rest : List Bool),
     s.v.pos = .idle → s.a.pos = .header →
     let b := (s.a.br.skipBytes 0x00).2
     (b.read 11).1 = 0x7FF → decode .mp2Header (b.upcoming 48) = .ok (i, rest) →
     b.bitIndex + s.a.headerReads i ≤ 8 * b.bytes.length →
     step s = exec i { s with a.br := b }) ∧
  (∀ (s : State) (c : HostCommand) (rest : List HostCommand) (i : Instr),
     s.v.pos = .idle → s.a.pos = .idle → s.host = c :: rest → decodeHost c = .ok i →
     step s = exec i { s with host := rest }) ∧
  (∀ (s : State) (c : HostCommand) (rest : List HostCommand),
     s.v.pos = .idle → s.a.pos = .idle → s.host = c :: rest →
     c.code.toNat ∉ [0x01, 0x02, 0x03, 0x04, 0x05, 0x11, 0x12, 0x13, 0x14, 0x15, 0x20, 0x21] →
     step s = .next { s with host := rest, response := none }) ∧
  (∀ s : State, s.v.pos = .idle → s.a.pos = .idle → s.host = [] → step s = .next s)

/-- A VDECODE is the steps of its elements: it answers the state that single steps from its beginning
reach. -/
def Obligations.VdecodeIsItsSteps : Prop :=
  ∀ s : State, s.v.pos = .idle →
    ∃ (k : Nat) (t : State),
      exec .vdecode s = .next t ∧ t.v.pos = .idle ∧
      Host.Core.run Sys2Proof.core k (deliverVideo { s with v := s.v.beginDecode, response := none }) =
        .next t

/-! ### Bit reader -/

/-- `has` (R402), `peek_nonzero` (R404) and `read` (R403), with stream bit `k` as bit `7 - (k mod 8)` of byte
`k >> 3`. -/
def Obligations.HasPeekAndReadRules : Prop :=
  ((∀ (n : Nat) (b : BitReader), b.cursorInStore = true →
      b.has n =
        if n ≤ 8 * b.bytes.length - b.bitIndex then (true, b)
        else (false, { b with
          needData := true
          ended := b.ended || (b.totalSize != 0 && b.bytes.length == b.totalSize) })) ∧
   (∀ (n : Nat) (b : BitReader), b.cursorInStore = true → 1 ≤ n → n ≤ 32 →
      ((b.peekNonzero n).1 = true ↔
        b.bitIndex + n ≤ 8 * b.bytes.length ∧
          ∃ j < n, (b.bytes.getD ((b.bitIndex + j) / 8) 0).getLsbD (7 - (b.bitIndex + j) % 8) = true) ∧
      (b.peekNonzero n).2 = (b.has n).2 ∧ (b.peekNonzero n).2.bitIndex = b.bitIndex)) ∧
  (∀ (n : Nat) (b : BitReader), b.cursorInStore = true → n ≤ 32 →
     let bit := fun k : Nat => (b.bytes.getD (k / 8) 0).toNat / 2 ^ (7 - k % 8) % 2
     b.read n =
       if n = 0 then (0, b)
       else if b.bitIndex + n ≤ 8 * b.bytes.length then
         (((List.range n).map fun j => bit (b.bitIndex + j) * 2 ^ (n - 1 - j)).sum,
           { b with bitIndex := b.bitIndex + n })
       else
         (0, { b with
           underrun := true
           needData := true
           ended := b.ended || (b.totalSize != 0 && b.bytes.length == b.totalSize) }))

/-- `align` (R405), `skip` and `skip_bytes` (R406), and `find_frame_sync` (R412). -/
def Obligations.AlignSkipAndSyncRules : Prop :=
  (∀ b : BitReader, b.cursorInStore = true →
     b.align = { b with bitIndex := 8 * ((b.bitIndex + 7) / 8) } ∧
     (b.bitIndex % 8 = 0 → b.align = b) ∧
     (∀ n, 1 ≤ n → b.take n =
       if b.bitIndex + n ≤ 8 * b.bytes.length then { b with bitIndex := b.bitIndex + n }
       else { (b.has n).2 with underrun := true }) ∧
     ∀ v : Byte,
       let first := (b.bitIndex + 7) / 8
       let n := (b.skipBytes v).1
       first + n ≤ b.bytes.length ∧
       (∀ j < n, b.bytes.getD (first + j) 0 = v) ∧
       (first + n < b.bytes.length → b.bytes.getD (first + n) 0 ≠ v) ∧
       (b.skipBytes v).2 =
         if first + n < b.bytes.length then { b with bitIndex := 8 * (first + n) }
         else ({ b with bitIndex := 8 * (first + n) }.has 8).2) ∧
  (∀ b : BitReader, b.cursorInStore = true →
     let first := b.bitIndex / 8
     let at_ := fun i : Nat =>
       i + 1 < b.bytes.length ∧ b.bytes.getD i 0 = 0xFF ∧ b.bytes.getD (i + 1) 0 &&& 0xFE = 0xFC
     (∀ i, first ≤ i → at_ i → (∀ j, first ≤ j → j < i → ¬ at_ j) →
       b.findFrameSync = (true, { b with bitIndex := 8 * (i + 1) + 3 })) ∧
     ((∀ i, first ≤ i → ¬ at_ i) →
       b.findFrameSync =
         (false, if b.bytes = [] then b
           else { b with bitIndex := max b.bitIndex (8 * (b.bytes.length - 1)) })))

/-- `next_start_code` (R407): the first start code at or after the aligned cursor that has a fifth byte
behind it, else the stop position. `find_start_code` (R408) and `has_start_code` (R411). -/
def Obligations.StartCodeSearchRules : Prop :=
  (∀ b : BitReader, b.cursorInStore = true →
     let first := (b.bitIndex + 7) / 8
     let at_ := fun i : Nat =>
       i + 5 ≤ b.bytes.length ∧ b.bytes.getD i 0 = 0x00 ∧ b.bytes.getD (i + 1) 0 = 0x00 ∧
         b.bytes.getD (i + 2) 0 = 0x01
     (∀ i, first ≤ i → at_ i → (∀ j, first ≤ j → j < i → ¬ at_ j) →
       b.nextStartCode = (some (b.bytes.getD (i + 3) 0), { b with bitIndex := 8 * (i + 4) })) ∧
     ((∀ i, first ≤ i → ¬ at_ i) →
       b.nextStartCode =
         (none, ({ b with bitIndex := 8 * max first (b.bytes.length - 4) }.has 40).2))) ∧
  (∀ (c : Byte) (b : BitReader), b.cursorInStore = true →
     (b.findStartCode c =
       match b.nextStartCode with
       | (none, b') => (none, b')
       | (some x, b') => if x = c then (some x, b') else b'.findStartCode c) ∧
     (b.hasStartCode c).1 = (b.findStartCode c).1 ∧
     (b.hasStartCode c).2 =
       { b with needData := (b.findStartCode c).2.needData, ended := (b.findStartCode c).2.ended })

/-! ### Host commands -/

/-- VWRITE and AWRITE (R1153, R203). Both engines alike: `set` puts the reader back. A write that fits
before compaction is accepted; one that does not fit even after it changes nothing. -/
def Obligations.WriteRule : Prop :=
  ∀ (bytes : List Byte) (s : State),
    let kept := fun b : BitReader => if b.discardRead then b.bitIndex / 8 else 0
    let written := fun b : BitReader =>
      let d := kept b
      { b with
        bytes := b.bytes.drop d ++ bytes
        bitIndex := b.bitIndex - 8 * d
        totalSize := b.totalSize - d
        ended := false }
    let fits := fun b : BitReader => b.bytes.length + bytes.length ≤ Config.bitstoreCapacity
    let passes := fun b : BitReader =>
      Config.bitstoreCapacity < b.bytes.length - kept b + bytes.length
    let endKept := fun b : BitReader => b.totalSize = 0 ∨ kept b ≤ b.totalSize
    (s.v.pos = .idle →
      (fits s.v.br → endKept s.v.br →
        exec (.vwrite bytes) s = .next { s with v.br := written s.v.br, response := none }) ∧
      (passes s.v.br → exec (.vwrite bytes) s = .next { s with response := none })) ∧
    (s.a.pos = .idle →
      (fits s.a.br → endKept s.a.br →
        exec (.awrite bytes) s = .next { s with a.br := written s.a.br, response := none }) ∧
      (passes s.a.br → exec (.awrite bytes) s = .next { s with response := none }))

/-- VSIGNAL_END and ASIGNAL_END (R1154), VREWIND (R1302) and AREWIND (R1303). -/
def Obligations.SignalEndAndRewindRules : Prop :=
  (∀ s : State,
     (s.v.pos = .idle → exec .vsignalEnd s =
       .next { s with v.br := { s.v.br with totalSize := s.v.br.bytes.length }, response := none }) ∧
     (s.a.pos = .idle → exec .asignalEnd s =
       .next { s with a.br := { s.a.br with totalSize := s.a.br.bytes.length }, response := none })) ∧
  ((∀ s : State, s.v.pos = .idle →
      exec .vrewind s = .next { s with
        v := { s.v with
          br := if s.v.br.discardRead then
              { s.v.br with bytes := [], bitIndex := 0, totalSize := 0, ended := false }
            else { s.v.br with bitIndex := 0, ended := false }
          time := 0
          framesDecoded := 0
          hasReferenceFrame := false
          startCode := none
          outFrame := none
          pictureType := 0
          cur := 0
          fwd := 1
          bwd := 2 }
        response := none }) ∧
   (∀ s : State, s.a.pos = .idle →
      exec .arewind s = .next { s with
        a := { s.a with
          br := if s.a.br.discardRead then
              { s.a.br with bytes := [], bitIndex := 0, totalSize := 0, ended := false }
            else { s.a.br with bitIndex := 0, ended := false }
          time := 0
          samplesTime := 0
          samplesDecoded := 0
          nextFrameDataSize := 0
          outValid := false
          delay := List.replicate 2048 []
          vPos := 0 }
        response := none }))

/-- VFRAME_READ (R1157), for the planes 0 Y, 1 Cb and 2 Cr. -/
def Obligations.VframeReadRule : Prop :=
  ∀ (p : Nat) (plane : Plane) (i : Nat) (s : State),
    (p, plane) ∈ [(0, Plane.y), (1, Plane.cb), (2, Plane.cr)] → s.v.pos = .idle →
    let size := match plane with
      | .y => s.v.lumaWidth.toNat * s.v.lumaHeight.toNat
      | _ => s.v.chromaWidth.toNat * s.v.chromaHeight.toNat
    (∀ f, s.v.outFrame = some f → i < size →
      exec (.vframeRead p i) s =
        .next { s with response := some (BitVec.ofNat 32 (s.v.planeRead f plane i).toNat) }) ∧
    ((s.v.outFrame = none ∨ size ≤ i) →
      exec (.vframeRead p i) s = .next { s with response := some 0 })

/-- ASAMPLES_READ (R1158): the layout of every format and its elements (R1105). `x` is the exact number of
an output sample: SYNTH_WINDOW applied to it, in real arithmetic, with round_out the identity (log entry
7, DESIGN CHOICE). What is rounded is the rational number `surdRational` that stands for it (log entry 26,
DEDUCED; how near it lies is SampleNumbersAreExact); `float32` is the model's binary32 rounding (log entry
25, DEDUCED; Float32IsNearest says that it is the nearest one). -/
def Obligations.AsamplesReadRule : Prop :=
  ∀ (n : Nat) (s : State), s.a.pos = .idle →
    ((s.a.outValid = false ∨ 2304 ≤ n) →
      exec (.asamplesRead n) s = .next { s with response := some 0 }) ∧
    (s.a.outValid = true → n < 2304 →
      let ch := if s.a.format = 1 then n / 1152 else n % 2
      let m := if s.a.format = 1 then n % 1152 else n / 2
      let x := sampleNumber (s.a.out.getD (1152 * ch + m) [])
      let y := min 1 (max (-1) (surdRational x))
      let word : Word :=
        if s.a.format = 3 then
          BitVec.ofInt 32 (if y < 0 then ⌈y * 32768⌉ else ⌊y * 32767⌋)
        else if s.a.format = 2 then float32 (surdRational (scaleSurd 2147418112 x))
        else float32 (surdRational x)
      exec (.asamplesRead n) s = .next { s with response := some word })

/-- `f32` (R1105): the nearest binary32 value, ties to even. `value` is the number a pattern stands for. A
number that rounds beyond the largest finite value gives an infinity, and 0 gives +0 (log entry 25,
DEDUCED). -/
def Obligations.Float32IsNearest : Prop :=
  ∀ x : Rat,
    let exponent := fun w : Word => w.toNat / 2 ^ 23 % 256
    let value := fun w : Word =>
      let m : Rat := (w.toNat % 2 ^ 23 : Nat)
      let size : Rat :=
        if exponent w = 0 then m / 2 ^ 149 else (2 ^ 23 + m) * 2 ^ exponent w / 2 ^ 150
      if w.msb then -size else size
    let y := float32 x
    (x = 0 → y = 0) ∧ y.msb = decide (x < 0) ∧
    (|x| < 2 ^ 128 - 2 ^ 103 →
      exponent y ≠ 255 ∧
      ∀ w : Word, exponent w ≠ 255 →
        |x - value y| ≤ |x - value w| ∧
        (|x - value y| = |x - value w| → value w = value y ∨ y.toNat % 2 = 0)) ∧
    (2 ^ 128 - 2 ^ 103 ≤ |x| → y = if x < 0 then 0xFF800000 else 0x7F800000)

/-- CSR_READ and CSR_WRITE (R1159) over the register map of R118, every field at its place. That VSIZE, VSEQ
and VMB read 0 before the first accepted sequence header, and VPICT bits 5:4 without a valid frame, is the
model's reading of R118 and R1301 (log entry 19, DEDUCED). -/
def Obligations.CsrRules : Prop :=
  ∀ s : State, s.v.pos = .idle → s.a.pos = .idle →
    let known := fun w : Word => if s.v.hasSequenceHeader then w else 0
    let frame : BitVec 2 := match s.v.outFrame with
      | some f => BitVec.ofNat 2 f.val
      | none => 0
    let map : List (Nat × Word) := [
      (0x00, 0#30 ++ BitVec.ofBool s.v.br.discardRead ++ BitVec.ofBool s.v.noDelay),
      (0x01, 0#27 ++ BitVec.ofBool s.v.br.underrun ++ BitVec.ofBool s.v.outFrame.isSome ++
        BitVec.ofBool s.v.hasReferenceFrame ++ BitVec.ofBool s.v.br.ended ++
        BitVec.ofBool s.v.hasSequenceHeader),
      (0x02, 0#22 ++ s.v.verr),
      (0x03, known (0#4 ++ s.v.height ++ 0#4 ++ s.v.width)),
      (0x04, known (0#6 ++ s.v.bitRate ++ s.v.pictureRateIndex ++ s.v.aspectRatioIndex)),
      (0x05, known (0#7 ++ s.v.mbHeight ++ 0#7 ++ s.v.mbWidth)),
      (0x06, BitVec.ofNat 32 s.v.framesDecoded),
      (0x07, 0#26 ++ frame ++ 0#1 ++ s.v.pictureType),
      (0x08, s.v.verrcnt),
      (0x10, 0#29 ++ BitVec.ofBool s.a.br.discardRead ++ s.a.format),
      (0x11, 0#28 ++ BitVec.ofBool s.a.br.underrun ++ BitVec.ofBool s.a.outValid ++
        BitVec.ofBool s.a.br.ended ++ BitVec.ofBool s.a.hasHeader),
      (0x12, 0#25 ++ s.a.aerr),
      (0x13, 0#12 ++ s.a.channels ++ BitVec.ofBool s.a.padding ++ BitVec.ofBool s.a.hasCrc ++
        s.a.bound ++ s.a.modeExtension ++ s.a.mode ++ s.a.samplerateIndex ++ s.a.bitrateIndex),
      (0x14, BitVec.ofNat 32 s.a.samplesDecoded),
      (0x15, s.a.aerrcnt)]
    (∀ e ∈ map, exec (.csrRead e.1) s = .next { s with response := some e.2 }) ∧
    (∀ r, r ∉ map.map (·.1) → exec (.csrRead r) s = .next { s with response := some 0 }) ∧
    ∀ x : Word,
      exec (.csrWrite 0x00 x) s = .next { s with
        v := { s.v with noDelay := x.getLsbD 0, br.discardRead := x.getLsbD 1 }, response := none } ∧
      exec (.csrWrite 0x01 x) s = .next { s with
        v.br.underrun := s.v.br.underrun && !x.getLsbD 4, response := none } ∧
      exec (.csrWrite 0x02 x) s = .next { s with
        v.verr := s.v.verr &&& ~~~(x.extractLsb' 0 10), response := none } ∧
      exec (.csrWrite 0x08 x) s = .next { s with v.verrcnt := 0, response := none } ∧
      exec (.csrWrite 0x10 x) s = .next { s with
        a := { s.a with format := x.extractLsb' 0 2, br.discardRead := x.getLsbD 2 }
        response := none } ∧
      exec (.csrWrite 0x11 x) s = .next { s with
        a.br.underrun := s.a.br.underrun && !x.getLsbD 3, response := none } ∧
      exec (.csrWrite 0x12 x) s = .next { s with
        a.aerr := s.a.aerr &&& ~~~(x.extractLsb' 0 7), response := none } ∧
      exec (.csrWrite 0x15 x) s = .next { s with a.aerrcnt := 0, response := none } ∧
      ∀ r, r ∉ [0x00, 0x01, 0x02, 0x08, 0x10, 0x11, 0x12, 0x15] →
        exec (.csrWrite r x) s = .next { s with response := none }

/-- VDECODE ends, whatever the store holds (R501, R1155, R1152): the engine is idle, at most one frame is
emitted, and the response word says which. -/
def Obligations.VdecodeEnds : Prop :=
  ∀ s : State, s.v.pos = .idle →
    ∃ t, exec .vdecode s = .next t ∧ t.v.pos = .idle ∧ t.a = s.a ∧ t.host = s.host ∧
      t.v.br.bytes = s.v.br.bytes ∧ s.v.br.bitIndex ≤ t.v.br.bitIndex ∧
      t.v.framesDecoded = s.v.framesDecoded + t.v.outFrame.isSome.toNat ∧
      ∃ needData error : Bool,
        t.response = some (responseWord t.v.outFrame.isSome needData t.v.br.ended error
          (match t.v.outFrame with
           | some f => f.val
           | none => 0))

/-- ADECODE ends (R901, R1156, R1152): with output the clocks and the delay line have moved by one frame,
without output neither has moved. -/
def Obligations.AdecodeEnds : Prop :=
  ∀ s : State, s.a.pos = .idle →
    ∃ t, exec .adecode s = .next t ∧ t.a.pos = .idle ∧ t.v = s.v ∧ t.host = s.host ∧
      t.a.br.bytes = s.a.br.bytes ∧
      (∃ needData error : Bool,
        t.response = some (responseWord t.a.outValid needData t.a.br.ended error 0)) ∧
      (t.a.outValid = true →
        t.a.samplesTime = s.a.time ∧ t.a.samplesDecoded = s.a.samplesDecoded + 1152 ∧
        t.a.time = (t.a.samplesDecoded : Rat) / sampleRate t.a.samplerateIndex ∧
        t.a.nextFrameDataSize = 0 ∧ t.a.vPos = s.a.vPos - 256) ∧
      (t.a.outValid = false →
        t.a.samplesTime = s.a.samplesTime ∧ t.a.samplesDecoded = s.a.samplesDecoded ∧
        t.a.time = s.a.time ∧ t.a.out = s.a.out ∧ t.a.delay = s.a.delay ∧ t.a.vPos = s.a.vPos)

/-- ADECODE by its paths (R901, R902, R903, R1162). With a header pending, only the body is waited for: it is
decoded and its samples are returned, or nothing is and the header stays pending. With none, 48 bits are waited
for; then a syncword behind the stuffing is looked at, and its header is run (R902); bits that are no syncword
raise AudioResync and the search goes on behind them: nothing found ends the command, and a header found is run
where 48 bits from its syncword are stored (R903). `reads` is how many bits of a header R902 and R904 to R907
read, up to the check that rejects it or to its end. Whatever the state, the header row that is fetched stands at
a syncword with those bits stored: no header is parsed on the 0 of an under-run. That one behind stuffing which
is cut short ends the command with the cursor on its first byte is the model's choice where R902 and R1162
differ (log entry 27). An ADECODE that waits, for 48 bits, for those of a header behind stuffing or for a body, is
as if it had not been issued: the same bytes written and decoded after it and without it end in the same state
(with compaction off, which moves the byte offsets, R119; and for a header behind stuffing with bytes that
bring it to the 48 bits R901 then waits for). -/
def Obligations.AdecodePaths : Prop :=
  let reads := fun (a : Audio) (i : Instr) =>
    match i with
    | .mp2Header h =>
      if h.bitrateIndex = 0 ∨ h.bitrateIndex = 15 then 11 + 2 + 2 + 1 + 4
      else if h.samplingFrequency = 3 then 11 + 2 + 2 + 1 + 4 + 2
      else if a.hasHeader = true ∧ (h.bitrateIndex ≠ a.bitrateIndex ∨
          h.samplingFrequency ≠ a.samplerateIndex ∨ h.mode ≠ a.mode) then 11 + 2 + 2 + 1 + 4 + 2 + 1 + 1 + 2
      else if h.protection then 32 else 32 + 16
    | _ => 11 + 2 + 2 + 1
  (∀ (a b : Audio) (i : Instr), fetchAudio a = .row i b →
    natOfBits (b.br.upcoming 11) = 0x7FF ∧ b.br.bytes = a.br.bytes ∧
      b.br.bitIndex + reads b i ≤ 8 * b.br.bytes.length) ∧
  (∀ (s : State) (bytes : List Byte), s.a.pos = .idle → s.a.br.discardRead = false →
    let b := (s.a.br.skipBytes 0x00).2
    let size := 8 * s.a.nextFrameDataSize.toNat
    ((s.a.nextFrameDataSize ≠ 0 ∧ 8 * s.a.br.bytes.length < s.a.br.bitIndex + size) ∨
      (s.a.nextFrameDataSize = 0 ∧
        (8 * s.a.br.bytes.length < s.a.br.bitIndex + 48 ∨
          ((b.read 11).1 = 0x7FF ∧ b.bitIndex + 48 ≤ 8 * (b.bytes.length + bytes.length) ∧
            ∃ i rest, decode .mp2Header (b.upcoming 48) = .ok (i, rest) ∧
              8 * b.bytes.length < b.bitIndex + reads s.a i)))) →
    ∃ t u y z : State,
      exec .adecode s = .next t ∧ exec (.awrite bytes) t = .next u ∧ exec .adecode u = .next z ∧
      exec (.awrite bytes) s = .next y ∧ exec .adecode y = .next z) ∧
  ∀ s : State, s.a.pos = .idle →
    let a : Audio := { s.a with outValid := false, raised := false, br.needData := false }
    let size := 8 * s.a.nextFrameDataSize.toNat
    let runs := fun a : Audio =>
      ∃ i rest, decode .mp2Header (a.br.upcoming 48) = .ok (i, rest) ∧
        exec .adecode s = exec i { s with a := { a with pos := .header }, response := none }
    (s.a.nextFrameDataSize ≠ 0 →
      (a.br.bitIndex + size ≤ 8 * a.br.bytes.length →
        let d := a.decodeFrame
        exec .adecode s = .next (audioReturns { d with
          nextFrameDataSize := 0
          samplesTime := s.a.time
          samplesDecoded := s.a.samplesDecoded + 1152
          time := ((s.a.samplesDecoded + 1152 : Nat) : Rat) / sampleRate s.a.samplerateIndex
          outValid := true } s)) ∧
      (8 * a.br.bytes.length < a.br.bitIndex + size →
        exec .adecode s = .next (audioReturns { a with br := (a.br.has size).2 } s))) ∧
    (s.a.nextFrameDataSize = 0 →
      (8 * a.br.bytes.length < a.br.bitIndex + 48 →
        exec .adecode s = .next (audioReturns { a with br := (a.br.has 48).2 } s)) ∧
      (a.br.bitIndex + 48 ≤ 8 * a.br.bytes.length →
        let b := (a.br.skipBytes 0x00).2
        ((b.read 11).1 = 0x7FF →
          ∃ i rest, decode .mp2Header (b.upcoming 48) = .ok (i, rest) ∧
            (b.bitIndex + reads a i ≤ 8 * b.bytes.length →
              exec .adecode s = exec i { s with a := { a with br := b, pos := .header }, response := none }) ∧
            (8 * b.bytes.length < b.bitIndex + reads a i →
              exec .adecode s = .next (audioReturns { a with br := (b.has (reads a i)).2 } s))) ∧
        ((b.read 11).1 ≠ 0x7FF →
          let c := b.take 11
          let (found, d) := c.findFrameSync
          let r := a.raise .resync
          (found = false → exec .adecode s = .next (audioReturns { r with br := d } s)) ∧
          (found = true → 8 * d.bytes.length < d.bitIndex + 37 →
            exec .adecode s = .next (audioReturns
              { r with br := { (d.has 37).2 with bitIndex := d.bitIndex - 11 } } s)) ∧
          (found = true → d.bitIndex + 37 ≤ 8 * d.bytes.length →
            runs { r with br := { d with bitIndex := d.bitIndex - 11 } }))))

/-- A command on an engine that is inside another command stops with the model's own fault (R213 gives it
no transition). -/
def Obligations.OverlappingCommandsFault : Prop :=
  ∀ s : State,
    (s.v.pos ≠ .idle → ∀ i : Instr,
      i ∈ [.vsignalEnd, .vdecode, .vrewind] ∨ (∃ b, i = .vwrite b) ∨ (∃ p n, i = .vframeRead p n) ∨
        (∃ r, r ≤ 0x08 ∧ (i = .csrRead r ∨ ∃ x, i = .csrWrite r x)) →
      exec i s = .fault .commandOverlap) ∧
    (s.a.pos ≠ .idle → ∀ i : Instr,
      i ∈ [.asignalEnd, .adecode, .arewind] ∨ (∃ b, i = .awrite b) ∨ (∃ n, i = .asamplesRead n) ∨
        (∃ r, 0x10 ≤ r ∧ r ≤ 0x15 ∧ (i = .csrRead r ∨ ∃ x, i = .csrWrite r x)) →
      exec i s = .fault .commandOverlap)

/-! ### The machine as a whole -/

/-- The block never stops (R1200): every step from every state answers a next state. -/
def Obligations.TheBlockNeverStops : Prop := ∀ s : State, ∃ t, step s = .next t

/-- Every step keeps a legal state legal: cursors inside their stores (R116), register files of their
sizes, plane memory canonical, the delay-line offset a multiple of 64 (R113), one or two channels (R111),
and no command-local flag outside a command (R1301). -/
def Obligations.StepKeepsWellFormed : Prop :=
  ∀ s t : State, s.wf = true → step s = .next t → t.wf = true

/-- Every step keeps the frame indices legal: pairwise distinct (R109), also through the rotation of R505
and R506. Every step keeps both motion vectors in range inside a slice (R803). -/
def Obligations.StepKeepsFrameIndicesAndVectors : Prop :=
  (∀ s t : State, s.v.indicesLegal = true → step s = .next t → t.v.indicesLegal = true) ∧
  (∀ s t : State, s.v.vectorsInRange = true → step s = .next t → t.v.vectorsInRange = true)

/-- No sample access lies outside its plane (R204). `insidePlanes` says that every sample written so far lies in
its plane (R205), that the picture has the sizes of an accepted sequence header (R502), and that the macroblock
the engine works on is one of the picture, at its row and its column (R206, R605); every step keeps it, so no
block (R714) and no prediction (R805) is written outside, not behind any row of increments either. And where
the range check of R807 passes, in whatever state, every sample the prediction reads lies in the plane. That an
address beyond the address register is one beyond the picture is the model's inference from this rule (log entry
29). -/
def Obligations.StepKeepsSamplesInPlanes : Prop :=
  (∀ s t : State, s.v.insidePlanes = true → step s = .next t → t.v.insidePlanes = true) ∧
  (∀ (v : Video) (p : Plane) (mh mv : Int) (size : Nat), v.predictionInRange p mh mv size = true →
     let x0 : Int := v.mbCol.toNat * size + ⌊(mh : Rat) / 2⌋
     let y0 : Int := v.mbRow.toNat * size + ⌊(mv : Rat) / 2⌋
     ∀ x y : Nat, x < size + (mh % 2).toNat → y < size + (mv % 2).toNat →
       0 ≤ x0 + x ∧ 0 ≤ y0 + y ∧
         ((y0 + y) * v.planeWidth p + (x0 + x)).toNat < v.planeWidth p * v.planeHeight p)

/-- The reset state is legal. -/
def Obligations.ResetIsLegal : Prop :=
  State.reset.wf = true ∧ State.reset.v.indicesLegal = true ∧ State.reset.v.vectorsInRange = true ∧
    State.reset.v.insidePlanes = true

/-- The values of R1301 that the rule states; a plane sample is a free value, and the sequence registers
read 0 through their CSRs. -/
def Obligations.ResetValues : Prop :=
  let v := State.reset.v
  let a := State.reset.a
  let emptyReader := fun b : BitReader =>
    b.bytes = [] ∧ b.bitIndex = 0 ∧ b.ended = false ∧ b.totalSize = 0 ∧ b.underrun = false ∧
      b.discardRead = true ∧ b.needData = false
  let restMotion := fun m : MotionState =>
    m.fullPx = false ∧ m.rSize = 0 ∧ m.h = 0 ∧ m.v = 0 ∧ m.isSet = false
  emptyReader v.br ∧ emptyReader a.br ∧ restMotion v.mf ∧ restMotion v.mb ∧
  v.hasSequenceHeader = false ∧ v.startCode = none ∧ v.pictureType = 0 ∧ v.quantizerScale = 0 ∧
  v.sliceBegin = false ∧ v.mbRow = 0 ∧ v.mbCol = 0 ∧ v.macroblockType = 0 ∧
  v.macroblockIntra = false ∧ v.cbp = 0 ∧ v.macroblockAddress.toInt = -1 ∧
  v.dcPredictor = [128, 128, 128] ∧ v.blockData = List.replicate 64 0 ∧
  (v.cur = 0 ∧ v.fwd = 1 ∧ v.bwd = 2) ∧ v.hasReferenceFrame = false ∧ v.noDelay = false ∧
  v.framesDecoded = 0 ∧ v.time = 0 ∧ v.outFrame = none ∧ v.verr = 0 ∧ v.verrcnt = 0 ∧
  v.raised = false ∧
  a.hasHeader = false ∧ a.version = 0 ∧ a.layer = 0 ∧ a.hasCrc = false ∧ a.bitrateIndex = 0 ∧
  a.samplerateIndex = 0 ∧ a.padding = false ∧ a.mode = 0 ∧ a.modeExtension = 0 ∧ a.bound = 0 ∧
  a.nextFrameDataSize = 0 ∧ a.channels = 2 ∧ a.allocation = List.replicate 64 none ∧
  a.scfsi = List.replicate 64 0 ∧ a.scalefactor = List.replicate 192 0 ∧
  a.sample = List.replicate 192 [] ∧ a.delay = List.replicate 2048 [] ∧ a.vPos = 0 ∧
  a.out = List.replicate 2304 [] ∧ a.samplesDecoded = 0 ∧ a.time = 0 ∧ a.samplesTime = 0 ∧
  a.outValid = false ∧ a.format = 0 ∧ a.aerr = 0 ∧ a.aerrcnt = 0 ∧ a.raised = false ∧
  (∀ f p i, v.planeRead f p i = Config.unwrittenSample f.val p.number i) ∧
  ∀ r ∈ [0x03, 0x04, 0x05], exec (.csrRead r) State.reset = .next { State.reset with response := some 0 }

/-- The engines share no state (R1150, R1212). An instruction of one leaves the other as it is, and a host
read changes neither (R209). And it does not depend on the other: in two blocks with the same engine it
acts on, whatever the other engine holds, it leaves that engine the same and returns the same. -/
def Obligations.EnginesAreIndependent : Prop :=
  ∀ (i : Instr) (s t : State), exec i s = .next t →
    (actsOnVideo i = true → t.a = s.a) ∧ (actsOnAudio i = true → t.v = s.v) ∧
    (onlyReads i = true → t.v = s.v ∧ t.a = s.a) ∧
    (∀ u : State, u.v = s.v → u.response = s.response →
      (actsOnVideo i = true ∨ (∃ p n, i = .vframeRead p n) ∨ ∃ r ≤ 0x08, i = .csrRead r) →
      ∃ w, exec i u = .next w ∧ w.v = t.v ∧ w.a = u.a ∧ w.response = t.response) ∧
    (∀ u : State, u.a = s.a → u.response = s.response →
      (actsOnAudio i = true ∨ (∃ n, i = .asamplesRead n) ∨ ∃ r, 0x10 ≤ r ∧ r ≤ 0x15 ∧ i = .csrRead r) →
      ∃ w, exec i u = .next w ∧ w.a = t.a ∧ w.v = u.v ∧ w.response = t.response)

/-- The engines never write their bit stores (R201, R215): only a host write and a rewind change the
bytes. -/
def Obligations.BitStoresKeepTheirBytes : Prop :=
  ∀ (i : Instr) (s t : State), exec i s = .next t →
    ((∀ b, i ≠ .vwrite b) → i ≠ .vrewind → t.v.br.bytes = s.v.br.bytes) ∧
    ((∀ b, i ≠ .awrite b) → i ≠ .arewind → t.a.br.bytes = s.a.br.bytes)

/-- Error bits are sticky and error counters do not fall, but for the host's writes (R1201, R1209); a
sequence header and an audio header once accepted stay so (R117). -/
def Obligations.WhatNoInstructionClears : Prop :=
  ∀ (i : Instr) (s t : State), exec i s = .next t →
    ((∀ x, i ≠ .csrWrite 0x02 x) → s.v.verr &&& t.v.verr = s.v.verr) ∧
    ((∀ x, i ≠ .csrWrite 0x12 x) → s.a.aerr &&& t.a.aerr = s.a.aerr) ∧
    ((∀ x, i ≠ .csrWrite 0x08 x) → s.v.verrcnt.toNat ≤ t.v.verrcnt.toNat) ∧
    ((∀ x, i ≠ .csrWrite 0x15 x) → s.a.aerrcnt.toNat ≤ t.a.aerrcnt.toNat) ∧
    (s.v.hasSequenceHeader = true → t.v.hasSequenceHeader = true) ∧
    (s.a.hasHeader = true → t.a.hasHeader = true)

/-- Raising a cause (R1201), with the codes of R1202 and R1203: the cause's bit, the counter, the
command's flag, and nothing else. -/
def Obligations.RaiseRule : Prop :=
  (∀ e ∈ [(VideoCause.seqHeaderInvalid, 0x10), (.pictureTypeUnsupported, 0x11), (.fCodeZero, 0x12),
      (.vlcInvalid, 0x13), (.mbAddressRange, 0x14), (.coefPositionRange, 0x15), (.mcOutOfFrame, 0x16),
      (.noDelayBPicture, 0x17)],
    ∀ v : Video, v.raise e.1 = { v with
      verr := v.verr ||| BitVec.twoPow 10 (e.2 - 0x10)
      verrcnt := if v.verrcnt.toNat = 2 ^ 32 - 1 then v.verrcnt else v.verrcnt + 1
      raised := true }) ∧
  ∀ e ∈ [(AudioCause.resync, 0x20), (.versionLayer, 0x21), (.bitrate, 0x22), (.samplerate, 0x23),
      (.headerChange, 0x24), (.scalefactor63, 0x25), (.groupedCodeRange, 0x26)],
    ∀ a : Audio, a.raise e.1 = { a with
      aerr := a.aerr ||| BitVec.twoPow 7 (e.2 - 0x20)
      aerrcnt := if a.aerrcnt.toNat = 2 ^ 32 - 1 then a.aerrcnt else a.aerrcnt + 1
      raised := true }

/-! ### Start codes -/

/-- The two searches of R408 pass over every start code but their own (R510), and the scan after a picture
header passes over 0xB2 and 0xB5 (R504). Every constructor of the start codes: `startCodeInstr x` is the
row of the value `x`. `sliceStart`: a start code 0x01..0xAF after a picture header or a slice begins a
slice (R504, R601). -/
def Obligations.StartCodesPassedOverAndSlices : Prop :=
  (∀ (x : Byte) (s : State),
     (((s.v.pos = .sequenceSearch ∧ x ≠ 0xB3) ∨ (s.v.pos = .pictureSearch ∧ x ≠ 0x00)) →
       exec (startCodeInstr x) s = .next { s with v.br := s.v.br.take 32 }) ∧
     (s.v.pos = .bodySearch → (x = 0xB2 ∨ x = 0xB5) →
       exec (startCodeInstr x) s =
         .next { s with v := { s.v with br := s.v.br.take 32, startCode := some x } })) ∧
  (∀ (x : Byte) (s : State), 1 ≤ x.toNat → x.toNat ≤ 0xAF →
     (s.v.pos = .bodySearch ∨ s.v.pos = .sliceSearch) →
     exec (.sliceStart x) s = .next { s with
       v := { s.v with
         br := s.v.br.take 32
         startCode := some x
         sliceBegin := true
         macroblockAddress := BitVec.ofInt 32 (((x.toNat : Int) - 1) * s.v.mbWidth.toNat - 1)
         mf := { s.v.mf with h := 0, v := 0 }
         mb := { s.v.mb with h := 0, v := 0 }
         dcPredictor := [128, 128, 128]
         pos := .sliceHeader } })

/-- `pictureStart` at its search (R501 steps 3a and 3b): the picture is decoded if the next picture start
code is stored or the end is known, else VDECODE returns NONE. `sequenceHeaderStart` at its search (R502
step 1): the header is read if 1088 bits are stored or the end is known, else VDECODE returns NONE. -/
def Obligations.SearchedStartCodes : Prop :=
  (∀ s : State, s.v.pos = .pictureSearch →
     let v : Video := { s.v with br := s.v.br.take 32, startCode := some 0x00 }
     let (next, br) := v.br.hasStartCode 0x00
     (next ≠ none ∨ br.ended = true →
       exec .pictureStart s = .next { s with v := { v with br := br, pos := .pictureHeader } }) ∧
     (next = none → br.ended = false →
       exec .pictureStart s = .next (videoReturns { v with br := br } s))) ∧
  (∀ s : State, s.v.pos = .sequenceSearch →
     let v : Video := { s.v with br := s.v.br.take 32, startCode := some 0xB3 }
     let (stored, br) := v.br.has 1088
     (stored = true ∨ br.ended = true →
       exec .sequenceHeaderStart s =
         .next { s with v := { v with br := br, pos := .sequenceHeader } }) ∧
     (stored = false → br.ended = false →
       exec .sequenceHeaderStart s = .next (videoReturns { v with br := br } s)))

/-- A start code that is no slice ends the picture, whichever constructor it is: post-rotation (R506),
output selection (R507) and emission (R508), or the search for the next picture. -/
def Obligations.OtherStartCodesEndThePicture : Prop :=
  ∀ (x : Byte) (s : State),
    (x = 0x00 ∨ 0xAF < x.toNat) →
    (s.v.pos = .sliceSearch ∨ (s.v.pos = .bodySearch ∧ x ≠ 0xB2 ∧ x ≠ 0xB5)) →
    let reference := s.v.pictureType = 1 ∨ s.v.pictureType = 2
    let v : Video := { s.v with
      br := s.v.br.take 32
      startCode := some x
      bwd := if reference then s.v.cur else s.v.bwd
      cur := if reference then s.v.temp else s.v.cur }
    let emitted := fun (out : Fin 3) (v : Video) =>
      videoReturns
        { v.setFrame out { v.frame out with time := v.time } with
          framesDecoded := v.framesDecoded + 1
          time := ((v.framesDecoded + 1 : Nat) : Rat) / v.framerate
          outFrame := some out } s
    exec (startCodeInstr x) s = .next (
      if v.noDelay then
        emitted v.bwd (if v.pictureType = 3 then v.raise .noDelayBPicture else v)
      else if v.pictureType = 3 then emitted v.cur v
      else if v.hasReferenceFrame then emitted v.fwd v
      else
        let v := { v with hasReferenceFrame := true }
        if x = 0x00 then
          let (next, br) := v.br.hasStartCode 0x00
          if next = none ∧ br.ended = false then videoReturns { v with br := br } s
          else { s with v := { v with br := br, pos := .pictureHeader } }
        else { s with v := { v with pos := .pictureSearch } })

/-- A start-code search that finds nothing. The search for a sequence header ends VDECODE with NONE (R502);
the search for a picture does too, but for the one case in which the held-back reference is emitted: a
reference frame, no `no_delay`, and a known end (R501 step 3a). Behind a picture header or a slice the start
code becomes -1 and the picture ends (R504, R506, R507). -/
def Obligations.FailedSearches : Prop :=
  ∀ (s : State) (br : BitReader),
    s.v.syntaxPosition = some .startCode → s.v.br.seekStartCode = (none, br) →
    let v : Video := { s.v with br := br, startCode := none }
    let emitted := fun (out : Fin 3) (v : Video) =>
      videoReturns
        { v.setFrame out { v.frame out with time := v.time } with
          framesDecoded := v.framesDecoded + 1
          time := ((v.framesDecoded + 1 : Nat) : Rat) / v.framerate
          outFrame := some out } s
    (s.v.pos = .sequenceSearch → step s = .next (videoReturns v s)) ∧
    (s.v.pos = .pictureSearch →
      (v.hasReferenceFrame = true → v.noDelay = false → br.ended = true →
        step s = .next (emitted v.bwd { v with hasReferenceFrame := false })) ∧
      ((v.hasReferenceFrame = false ∨ v.noDelay = true ∨ br.ended = false) →
        step s = .next (videoReturns v s))) ∧
    ((s.v.pos = .bodySearch ∨ s.v.pos = .sliceSearch) →
      let reference := s.v.pictureType = 1 ∨ s.v.pictureType = 2
      let v : Video := { v with
        bwd := if reference then s.v.cur else s.v.bwd
        cur := if reference then s.v.temp else s.v.cur }
      step s = .next (
        if v.noDelay then
          emitted v.bwd (if v.pictureType = 3 then v.raise .noDelayBPicture else v)
        else if v.pictureType = 3 then emitted v.cur v
        else if v.hasReferenceFrame then emitted v.fwd v
        else { s with v := { v with hasReferenceFrame := true, pos := .pictureSearch } }))

/-! ### Headers -/

/-- `sequenceHeader` accepted (R502 steps 2 to 5): the sequence registers, the sizes, the matrices in
natural order, unwritten planes, and the search for a picture. The pel aspect code is stored raw; a reserved
one, which has no ratio, is accepted (R331). -/
def Obligations.SequenceHeaderAccepted : Prop :=
  ∀ (h : SequenceHeader) (s : State), h.wellFormed = true →
    h.horizontalSize ≠ 0 → h.verticalSize ≠ 0 → 1 ≤ h.pictureRate.toNat → h.pictureRate.toNat ≤ 8 →
    s.v.startCode = some 0xB3 →
    ∃ t : State, exec (.sequenceHeader h) s = .next t ∧
      (let w := (h.horizontalSize.toNat + 15) / 16
       let k := (h.verticalSize.toNat + 15) / 16
       t.v.mbWidth.toNat = w ∧ t.v.mbHeight.toNat = k ∧ t.v.mbSize.toNat = w * k ∧
       t.v.lumaWidth.toNat = 16 * w ∧ t.v.lumaHeight.toNat = 16 * k ∧
       t.v.chromaWidth.toNat = 8 * w ∧ t.v.chromaHeight.toNat = 8 * k) ∧
      (∀ e ∈ [(1, 10000), (2, 6735), (3, 7031), (4, 7615), (5, 8055), (6, 8437), (7, 8935), (8, 9157),
          (9, 9815), (10, 10255), (11, 10695), (12, 10950), (13, 11575), (14, 12015)],
        h.pelAspectRatio.toNat = e.1 → t.v.pelAspectRatio = some ((e.2 : Rat) / 10000)) ∧
      ((h.pelAspectRatio = 0 ∨ h.pelAspectRatio = 15) → t.v.pelAspectRatio = none) ∧
      (match h.intraMatrix with
       | none => t.v.intraQuantMatrix = intraQ
       | some m => ∀ i < 64, t.v.intraQuantMatrix.getD (zigzag i) 0 = m.getD i 0) ∧
      (match h.nonIntraMatrix with
       | none => t.v.nonIntraQuantMatrix = nonIntraQ
       | some m => ∀ i < 64, t.v.nonIntraQuantMatrix.getD (zigzag i) 0 = m.getD i 0) ∧
      (∀ f p i, t.v.planeRead f p i = Config.unwrittenSample f.val p.number i) ∧
      (∀ f, (t.v.frame f).time = (s.v.frame f).time) ∧
      t = { s with v := { s.v with
        br := s.v.br.takeFields ([12, 12, 4, 4, 18, 1, 10, 1] ++
          (1 :: if h.intraMatrix.isSome then List.replicate 64 8 else []) ++
          (1 :: if h.nonIntraMatrix.isSome then List.replicate 64 8 else []))
        width := h.horizontalSize
        height := h.verticalSize
        aspectRatioIndex := h.pelAspectRatio
        pictureRateIndex := h.pictureRate
        framerate := pictureRate h.pictureRate
        bitRate := h.bitRate
        intraQuantMatrix := t.v.intraQuantMatrix
        nonIntraQuantMatrix := t.v.nonIntraQuantMatrix
        mbWidth := t.v.mbWidth
        mbHeight := t.v.mbHeight
        mbSize := t.v.mbSize
        lumaWidth := t.v.lumaWidth
        lumaHeight := t.v.lumaHeight
        chromaWidth := t.v.chromaWidth
        chromaHeight := t.v.chromaHeight
        fb0 := t.v.fb0
        fb1 := t.v.fb1
        fb2 := t.v.fb2
        hasSequenceHeader := true
        pos := .pictureSearch } }

/-- `sequenceHeader` rejected (R502 step 3): SeqHeaderInvalid, no register but the start code changes, and
VDECODE returns NONE. `pictureHeader` of a dropped picture (R503, R511): the cause, no rotation, no frame
touched, and the search for the next picture. `mp2Header` and `mp2SyncOther` rejected (R904, R905), in the
order of the checks: the cause, the bits read so far, and no output; no header register changes. -/
def Obligations.RejectedHeaders : Prop :=
  ((∀ (h : SequenceHeader) (s : State),
      (h.horizontalSize = 0 ∨ h.verticalSize = 0 ∨ h.pictureRate = 0 ∨ 8 < h.pictureRate.toNat) →
      exec (.sequenceHeader h) s = .next (videoReturns
        { { s.v with br := s.v.br.takeFields [12, 12, 4, 4, 18, 1, 10, 1] }.raise .seqHeaderInvalid with
          startCode := none } s)) ∧
   (∀ (temporal : BitVec 10) (delay : BitVec 16) (kind : BitVec 3) (forward backward : VectorCode)
      (s : State),
      (kind ≠ 1 → kind ≠ 2 → kind ≠ 3 →
        exec (.pictureHeader ⟨temporal, kind, delay, none, none⟩) s = .next { s with
          v := { { s.v with br := s.v.br.takeFields [10, 3, 16], pictureType := kind }.raise
              .pictureTypeUnsupported with
            startCode := none, pos := .pictureSearch } }) ∧
      (forward.fCode = 0 → (kind = 2 ∨ kind = 3) →
        exec (.pictureHeader ⟨temporal, kind, delay, some forward,
            if kind = 3 then some backward else none⟩) s = .next { s with
          v := { { s.v with
              br := s.v.br.takeFields [10, 3, 16, 1, 3]
              pictureType := kind
              mf.fullPx := forward.fullPel }.raise .fCodeZero with
            startCode := none, pos := .pictureSearch } }) ∧
      (forward.fCode ≠ 0 → backward.fCode = 0 →
        exec (.pictureHeader ⟨temporal, 3, delay, some forward, some backward⟩) s = .next { s with
          v := { { s.v with
              br := s.v.br.takeFields [10, 3, 16, 1, 3, 1, 3]
              pictureType := 3
              mf := { s.v.mf with fullPx := forward.fullPel, rSize := forward.fCode - 1 }
              mb.fullPx := backward.fullPel }.raise .fCodeZero with
            startCode := none, pos := .pictureSearch } }))) ∧
  (∀ s : State,
     let rejected := fun (c : AudioCause) (fields : List Nat) =>
       (audioReturns { { s.a with br := s.a.br.takeFields fields }.raise c with
         nextFrameDataSize := 0 } s : State)
     (∀ h : Mp2SyncOther,
       exec (.mp2SyncOther h) s = .next (rejected .versionLayer [11, 2, 2, 1])) ∧
     ∀ h : Mp2Header,
       ((h.bitrateIndex = 0 ∨ h.bitrateIndex = 15) →
         exec (.mp2Header h) s = .next (rejected .bitrate [11, 2, 2, 1, 4])) ∧
       (h.bitrateIndex ≠ 0 → h.bitrateIndex ≠ 15 → h.samplingFrequency = 3 →
         exec (.mp2Header h) s = .next (rejected .samplerate [11, 2, 2, 1, 4, 2])) ∧
       (h.bitrateIndex ≠ 0 → h.bitrateIndex ≠ 15 → h.samplingFrequency ≠ 3 → s.a.hasHeader = true →
         (h.bitrateIndex ≠ s.a.bitrateIndex ∨ h.samplingFrequency ≠ s.a.samplerateIndex ∨
           h.mode ≠ s.a.mode) →
         exec (.mp2Header h) s =
           .next (rejected .headerChange [11, 2, 2, 1, 4, 2, 1, 1, 2])))

/-- `pictureHeader` of an I, P or B picture (R503) with the pre-rotation (R505). -/
def Obligations.PictureHeaderAccepted : Prop :=
  ∀ (temporal : BitVec 10) (delay : BitVec 16) (forward backward : VectorCode) (s : State),
    exec (.pictureHeader ⟨temporal, 1, delay, none, none⟩) s = .next { s with
      v := { s.v with
        br := s.v.br.takeFields [10, 3, 16]
        pictureType := 1
        temp := s.v.fwd
        fwd := s.v.bwd
        pos := .bodySearch } } ∧
    (forward.fCode ≠ 0 →
      exec (.pictureHeader ⟨temporal, 2, delay, some forward, none⟩) s = .next { s with
        v := { s.v with
          br := s.v.br.takeFields [10, 3, 16, 1, 3]
          pictureType := 2
          mf := { s.v.mf with fullPx := forward.fullPel, rSize := forward.fCode - 1 }
          temp := s.v.fwd
          fwd := s.v.bwd
          pos := .bodySearch } }) ∧
    (forward.fCode ≠ 0 → backward.fCode ≠ 0 →
      exec (.pictureHeader ⟨temporal, 3, delay, some forward, some backward⟩) s = .next { s with
        v := { s.v with
          br := s.v.br.takeFields [10, 3, 16, 1, 3, 1, 3]
          pictureType := 3
          mf := { s.v.mf with fullPx := forward.fullPel, rSize := forward.fCode - 1 }
          mb := { s.v.mb with fullPx := backward.fullPel, rSize := backward.fCode - 1 }
          temp := s.v.fwd
          pos := .bodySearch } })

/-- `sliceHeader` (R601, R602): the quantizer scale, and one skipped byte per extra information byte.
`mbaStuffing` and `mbaEscape` (R604): another increment codeword follows. -/
def Obligations.SliceHeaderAndStuffing : Prop :=
  (∀ (h : SliceHeader) (s : State),
     exec (.sliceHeader h) s = .next { s with
       v := { s.v with
         br := s.v.br.takeFields (5 :: (List.replicate h.extra.length [1, 8]).flatten ++ [1])
         quantizerScale := h.quantizerScale
         increment := 0
         pos := .addressIncrement } }) ∧
  (∀ s : State,
     exec .mbaStuffing s = .next { s with
       v := { s.v with br := s.v.br.takeOnes 11, pos := .addressIncrement } } ∧
     exec .mbaEscape s = .next { s with
       v := { s.v with
         br := s.v.br.takeOnes 11, increment := s.v.increment + 33, pos := .addressIncrement } })

/-! ### Macroblock layer -/

/-- Table MBA, `mba1` to `mba33` (R604, R605, R206, R612): the address of the first macroblock of a slice, or
the macroblocks up to the next coded one, each skipped one predicted in turn. An address at or beyond
`mb_size` raises MbAddressRange and ends the slice. The address register holds every address of signed 32
bits; the row and the column of an address of the picture lie in the picture, and 9 bits hold them (R106, R714).
That an address beyond the register leaves a free value in it is the model's choice, that it raises
MbAddressRange as an address beyond the picture the model's inference from R204 (log entry 29). -/
def Obligations.AddressIncrements : Prop :=
  (∀ x : Int, -2 ^ 31 ≤ x → x < 2 ^ 31 → (storedAddress x).toInt = x) ∧
  (∀ a w h : Nat, a < w * h → w ≤ 256 → h ≤ 256 →
     (BitVec.ofInt 9 ((a : Int).tdiv w)).toNat = a / w ∧ (BitVec.ofInt 9 ((a : Int).tmod w)).toNat = a % w ∧
       a / w < h ∧ a % w < w) ∧
  (∀ r ∈ mbaTable, ∀ inc, r.value = some inc → inc ≤ 33 → ∀ s : State,
     let total := s.v.increment + inc
     let old := s.v.macroblockAddress
     let address := old.toInt + total
     let v : Video := { s.v with br := s.v.br.takeOnes r.len, increment := total, sliceBegin := false }
     let located := fun (a : Word) (v : Video) => ({ v with
       macroblockAddress := a
       mbRow := BitVec.ofInt 9 (a.toInt.tdiv s.v.mbWidth.toNat)
       mbCol := BitVec.ofInt 9 (a.toInt.tmod s.v.mbWidth.toNat) } : Video)
     let outside := fun a : Word => ({ { v with macroblockAddress := a }.raise .mbAddressRange with
       blockData := List.replicate 64 0
       pos := .sliceSearch } : Video)
     exec (r.make false) s = .next { s with
       v :=
         if s.v.sliceBegin then
           let a := storedAddress address
           if address < s.v.mbSize.toNat then { located a v with pos := .macroblockType } else outside a
         else if address < s.v.mbSize.toNat then
           let v : Video :=
             if 1 < total then
               { v with
                 dcPredictor := [128, 128, 128]
                 mf := if s.v.pictureType = 2 then { s.v.mf with h := 0, v := 0 } else s.v.mf }
             else v
           let v := (List.range (total - 1)).foldl
             (fun v k => (located (BitVec.ofInt 32 (old.toInt + 1 + k)) v).predictMacroblock) v
           { located (BitVec.ofInt 32 address) v with pos := .macroblockType }
         else outside old })

/-- The intra rows of tables MBT_I, MBT_P and MBT_B: `mbtI01`, `mbtI11`, `mbtP01`, `mbtP11`, `mbtB01`,
`mbtB11` (R606, R607, R608, R610): no prediction, every block coded, and block 0 next. -/
def Obligations.IntraMacroblockTypes : Prop :=
  ∀ T ∈ [mbtITable, mbtPTable, mbtBTable], ∀ r ∈ T, ∀ t, r.value = some t → t.testBit 0 = true →
    ∀ s : State,
      let b := s.v.br.takeOnes r.len
      exec (r.make false) s = .next { s with
        v := { s.v with
          br := if t.testBit 4 then b.take 5 else b
          quantizerScale := if t.testBit 4 then BitVec.ofNat 5 (b.read 5).1 else s.v.quantizerScale
          macroblockType := BitVec.ofNat 5 t
          macroblockIntra := true
          mf := { s.v.mf with isSet := false, h := 0, v := 0 }
          mb := { s.v.mb with isSet := false, h := 0, v := 0 }
          cbp := 0x3F
          block := 0
          coefficientPos := 0
          pos := .dcSize } }

/-- The rows of tables MBT_P and MBT_B with a motion vector: `mbtP0A`, `mbtP08`, `mbtP1A` and the nine rows of
MBT_B that are not intra (R606, R607, R609, R801): the DC predictors are reset and the first vector
component follows. The rows of table MBT_P without a vector, `mbtP02` and `mbtP12` (R606, R607, R609, R801,
R809): the forward vector is reset, the macroblock is predicted, and its pattern follows. -/
def Obligations.NonIntraMacroblockTypes : Prop :=
  (∀ e ∈ [(mbtPTable, 2#3), (mbtBTable, 3#3)], ∀ r ∈ e.1, ∀ t, r.value = some t →
     t.testBit 0 = false → (t.testBit 3 = true ∨ t.testBit 2 = true) →
     ∀ s : State, s.v.pictureType = e.2 →
       let b := s.v.br.takeOnes r.len
       exec (r.make false) s = .next { s with
         v := { s.v with
           br := if t.testBit 4 then b.take 5 else b
           quantizerScale := if t.testBit 4 then BitVec.ofNat 5 (b.read 5).1 else s.v.quantizerScale
           macroblockType := BitVec.ofNat 5 t
           macroblockIntra := false
           mf := { s.v.mf with isSet := t.testBit 3 }
           mb := { s.v.mb with isSet := t.testBit 2 }
           dcPredictor := [128, 128, 128]
           pos := .motion (!t.testBit 3) false } }) ∧
  (∀ r ∈ mbtPTable, ∀ t, r.value = some t → t.testBit 0 = false → t.testBit 3 = false →
     ∀ s : State, s.v.pictureType = 2 →
       let b := s.v.br.takeOnes r.len
       exec (r.make false) s = .next { s with
         v := { Video.predictMacroblock { s.v with
             br := if t.testBit 4 then b.take 5 else b
             quantizerScale := if t.testBit 4 then BitVec.ofNat 5 (b.read 5).1 else s.v.quantizerScale
             macroblockType := BitVec.ofNat 5 t
             macroblockIntra := false
             mf := { s.v.mf with isSet := false, h := 0, v := 0 }
             mb := { s.v.mb with isSet := false }
             dcPredictor := [128, 128, 128] } with
           pos := .codedBlockPattern } })

/-- Table CBP, all 63 rows (R610, R611): the pattern is latched and the first coded block begins. What follows
block `i - 1` (R611, R603): the next coded block, else the next macroblock of the slice where one is left
and the next 23 bits are not all zero, else the search for the next start code. That the 23 bits are tested
only where a macroblock is left is the model's reading (log entry 6). -/
def Obligations.CodedBlockPatternsAndLoop : Prop :=
  (∀ r ∈ cbpTable, ∀ pattern, r.value = some pattern → ∀ s : State,
     ∃ i, i < 6 ∧ pattern.testBit (5 - i) = true ∧ (∀ j < i, pattern.testBit (5 - j) = false) ∧
       exec (r.make false) s = .next { s with
         v := { s.v with
           br := s.v.br.takeOnes r.len
           cbp := BitVec.ofNat 6 pattern
           block := i
           coefficientPos := 0
           pos := if s.v.macroblockIntra then .dcSize else .coefficient } }) ∧
  (∀ (i : Nat) (v : Video), i ≤ 6 →
     (∀ j, i ≤ j → j < 6 → v.cbp.getLsbD (5 - j) = true →
       (∀ k, i ≤ k → k < j → v.cbp.getLsbD (5 - k) = false) →
       v.blocksFrom i = { v with
         block := j, coefficientPos := 0, pos := if v.macroblockIntra then .dcSize else .coefficient }) ∧
     ((∀ j, i ≤ j → j < 6 → v.cbp.getLsbD (5 - j) = false) →
       v.blocksFrom i =
         if v.macroblockAddress.toInt < (v.mbSize.toNat : Int) - 1 then
           let (more, br) := v.br.peekNonzero 23
           if more then { v with br := br, increment := 0, pos := .addressIncrement }
           else { v with br := br, pos := .sliceSearch }
         else { v with pos := .sliceSearch }))

/-! ### Motion vectors and prediction -/

/-- Table MOTION, `motion0` to `motion16` with both signs (R802, R803, R801): the component at the cursor
takes its new value; the next component follows, or the macroblock is predicted (R809) and its pattern
follows (R610). -/
def Obligations.MotionCodes : Prop :=
  ∀ r ∈ motionTable, ∀ m, r.value = some m → ∀ (sign : Bool) (s : State) (backward vertical : Bool),
    s.v.pos = .motion backward vertical → s.v.macroblockIntra = false →
    let vector := if backward then s.v.mb else s.v.mf
    let k := vector.rSize.toNat
    let b := s.v.br.takeOnes (if m = 0 then r.len else r.len + 1)
    let residual := m ≠ 0 ∧ k ≠ 0
    let size : Int := if residual then ((m : Int) - 1) * 2 ^ k + (b.read k).1 + 1 else m
    let moved := (if vertical then vector.v else vector.h) + (if sign ∧ m ≠ 0 then -size else size)
    let component :=
      if 16 * 2 ^ k - 1 < moved then moved - 32 * 2 ^ k
      else if moved < -(16 * 2 ^ k) then moved + 32 * 2 ^ k
      else moved
    let vector := if vertical then { vector with v := component } else { vector with h := component }
    let v : Video := { s.v with
      br := if residual then b.take k else b
      mf := if backward then s.v.mf else vector
      mb := if backward then vector else s.v.mb }
    exec (r.make sign) s = .next { s with
      v :=
        if !vertical then { v with pos := .motion backward true }
        else if !backward && s.v.mb.isSet then { v with pos := .motion true false }
        else if s.v.macroblockType.getLsbD 1 then
          { v.predictMacroblock with pos := .codedBlockPattern }
        else Video.blocksFrom 0 { v.predictMacroblock with cbp := 0 } }

/-- PLANE_PREDICT (R805) with its range check (R807). `source` is another frame than the one decoded
(R109). -/
def Obligations.PlanePrediction : Prop :=
  ∀ (average : Bool) (source : Fin 3) (p : Plane) (mh mv : Int) (v : Video), source ≠ v.cur →
    let size : Nat := match p with
      | .y => 16
      | _ => 8
    let w : Int := v.planeWidth p
    let x0 : Int := v.mbCol.toNat * size + ⌊(mh : Rat) / 2⌋
    let y0 : Int := v.mbRow.toNat * size + ⌊(mv : Rat) / 2⌋
    let oh : Int := mh % 2
    let ov : Int := mv % 2
    let inside := 0 ≤ x0 ∧ 0 ≤ y0 ∧ x0 + size - 1 + oh < w ∧ y0 + size - 1 + ov < v.planeHeight p
    let sample := fun x y : Int => (v.planeRead source p (y * w + x).toNat).toNat
    let value := fun x y : Nat =>
      let a := sample (x0 + x) (y0 + y)
      let b := sample (x0 + x + 1) (y0 + y)
      let c := sample (x0 + x) (y0 + y + 1)
      let e := sample (x0 + x + 1) (y0 + y + 1)
      if oh = 0 ∧ ov = 0 then a
      else if ov = 0 then (a + b + 1) / 2
      else if oh = 0 then (a + c + 1) / 2
      else (a + b + c + e + 2) / 4
    let index := fun x y : Nat => (v.mbRow.toNat * size + y) * v.planeWidth p + v.mbCol.toNat * size + x
    let t := v.planePredict average source p mh mv size
    (inside →
      (∀ x < size, ∀ y < size, (t.planeRead v.cur p (index x y)).toNat =
        if average then ((v.planeRead v.cur p (index x y)).toNat + value x y + 1) / 2 else value x y) ∧
      (∀ f q i, (f = v.cur → q = p → ∀ x < size, ∀ y < size, i ≠ index x y) →
        t.planeRead f q i = v.planeRead f q i) ∧
      (∀ f, (t.frame f).time = (v.frame f).time) ∧
      t = { v with fb0 := t.fb0, fb1 := t.fb1, fb2 := t.fb2 }) ∧
    (¬ inside → t = v.raise .mcOutOfFrame)

/-- PREDICT_MACROBLOCK (R808) with the planes of R806 and the doubling of R804: the direction or directions,
their frames, and their modes, in a B picture and in any other. Predicted in both directions from within
the planes, every sample of the macroblock in the current frame is `(F + B + 1) >> 1` of the two single
predictions. -/
def Obligations.PredictMacroblockRules : Prop :=
  ∀ v : Video,
    let luma := fun m : MotionState => if m.fullPx then (2 * m.h, 2 * m.v) else (m.h, m.v)
    let half := fun c : Int => if 0 ≤ c then c / 2 else -((-c) / 2)
    let predicted := fun (average : Bool) (source : Fin 3) (m : MotionState) (v : Video) =>
      let h := (luma m).1
      let k := (luma m).2
      let v := v.planePredict average source .y h k 16
      let v := v.planePredict average source .cb (half h) (half k) 8
      v.planePredict average source .cr (half h) (half k) 8
    let forward := predicted false v.fwd v.mf v
    let backward := predicted false v.bwd v.mb v
    (v.pictureType ≠ 3 → v.predictMacroblock = forward) ∧
    (v.pictureType = 3 → v.mf.isSet = true → v.mb.isSet = false → v.predictMacroblock = forward) ∧
    (v.pictureType = 3 → v.mf.isSet = false → v.predictMacroblock = backward) ∧
    (v.pictureType = 3 → v.mf.isSet = true → v.mb.isSet = true →
      v.predictMacroblock = predicted true v.bwd v.mb forward ∧
      (v.cur ≠ v.fwd → v.cur ≠ v.bwd →
        (∀ p, ∀ d ∈ [luma v.mf, luma v.mb],
          v.predictionInRange p (if p = .y then d.1 else half d.1) (if p = .y then d.2 else half d.2)
            (if p = .y then 16 else 8) = true) →
        ∀ (p : Plane) (x y : Nat),
          let size : Nat := if p = .y then 16 else 8
          let i := (v.mbRow.toNat * size + y) * v.planeWidth p + v.mbCol.toNat * size + x
          x < size → y < size →
          (v.predictMacroblock.planeRead v.cur p i).toNat =
            ((forward.planeRead v.cur p i).toNat + (backward.planeRead v.cur p i).toNat + 1) / 2))

/-! ### Blocks -/

/-- Tables DCT_DC_Y and DCT_DC_C, all eighteen sizes (R701, R702, R703). -/
def Obligations.DcSizes : Prop :=
  ∀ T ∈ [dcYTable, dcCTable], ∀ r ∈ T, ∀ z, r.value = some z → ∀ s : State,
    let b := s.v.br.takeOnes r.len
    let u := (b.read z).1
    let diff : Int := if z = 0 then 0 else if 2 ^ (z - 1) ≤ u then u else (u : Int) + 1 - 2 ^ z
    let p := if s.v.block ≤ 3 then 0 else s.v.block - 3
    let dc := s.v.dcPredictor.getD p 0 + diff
    exec (r.make false) s = .next { s with
      v := { s.v with
        br := b.take z
        dcPredictor := s.v.dcPredictor.set p dc
        blockData := s.v.blockData.set 0 (256 * dc)
        coefficientPos := 1
        pos := .coefficient } }

/-- Every table coefficient of table DCT in both forms and with both signs, and the three completed
escapes with every run and level (R707-R713, R706, R315): the value stored at the zigzag position, or
CoefPositionRange and the end of the slice (R708, R612). -/
def Obligations.Coefficients : Prop :=
  ∀ (i : Instr) (b : BitReader → BitReader) (run : Nat) (level : Int),
    ((∃ T ∈ [dctFirstTable, dctNextTable], ∃ r ∈ T, ∃ packed sign,
        r.signed = true ∧ r.value = some packed ∧ i = r.make sign ∧ run = packed / 256 ∧
        level = (if sign then -((packed % 256 : Nat) : Int) else ((packed % 256 : Nat) : Int)) ∧
        b = fun b => (b.takeOnes r.len).take 1) ∨
      (∃ r l, i = .dctEscapeShort r l ∧ l ≠ 0 ∧ l ≠ 128 ∧ run = r.toNat ∧ level = l.toInt ∧
        b = fun b => ((b.takeOnes 6).take 6).take 8) ∨
      (∃ r l, i = .dctEscapeLongPos r l ∧ run = r.toNat ∧ level = l.toNat ∧
        b = fun b => (((b.takeOnes 6).take 6).take 8).take 8) ∨
      (∃ r l, i = .dctEscapeLongNeg r l ∧ run = r.toNat ∧ level = (l.toNat : Int) - 256 ∧
        b = fun b => (((b.takeOnes 6).take 6).take 8).take 8)) →
    ∀ s : State,
      let n := s.v.coefficientPos + run
      let natural := zigzag n
      let matrix := if s.v.macroblockIntra then s.v.intraQuantMatrix else s.v.nonIntraQuantMatrix
      let doubled :=
        if s.v.macroblockIntra then 2 * level
        else if level < 0 then 2 * level - 1 else 2 * level + 1
      let scaled :=
        ⌊((doubled * s.v.quantizerScale.toNat * (matrix.getD natural 0).toNat : Int) : Rat) / 16⌋
      let odd := if scaled % 2 = 0 then (if 0 < scaled then scaled - 1 else scaled + 1) else scaled
      let clipped := min 2047 (max (-2048) odd)
      (n < 64 →
        exec i s = .next { s with
          v := { s.v with
            br := b s.v.br
            blockData := s.v.blockData.set natural (clipped * premultiplier natural)
            coefficientPos := n + 1
            pos := .coefficient } }) ∧
      (64 ≤ n →
        exec i s = .next { s with
          v := { { s.v with br := b s.v.br }.raise .coefPositionRange with
            blockData := List.replicate 64 0
            pos := .sliceSearch } })

/-- `dctEscape`, the bare prefix (R706): it reads its run and level at the cursor, and does what the
completed escape of that run and level does. -/
def Obligations.BareEscape : Prop :=
  ∀ s : State,
    let b0 := s.v.br.takeOnes 6
    let (run, b1) := b0.read 6
    let (level8, b2) := b1.read 8
    let (level2, b3) := b2.read 8
    let level : Int :=
      if level8 = 0 then level2
      else if level8 = 128 then (level2 : Int) - 256
      else if 128 < level8 then (level8 : Int) - 256
      else level8
    exec .dctEscape s = .next (deliverVideo { s with
      v := Video.placeCoefficient run level
        { s.v with br := if level8 = 0 ∨ level8 = 128 then b3 else b2 } })

/-- `dctEob` (R705, R714, R718, R719, R720): the block is transformed and written to the current frame,
where it overwrites or is added to the prediction; every other sample stays; the coefficient registers
are cleared; and the block loop goes on. -/
def Obligations.EndOfBlock : Prop :=
  ∀ s : State, s.v.block < 6 → 8 ≤ s.v.lumaWidth.toNat → 8 ≤ s.v.chromaWidth.toNat →
    let plane : Plane := if s.v.block < 4 then .y else if s.v.block = 4 then .cb else .cr
    let stride := if s.v.block < 4 then s.v.lumaWidth.toNat else s.v.chromaWidth.toNat
    let base :=
      if s.v.block < 4 then
        (s.v.mbRow.toNat * s.v.lumaWidth.toNat + s.v.mbCol.toNat) * 16 +
          (if s.v.block % 2 = 1 then 8 else 0) + (if 2 ≤ s.v.block then 8 * s.v.lumaWidth.toNat else 0)
      else s.v.mbRow.toNat * s.v.lumaWidth.toNat * 4 + s.v.mbCol.toNat * 8
    let index := fun x y : Nat => base + y * stride + x
    let residual := inverseTransform s.v.blockData
    ∃ w : Video,
      exec .dctEob s = .next { s with v := w.blocksFrom (s.v.block + 1) } ∧
      w = { s.v with
        br := s.v.br.takeOnes 2
        fb0 := w.fb0
        fb1 := w.fb1
        fb2 := w.fb2
        blockData := List.replicate 64 0 } ∧
      (∀ x < 8, ∀ y < 8, ((w.planeRead s.v.cur plane (index x y)).toNat : Int) =
        min 255 (max 0 (residual.getD (8 * y + x) 0 +
          if s.v.macroblockIntra then 0 else ((s.v.planeRead s.v.cur plane (index x y)).toNat : Int)))) ∧
      (∀ f q i, (f = s.v.cur → q = plane → ∀ x < 8, ∀ y < 8, i ≠ index x y) →
        w.planeRead f q i = s.v.planeRead f q i) ∧
      ∀ f, (w.frame f).time = (s.v.frame f).time

/-- The eight outputs of T8 (R716), and the passes of the inverse transform (R717): T8 on every column, then
T8 on every row with rounding. With only the DC coefficient, every output is `(B[0] + 128) >> 8` (R721). -/
def Obligations.InverseTransformRules : Prop :=
  (∀ c : Nat → Int,
     let shift := fun n : Int => ⌊((n + 128 : Int) : Rat) / 256⌋
     let b7 := c 1 + c 7 + (c 3 + c 5)
     let x4 := shift ((c 1 - c 7) * 473 - (c 5 - c 3) * 196) - b7
     let x0 := x4 - shift ((c 1 + c 7 - (c 3 + c 5)) * 362)
     let x2 := shift ((c 2 - c 6) * 362) - (c 2 + c 6)
     let y7 := -x0 - shift ((c 5 - c 3) * 473 + (c 1 - c 7) * 196)
     transform8 c = [
       b7 + (c 0 + c 4 + (c 2 + c 6)),
       x4 + (c 0 - c 4 + x2),
       c 0 - c 4 - x2 - x0,
       c 0 + c 4 - (c 2 + c 6) - y7,
       c 0 + c 4 - (c 2 + c 6) + y7,
       x0 + (c 0 - c 4 - x2),
       c 0 - c 4 + x2 - x4,
       c 0 + c 4 + (c 2 + c 6) - b7]) ∧
  (∀ (block : List Int) (x y : Nat), x < 8 → y < 8 →
     (columnPass block).length = 64 ∧ (inverseTransform block).length = 64 ∧
     (columnPass block).getD (8 * y + x) 0 =
       (transform8 fun j => block.getD (8 * j + x) 0).getD y 0 ∧
     (inverseTransform block).getD (8 * y + x) 0 =
       ⌊(((transform8 fun j => (columnPass block).getD (8 * y + j) 0).getD x 0 + 128 : Int) : Rat)
         / 256⌋) ∧
  (∀ c : Int,
     inverseTransform (c :: List.replicate 63 0) = List.replicate 64 ⌊((c + 128 : Int) : Rat) / 256⌋)

/-- The fifteen reserved prefixes, in every VLC table (R326, R409, R612): VlcInvalid with the bits of the
prefix consumed, and the slice ends. -/
def Obligations.ReservedPrefixes : Prop :=
  ∀ T ∈ [mbaTable, mbtITable, mbtPTable, mbtBTable, cbpTable, motionTable, dcYTable, dcCTable,
      dctFirstTable, dctNextTable],
    ∀ r ∈ T, r.value = none → ∀ s : State,
      exec (r.make false) s = .next { s with
        v := { { s.v with br := s.v.br.takeOnes r.len }.raise .vlcInvalid with
          blockData := List.replicate 64 0
          pos := .sliceSearch } }

/-! ### Audio -/

/-- `mp2Header` accepted (R904-R908, R901 steps 3 to 5): the latch and the body size; with the whole body
stored the frame is decoded and its samples are returned, else the header stays pending. -/
def Obligations.AudioHeaderAccepted : Prop :=
  ∀ (h : Mp2Header) (s : State),
    h.bitrateIndex ≠ 0 → h.bitrateIndex ≠ 15 → h.samplingFrequency ≠ 3 →
    (s.a.hasHeader = true →
      h.bitrateIndex = s.a.bitrateIndex ∧ h.samplingFrequency = s.a.samplerateIndex ∧
        h.mode = s.a.mode) →
    let size :=
      144000 * bitrate h.bitrateIndex / sampleRate h.samplingFrequency + (if h.padding then 1 else 0) -
        (if h.protection then 4 else 6)
    let b := s.a.br.takeFields
      ([11, 2, 2, 1, 4, 2, 1, 1, 2, 2, 4] ++ if h.protection then [] else [16])
    let latched : Audio := { s.a with
      version := 3
      layer := 2
      hasCrc := !h.protection
      bitrateIndex := h.bitrateIndex
      samplerateIndex := h.samplingFrequency
      padding := h.padding
      mode := h.mode
      channels := if h.mode = 3 then 1 else 2
      hasHeader := true
      modeExtension := h.modeExtension
      bound :=
        if h.mode = 1 then BitVec.ofNat 6 (4 * (h.modeExtension.toNat + 1))
        else if h.mode = 3 then 0 else 32
      nextFrameDataSize := BitVec.ofNat 16 size }
    90 ≤ size ∧ size ≤ 1725 ∧
    (b.bitIndex + 8 * size ≤ 8 * b.bytes.length →
      let a : Audio := Audio.decodeFrame { latched with br := b }
      exec (.mp2Header h) s = .next (audioReturns { a with
        nextFrameDataSize := 0
        samplesTime := a.time
        samplesDecoded := a.samplesDecoded + 1152
        time := ((a.samplesDecoded + 1152 : Nat) : Rat) / sampleRate h.samplingFrequency
        outValid := true } s)) ∧
    (8 * b.bytes.length < b.bitIndex + 8 * size →
      exec (.mp2Header h) s =
        .next (audioReturns { latched with br := (b.has (8 * size)).2 } s))

/-- What a frame body writes in the register files allocation, scfsi and scalefactor (R1001-R1005), field by
field: a field is read by the reader that all fields before it have left. `bands` is the row of the
allocated subbands with their channels, in the order of the stream. Twelve granules follow, and `align`
(R1000, R1012). -/
def Obligations.FrameBodyTables : Prop :=
  ∀ a : Audio, (a.channels = 1 ∨ a.channels = 2) → a.allocation.length = 64 → a.scfsi.length = 64 →
    a.scalefactor.length = 192 →
    let tab := allocationTable a.bitrateIndex a.mode a.samplerateIndex
    let bound := min a.bound.toNat tab.sblimit
    let nch := a.channels.toNat
    let t := a.decodeFrame
    let place := fun e : Nat × Nat => 32 * e.1 + e.2
    let widths := (List.range tab.sblimit).flatMap fun sb =>
      List.replicate (if sb < bound then nch else 1) (tab.nbal sb)
    let field := fun e : Nat × Nat =>
      let before := if e.2 < bound then nch * e.2 + e.1 else nch * bound + (e.2 - bound)
      ((a.br.takeFields (widths.take before)).read (tab.nbal e.2)).1
    let bands := ((List.range tab.sblimit).flatMap fun sb => (List.range nch).map fun ch => (ch, sb)).filter
      fun e => (t.allocation.getD (place e) none).isSome
    let b1 := a.br.takeFields widths
    let b2 := b1.takeFields (List.replicate bands.length 2)
    let selector := fun e : Nat × Nat => (t.scfsi.getD (place e) 0).toNat
    let count := fun e : Nat × Nat => if selector e = 0 then 3 else if selector e = 2 then 1 else 2
    let behind := fun n : Nat => b2.takeFields (List.replicate ((bands.take n).map count).sum 6)
    let factor := fun n k : Nat => BitVec.ofNat 6 (((behind n).takeFields (List.replicate k 6)).read 6).1
    (∀ ch < 2, ∀ sb < 32, t.allocation.getD (32 * ch + sb) none =
      if tab.sblimit ≤ sb then none
      else if sb < bound ∧ nch ≤ ch then a.allocation.getD (32 * ch + sb) none
      else tab.quantClass sb (field (ch, sb))) ∧
    (∀ n e, bands[n]? = some e →
      selector e = ((b1.takeFields (List.replicate n 2)).read 2).1 ∧
      (∀ k < 3, t.scalefactor.getD (3 * place e + k) 0 = factor n (
        if selector e = 0 then k
        else if selector e = 1 then k - 1
        else if selector e = 2 then 0
        else min k 1))) ∧
    (∀ ch < 2, ∀ sb < 32, (ch, sb) ∉ bands →
      t.scfsi.getD (32 * ch + sb) 0 = a.scfsi.getD (32 * ch + sb) 0 ∧
      ∀ k < 3, t.scalefactor.getD (3 * (32 * ch + sb) + k) 0 =
        a.scalefactor.getD (3 * (32 * ch + sb) + k) 0) ∧
    (let start : Audio := { a with
       br := behind bands.length
       allocation := t.allocation
       scfsi := t.scfsi
       scalefactor := t.scalefactor }
     let last := (List.range 12).foldl (fun a i => a.decodeGranule (i / 4) (i % 4)) start
     t = { last with br := last.br.align })

/-- READ_TRIPLE (R1007, R1008) and the shared triple (R1009): the codes, grouped or direct, the causes, and
the three samples they become; no other sample changes. In a subband without allocation the samples are 0
(R1010). That index 63 raises its cause once for each triple is the model's reading (log entry 11);
JS_SHARE_MODE is OPEN (log entry 12). -/
def Obligations.SampleTriples : Prop :=
  ∀ (a : Audio) (part sb : Nat), part < 3 → sb < 32 → a.sample.length = 192 →
    let only := fun (e : Nat) (x : List Surd) (t u : Audio) =>
      t = { u with sample := t.sample } ∧ t.sample.length = 192 ∧
        (∀ k < 3, t.sample.getD (3 * e + k) [] = x.getD k []) ∧
        ∀ n, (n < 3 * e ∨ 3 * e + 3 ≤ n) → t.sample.getD n [] = u.sample.getD n []
    let index := fun ch : Nat => a.scalefactor.getD (3 * (32 * ch + sb) + part) 0
    let flagged := fun (ch : Nat) (u : Audio) => if index ch = 63 then u.raise .scalefactor63 else u
    let shared := a.readSharedTriple part sb
    (∀ ch < 2, a.allocation.getD (32 * ch + sb) none = none →
      only (32 * ch + sb) [] (a.readTriple part ch sb) a) ∧
    (a.allocation.getD sb none = none →
      only (32 + sb) [] shared (a.readTriple part 0 sb)) ∧
    (∀ ch < 2, ∀ q, a.allocation.getD (32 * ch + sb) none = some q →
      let w := q.codeWidth
      let c := (a.br.read w).1
      let grouped := q.levels = 3 ∨ q.levels = 5 ∨ q.levels = 9
      let codes :=
        if grouped then [c % q.levels, c / q.levels % q.levels, c / q.levels / q.levels]
        else [c, ((a.br.take w).read w).1, (((a.br.take w).take w).read w).1]
      let read : Audio := { (if grouped ∧ q.levels ^ 3 ≤ c then a.raise .groupedCodeRange else a) with
        br := if grouped then a.br.take w else ((a.br.take w).take w).take w }
      let t := a.readTriple part ch sb
      only (32 * ch + sb) (codes.map (requantize q (index ch))) t (flagged ch read) ∧
      (ch = 0 →
        (a.channels = 1 → shared = t) ∧
        (a.channels ≠ 1 →
          match Config.jsShareMode with
          | .isoPerChannel => only (32 + sb) (codes.map (requantize q (index 1))) shared (flagged 1 t)
          | .copyCh0 => only (32 + sb) (codes.map (requantize q (index 0))) shared t)))

/-- One granule (R1006, R1010, R1011, R1103): the triples of the subbands below the bound, one by one, then
the shared ones; from the limit on the samples are 0; in mono channel 1 has channel 0's samples. Three
synthesis steps follow, and the outputs of step `k` stand at `96 (4 part + granule) + 32 k` of each channel;
no other output changes. -/
def Obligations.GranuleRule : Prop :=
  ∀ (a : Audio) (part granule : Nat), part < 3 → granule < 4 → (a.channels = 1 ∨ a.channels = 2) →
    a.sample.length = 192 → a.delay.length = 2048 → a.out.length = 2304 →
    let limit := (allocationTable a.bitrateIndex a.mode a.samplerateIndex).sblimit
    let bound := min a.bound.toNat limit
    let separate := (List.range bound).flatMap fun sb => (List.range a.channels.toNat).map fun ch => (ch, sb)
    let s := separate.foldl (fun a e => a.readTriple part e.1 e.2) a
    let s := (List.range' bound (limit - bound)).foldl (fun a sb => a.readSharedTriple part sb) s
    let t := a.decodeGranule part granule
    let start : Audio := { s with sample := t.sample }
    let shifted := fun k : Nat => (List.range (k + 1)).foldl (fun a k => a.matrixing k) start
    (∀ ch < 2, ∀ sb < 32, ∀ k < 3, t.sample.getD (3 * (32 * ch + sb) + k) [] =
      if limit ≤ sb then []
      else if a.channels = 1 then s.sample.getD (3 * sb + k) []
      else s.sample.getD (3 * (32 * ch + sb) + k) []) ∧
    (∀ ch < 2, ∀ k < 3, ∀ j < 32,
      t.out.getD (1152 * ch + 96 * (4 * part + granule) + 32 * k + j) [] =
        (shifted k).windowSample ch j) ∧
    (∀ ch < 2, ∀ n < 1152, (n < 96 * (4 * part + granule) ∨ 96 * (4 * part + granule) + 96 ≤ n) →
      t.out.getD (1152 * ch + n) [] = a.out.getD (1152 * ch + n) []) ∧
    t.out.length = 2304 ∧ t.sample.length = 192 ∧ t = { shifted 2 with out := t.out }

/-- Requantization (R1008, R342): the exact sample is `((2 s - (L - 1)) / L) * 2 ^ (1 - i / 3)`, and 0
for the reserved index 63. That the numbers are exact is the model's choice (log entry 7). -/
def Obligations.RequantizedSampleIsExact : Prop :=
  ∀ (q : QuantClass) (factor : BitVec 6) (code : Nat),
    surdBounded (requantize q factor code) = true ∧
    surdValue (requantize q factor code) =
      if factor = 63 then 0
      else ((2 * (code : ℝ) - ((q.levels : ℝ) - 1)) / q.levels) *
        (2 : ℝ) ^ (1 - (factor.toNat : ℝ) / 3)

/-- Shift and matrixing (R1101): the 64 words written at the new offset are the cosine sums of the 32
subband samples, exactly; no other delay-line word changes. That the numbers are exact is the model's choice
(log entry 7). -/
def Obligations.MatrixingIsExact : Prop :=
  ∀ (a : Audio) (k : Nat), k < 3 → a.delay.length = 2048 → a.sample.length = 192 →
    a.vPos.toNat % 64 = 0 → (∀ x ∈ a.sample, surdBounded x = true) →
    let t := a.matrixing k
    t.vPos = a.vPos - 64 ∧ t.delay.length = 2048 ∧ t = { a with vPos := t.vPos, delay := t.delay } ∧
    (∀ ch < 2, ∀ i < 64,
      surdValue (t.delay.getD (1024 * ch + t.vPos.toNat + i) []) =
        ∑ sb ∈ Finset.range 32, Real.cos ((16 + i) * (2 * sb + 1) * Real.pi / 64) *
          surdValue (a.sample.getD (3 * (32 * ch + sb) + k) [])) ∧
    ∀ ch < 2, ∀ n < 1024, (n < t.vPos.toNat ∨ t.vPos.toNat + 64 ≤ n) →
      t.delay.getD (1024 * ch + n) [] = a.delay.getD (1024 * ch + n) []

/-- Windowing (R1102), for every window: the sixteen products of an output. That the numbers are exact is the
model's choice (log entry 7) of the OPEN numerics (R1104). -/
def Obligations.WindowingIsExact : Prop :=
  ∀ (a : Audio) (d : Nat → ℝ) (ch j : Nat), j < 32 →
    windowValue d (a.windowSample ch j) =
      ∑ i ∈ Finset.range 8,
        (d (64 * i + j) * surdValue (a.delayWord ch (128 * i + j)) +
          d (64 * i + 32 + j) * surdValue (a.delayWord ch (128 * i + 96 + j)))

/-- What the number of an output sample is (R1102, R1104), for every window of rational entries (log entry 7,
DEDUCED): the sum of the products, in real arithmetic. And what stands for a number where it is rounded (log
entry 26): `surdRational`, a rational number within `2 ^ (-p)` for each unit of the coefficients at the
precision `p = surdPrecision`, as at any other, and the number itself where it has no irrational part. -/
def Obligations.SampleNumbersAreExact : Prop :=
  (∀ (d : Nat → Rat) (x : WindowSum), (∀ e ∈ x, surdBounded e.2 = true) →
     surdBounded (windowSurd d x) = true ∧
     surdValue (windowSurd d x) = windowValue (fun n => (d n : ℝ)) x) ∧
  (∀ (r : Rat) (x : Surd), surdBounded x = true →
     surdBounded (scaleSurd r x) = true ∧ surdValue (scaleSurd r x) = r * surdValue x) ∧
  (∀ (p : Nat) (x : Surd), surdBounded x = true →
     |(surdApprox p x : ℝ) - surdValue x| ≤ (x.map fun e => |(e.2 : ℝ)|).sum / 2 ^ p) ∧
  (∀ x : Surd, surdBounded x = true →
     |(surdRational x : ℝ) - surdValue x| ≤ (x.map fun e => |(e.2 : ℝ)|).sum / 2 ^ surdPrecision x) ∧
  (∀ x : Surd, (∀ e ∈ x, e.1 = 0) → (surdRational x : ℝ) = surdValue x)

/-- The filter bank (R1104 (a) and (b)). From a delay line of zeros, samples of 0 give outputs of exactly 0
in every format. The map from subband samples to outputs is linear, and does not depend on how many steps
have been made: where the samples and the history of `c` are `x` times those of `a` and `y` times those of
`b`, each history read from its engine's own offset, the outputs and the history after a step are so too, for
every window. -/
def Obligations.FilterBankIsLinear : Prop :=
  ∀ (part granule k : Nat), part < 3 → granule < 4 → k < 3 →
    let legal := fun a : Audio =>
      a.sample.length = 192 ∧ a.delay.length = 2048 ∧ a.out.length = 2304 ∧ a.vPos.toNat % 64 = 0 ∧
        ∀ x ∈ a.sample, surdBounded x = true
    let output := fun (a : Audio) (ch j : Nat) =>
      (a.synthesisStep part granule k).out.getD (1152 * ch + 96 * (4 * part + granule) + 32 * k + j) []
    let input := fun (a : Audio) (ch sb : Nat) => a.sample.getD (3 * (32 * ch + sb) + k) []
    (∀ a : Audio, legal a → (∀ x ∈ a.sample, x = []) → (∀ x ∈ a.delay, x = []) →
      (∀ ch < 2, ∀ j < 32, output a ch j = []) ∧ (∀ x ∈ (a.synthesisStep part granule k).delay, x = []) ∧
      ∀ format, formatSample format (sampleNumber []) = 0) ∧
    (∀ (a b c : Audio) (x y : ℝ), legal a → legal b → legal c →
      (∀ ch < 2, ∀ sb < 32,
        surdValue (input c ch sb) = x * surdValue (input a ch sb) + y * surdValue (input b ch sb)) →
      (∀ ch < 2, ∀ n < 1024,
        surdValue (c.delayWord ch n) = x * surdValue (a.delayWord ch n) + y * surdValue (b.delayWord ch n)) →
      (∀ ch < 2, ∀ n < 1024,
        surdValue ((c.synthesisStep part granule k).delayWord ch n) =
          x * surdValue ((a.synthesisStep part granule k).delayWord ch n) +
            y * surdValue ((b.synthesisStep part granule k).delayWord ch n)) ∧
      ∀ (d : Nat → ℝ), ∀ ch < 2, ∀ j < 32,
        windowValue d (output c ch j) =
          x * windowValue d (output a ch j) + y * windowValue d (output b ch j))

/-- In mono both output channels are equal element by element (R1106, R1011). -/
def Obligations.MonoChannelsAreEqual : Prop :=
  ∀ a : Audio, a.channels = 1 → a.sample.length = 192 → a.delay.length = 2048 →
    a.out.length = 2304 → a.vPos.toNat % 64 = 0 → a.delay.take 1024 = a.delay.drop 1024 →
    let t := a.decodeFrame
    t.out.take 1152 = t.out.drop 1152 ∧ t.delay.take 1024 = t.delay.drop 1024
end

