-- ==== Sys2Proof/Laws/State.lean ====
section
/-! SUPPORT. The small lemmas of the named record updates: what each leaves in every field, true by `rfl`, so
that no proof unfolds an update. -/

namespace Sys2Proof.Machine

/-! ### Bit reader -/

@[simp] theorem BitReader.short_bytes  (b : BitReader) : (b.short).bytes = b.bytes := rfl
@[simp] theorem BitReader.short_bitIndex  (b : BitReader) : (b.short).bitIndex = b.bitIndex := rfl
@[simp] theorem BitReader.short_ended  (b : BitReader) :
    (b.short).ended = (b.ended || (b.totalSize != 0 && b.length == b.totalSize)) := rfl
@[simp] theorem BitReader.short_totalSize  (b : BitReader) : (b.short).totalSize = b.totalSize := rfl
@[simp] theorem BitReader.short_discardRead  (b : BitReader) :
    (b.short).discardRead = b.discardRead := rfl
@[simp] theorem BitReader.short_underrun  (b : BitReader) : (b.short).underrun = b.underrun := rfl
@[simp] theorem BitReader.short_needData  (b : BitReader) : (b.short).needData = true := rfl

@[simp] theorem BitReader.align_bytes  (b : BitReader) : (b.align).bytes = b.bytes := rfl
@[simp] theorem BitReader.align_bitIndex  (b : BitReader) :
    (b.align).bitIndex = 8 * ((b.bitIndex + 7) / 8) := rfl
@[simp] theorem BitReader.align_ended  (b : BitReader) : (b.align).ended = b.ended := rfl
@[simp] theorem BitReader.align_totalSize  (b : BitReader) : (b.align).totalSize = b.totalSize := rfl
@[simp] theorem BitReader.align_discardRead  (b : BitReader) :
    (b.align).discardRead = b.discardRead := rfl
@[simp] theorem BitReader.align_underrun  (b : BitReader) : (b.align).underrun = b.underrun := rfl
@[simp] theorem BitReader.align_needData  (b : BitReader) : (b.align).needData = b.needData := rfl

/-! ### Raising a cause -/

@[simp] theorem Video.raise_br (c : VideoCause) (v : Video) : (v.raise c).br = v.br := rfl
@[simp] theorem Video.raise_hasSequenceHeader (c : VideoCause) (v : Video) :
    (v.raise c).hasSequenceHeader = v.hasSequenceHeader := rfl
@[simp] theorem Video.raise_width (c : VideoCause) (v : Video) : (v.raise c).width = v.width := rfl
@[simp] theorem Video.raise_height (c : VideoCause) (v : Video) : (v.raise c).height = v.height := rfl
@[simp] theorem Video.raise_aspectRatioIndex (c : VideoCause) (v : Video) :
    (v.raise c).aspectRatioIndex = v.aspectRatioIndex := rfl
@[simp] theorem Video.raise_pictureRateIndex (c : VideoCause) (v : Video) :
    (v.raise c).pictureRateIndex = v.pictureRateIndex := rfl
@[simp] theorem Video.raise_bitRate (c : VideoCause) (v : Video) : (v.raise c).bitRate = v.bitRate := rfl
@[simp] theorem Video.raise_framerate (c : VideoCause) (v : Video) :
    (v.raise c).framerate = v.framerate := rfl
@[simp] theorem Video.raise_mbWidth (c : VideoCause) (v : Video) : (v.raise c).mbWidth = v.mbWidth := rfl
@[simp] theorem Video.raise_mbHeight (c : VideoCause) (v : Video) :
    (v.raise c).mbHeight = v.mbHeight := rfl
@[simp] theorem Video.raise_mbSize (c : VideoCause) (v : Video) : (v.raise c).mbSize = v.mbSize := rfl
@[simp] theorem Video.raise_lumaWidth (c : VideoCause) (v : Video) :
    (v.raise c).lumaWidth = v.lumaWidth := rfl
@[simp] theorem Video.raise_lumaHeight (c : VideoCause) (v : Video) :
    (v.raise c).lumaHeight = v.lumaHeight := rfl
@[simp] theorem Video.raise_chromaWidth (c : VideoCause) (v : Video) :
    (v.raise c).chromaWidth = v.chromaWidth := rfl
@[simp] theorem Video.raise_chromaHeight (c : VideoCause) (v : Video) :
    (v.raise c).chromaHeight = v.chromaHeight := rfl
@[simp] theorem Video.raise_intraQuantMatrix (c : VideoCause) (v : Video) :
    (v.raise c).intraQuantMatrix = v.intraQuantMatrix := rfl
@[simp] theorem Video.raise_nonIntraQuantMatrix (c : VideoCause) (v : Video) :
    (v.raise c).nonIntraQuantMatrix = v.nonIntraQuantMatrix := rfl
@[simp] theorem Video.raise_startCode (c : VideoCause) (v : Video) :
    (v.raise c).startCode = v.startCode := rfl
@[simp] theorem Video.raise_pictureType (c : VideoCause) (v : Video) :
    (v.raise c).pictureType = v.pictureType := rfl
@[simp] theorem Video.raise_mf (c : VideoCause) (v : Video) : (v.raise c).mf = v.mf := rfl
@[simp] theorem Video.raise_mb (c : VideoCause) (v : Video) : (v.raise c).mb = v.mb := rfl
@[simp] theorem Video.raise_quantizerScale (c : VideoCause) (v : Video) :
    (v.raise c).quantizerScale = v.quantizerScale := rfl
@[simp] theorem Video.raise_sliceBegin (c : VideoCause) (v : Video) :
    (v.raise c).sliceBegin = v.sliceBegin := rfl
@[simp] theorem Video.raise_macroblockAddress (c : VideoCause) (v : Video) :
    (v.raise c).macroblockAddress = v.macroblockAddress := rfl
@[simp] theorem Video.raise_mbRow (c : VideoCause) (v : Video) : (v.raise c).mbRow = v.mbRow := rfl
@[simp] theorem Video.raise_mbCol (c : VideoCause) (v : Video) : (v.raise c).mbCol = v.mbCol := rfl
@[simp] theorem Video.raise_macroblockType (c : VideoCause) (v : Video) :
    (v.raise c).macroblockType = v.macroblockType := rfl
@[simp] theorem Video.raise_macroblockIntra (c : VideoCause) (v : Video) :
    (v.raise c).macroblockIntra = v.macroblockIntra := rfl
@[simp] theorem Video.raise_cbp (c : VideoCause) (v : Video) : (v.raise c).cbp = v.cbp := rfl
@[simp] theorem Video.raise_dcPredictor (c : VideoCause) (v : Video) :
    (v.raise c).dcPredictor = v.dcPredictor := rfl
@[simp] theorem Video.raise_blockData (c : VideoCause) (v : Video) :
    (v.raise c).blockData = v.blockData := rfl
@[simp] theorem Video.raise_fb0 (c : VideoCause) (v : Video) : (v.raise c).fb0 = v.fb0 := rfl
@[simp] theorem Video.raise_fb1 (c : VideoCause) (v : Video) : (v.raise c).fb1 = v.fb1 := rfl
@[simp] theorem Video.raise_fb2 (c : VideoCause) (v : Video) : (v.raise c).fb2 = v.fb2 := rfl
@[simp] theorem Video.raise_cur (c : VideoCause) (v : Video) : (v.raise c).cur = v.cur := rfl
@[simp] theorem Video.raise_fwd (c : VideoCause) (v : Video) : (v.raise c).fwd = v.fwd := rfl
@[simp] theorem Video.raise_bwd (c : VideoCause) (v : Video) : (v.raise c).bwd = v.bwd := rfl
@[simp] theorem Video.raise_hasReferenceFrame (c : VideoCause) (v : Video) :
    (v.raise c).hasReferenceFrame = v.hasReferenceFrame := rfl
@[simp] theorem Video.raise_noDelay (c : VideoCause) (v : Video) : (v.raise c).noDelay = v.noDelay := rfl
@[simp] theorem Video.raise_framesDecoded (c : VideoCause) (v : Video) :
    (v.raise c).framesDecoded = v.framesDecoded := rfl
@[simp] theorem Video.raise_time (c : VideoCause) (v : Video) : (v.raise c).time = v.time := rfl
@[simp] theorem Video.raise_outFrame (c : VideoCause) (v : Video) :
    (v.raise c).outFrame = v.outFrame := rfl
@[simp] theorem Video.raise_verr (c : VideoCause) (v : Video) :
    (v.raise c).verr = v.verr ||| (1 <<< (c.code - 0x10)) := rfl
@[simp] theorem Video.raise_verrcnt (c : VideoCause) (v : Video) :
    (v.raise c).verrcnt = countError v.verrcnt := rfl
@[simp] theorem Video.raise_raised (c : VideoCause) (v : Video) : (v.raise c).raised = true := rfl
@[simp] theorem Video.raise_pos (c : VideoCause) (v : Video) : (v.raise c).pos = v.pos := rfl
@[simp] theorem Video.raise_temp (c : VideoCause) (v : Video) : (v.raise c).temp = v.temp := rfl
@[simp] theorem Video.raise_increment (c : VideoCause) (v : Video) :
    (v.raise c).increment = v.increment := rfl
@[simp] theorem Video.raise_block (c : VideoCause) (v : Video) : (v.raise c).block = v.block := rfl
@[simp] theorem Video.raise_coefficientPos (c : VideoCause) (v : Video) :
    (v.raise c).coefficientPos = v.coefficientPos := rfl

@[simp] theorem Audio.raise_br (c : AudioCause) (a : Audio) : (a.raise c).br = a.br := rfl
@[simp] theorem Audio.raise_hasHeader (c : AudioCause) (a : Audio) :
    (a.raise c).hasHeader = a.hasHeader := rfl
@[simp] theorem Audio.raise_version (c : AudioCause) (a : Audio) : (a.raise c).version = a.version := rfl
@[simp] theorem Audio.raise_layer (c : AudioCause) (a : Audio) : (a.raise c).layer = a.layer := rfl
@[simp] theorem Audio.raise_hasCrc (c : AudioCause) (a : Audio) : (a.raise c).hasCrc = a.hasCrc := rfl
@[simp] theorem Audio.raise_bitrateIndex (c : AudioCause) (a : Audio) :
    (a.raise c).bitrateIndex = a.bitrateIndex := rfl
@[simp] theorem Audio.raise_samplerateIndex (c : AudioCause) (a : Audio) :
    (a.raise c).samplerateIndex = a.samplerateIndex := rfl
@[simp] theorem Audio.raise_padding (c : AudioCause) (a : Audio) : (a.raise c).padding = a.padding := rfl
@[simp] theorem Audio.raise_mode (c : AudioCause) (a : Audio) : (a.raise c).mode = a.mode := rfl
@[simp] theorem Audio.raise_modeExtension (c : AudioCause) (a : Audio) :
    (a.raise c).modeExtension = a.modeExtension := rfl
@[simp] theorem Audio.raise_channels (c : AudioCause) (a : Audio) :
    (a.raise c).channels = a.channels := rfl
@[simp] theorem Audio.raise_bound (c : AudioCause) (a : Audio) : (a.raise c).bound = a.bound := rfl
@[simp] theorem Audio.raise_nextFrameDataSize (c : AudioCause) (a : Audio) :
    (a.raise c).nextFrameDataSize = a.nextFrameDataSize := rfl
@[simp] theorem Audio.raise_allocation (c : AudioCause) (a : Audio) :
    (a.raise c).allocation = a.allocation := rfl
@[simp] theorem Audio.raise_scfsi (c : AudioCause) (a : Audio) : (a.raise c).scfsi = a.scfsi := rfl
@[simp] theorem Audio.raise_scalefactor (c : AudioCause) (a : Audio) :
    (a.raise c).scalefactor = a.scalefactor := rfl
@[simp] theorem Audio.raise_sample (c : AudioCause) (a : Audio) : (a.raise c).sample = a.sample := rfl
@[simp] theorem Audio.raise_delay (c : AudioCause) (a : Audio) : (a.raise c).delay = a.delay := rfl
@[simp] theorem Audio.raise_vPos (c : AudioCause) (a : Audio) : (a.raise c).vPos = a.vPos := rfl
@[simp] theorem Audio.raise_out (c : AudioCause) (a : Audio) : (a.raise c).out = a.out := rfl
@[simp] theorem Audio.raise_format (c : AudioCause) (a : Audio) : (a.raise c).format = a.format := rfl
@[simp] theorem Audio.raise_samplesDecoded (c : AudioCause) (a : Audio) :
    (a.raise c).samplesDecoded = a.samplesDecoded := rfl
@[simp] theorem Audio.raise_time (c : AudioCause) (a : Audio) : (a.raise c).time = a.time := rfl
@[simp] theorem Audio.raise_samplesTime (c : AudioCause) (a : Audio) :
    (a.raise c).samplesTime = a.samplesTime := rfl
@[simp] theorem Audio.raise_outValid (c : AudioCause) (a : Audio) :
    (a.raise c).outValid = a.outValid := rfl
@[simp] theorem Audio.raise_aerr (c : AudioCause) (a : Audio) :
    (a.raise c).aerr = a.aerr ||| (1 <<< (c.code - 0x20)) := rfl
@[simp] theorem Audio.raise_aerrcnt (c : AudioCause) (a : Audio) :
    (a.raise c).aerrcnt = countError a.aerrcnt := rfl
@[simp] theorem Audio.raise_raised (c : AudioCause) (a : Audio) : (a.raise c).raised = true := rfl
@[simp] theorem Audio.raise_pos (c : AudioCause) (a : Audio) : (a.raise c).pos = a.pos := rfl

/-! ### Codewords and macroblock positions -/

@[simp] theorem Video.takeCodeword_br (len : Nat) (v : Video) :
    (v.takeCodeword len).br = v.br.takeOnes len := rfl
@[simp] theorem Video.takeCodeword_hasSequenceHeader (len : Nat) (v : Video) :
    (v.takeCodeword len).hasSequenceHeader = v.hasSequenceHeader := rfl
@[simp] theorem Video.takeCodeword_width (len : Nat) (v : Video) :
    (v.takeCodeword len).width = v.width := rfl
@[simp] theorem Video.takeCodeword_height (len : Nat) (v : Video) :
    (v.takeCodeword len).height = v.height := rfl
@[simp] theorem Video.takeCodeword_aspectRatioIndex (len : Nat) (v : Video) :
    (v.takeCodeword len).aspectRatioIndex = v.aspectRatioIndex := rfl
@[simp] theorem Video.takeCodeword_pictureRateIndex (len : Nat) (v : Video) :
    (v.takeCodeword len).pictureRateIndex = v.pictureRateIndex := rfl
@[simp] theorem Video.takeCodeword_bitRate (len : Nat) (v : Video) :
    (v.takeCodeword len).bitRate = v.bitRate := rfl
@[simp] theorem Video.takeCodeword_framerate (len : Nat) (v : Video) :
    (v.takeCodeword len).framerate = v.framerate := rfl
@[simp] theorem Video.takeCodeword_mbWidth (len : Nat) (v : Video) :
    (v.takeCodeword len).mbWidth = v.mbWidth := rfl
@[simp] theorem Video.takeCodeword_mbHeight (len : Nat) (v : Video) :
    (v.takeCodeword len).mbHeight = v.mbHeight := rfl
@[simp] theorem Video.takeCodeword_mbSize (len : Nat) (v : Video) :
    (v.takeCodeword len).mbSize = v.mbSize := rfl
@[simp] theorem Video.takeCodeword_lumaWidth (len : Nat) (v : Video) :
    (v.takeCodeword len).lumaWidth = v.lumaWidth := rfl
@[simp] theorem Video.takeCodeword_lumaHeight (len : Nat) (v : Video) :
    (v.takeCodeword len).lumaHeight = v.lumaHeight := rfl
@[simp] theorem Video.takeCodeword_chromaWidth (len : Nat) (v : Video) :
    (v.takeCodeword len).chromaWidth = v.chromaWidth := rfl
@[simp] theorem Video.takeCodeword_chromaHeight (len : Nat) (v : Video) :
    (v.takeCodeword len).chromaHeight = v.chromaHeight := rfl
@[simp] theorem Video.takeCodeword_intraQuantMatrix (len : Nat) (v : Video) :
    (v.takeCodeword len).intraQuantMatrix = v.intraQuantMatrix := rfl
@[simp] theorem Video.takeCodeword_nonIntraQuantMatrix (len : Nat) (v : Video) :
    (v.takeCodeword len).nonIntraQuantMatrix = v.nonIntraQuantMatrix := rfl
@[simp] theorem Video.takeCodeword_startCode (len : Nat) (v : Video) :
    (v.takeCodeword len).startCode = v.startCode := rfl
@[simp] theorem Video.takeCodeword_pictureType (len : Nat) (v : Video) :
    (v.takeCodeword len).pictureType = v.pictureType := rfl
@[simp] theorem Video.takeCodeword_mf (len : Nat) (v : Video) : (v.takeCodeword len).mf = v.mf := rfl
@[simp] theorem Video.takeCodeword_mb (len : Nat) (v : Video) : (v.takeCodeword len).mb = v.mb := rfl
@[simp] theorem Video.takeCodeword_quantizerScale (len : Nat) (v : Video) :
    (v.takeCodeword len).quantizerScale = v.quantizerScale := rfl
@[simp] theorem Video.takeCodeword_sliceBegin (len : Nat) (v : Video) :
    (v.takeCodeword len).sliceBegin = v.sliceBegin := rfl
@[simp] theorem Video.takeCodeword_macroblockAddress (len : Nat) (v : Video) :
    (v.takeCodeword len).macroblockAddress = v.macroblockAddress := rfl
@[simp] theorem Video.takeCodeword_mbRow (len : Nat) (v : Video) :
    (v.takeCodeword len).mbRow = v.mbRow := rfl
@[simp] theorem Video.takeCodeword_mbCol (len : Nat) (v : Video) :
    (v.takeCodeword len).mbCol = v.mbCol := rfl
@[simp] theorem Video.takeCodeword_macroblockType (len : Nat) (v : Video) :
    (v.takeCodeword len).macroblockType = v.macroblockType := rfl
@[simp] theorem Video.takeCodeword_macroblockIntra (len : Nat) (v : Video) :
    (v.takeCodeword len).macroblockIntra = v.macroblockIntra := rfl
@[simp] theorem Video.takeCodeword_cbp (len : Nat) (v : Video) : (v.takeCodeword len).cbp = v.cbp := rfl
@[simp] theorem Video.takeCodeword_dcPredictor (len : Nat) (v : Video) :
    (v.takeCodeword len).dcPredictor = v.dcPredictor := rfl
@[simp] theorem Video.takeCodeword_blockData (len : Nat) (v : Video) :
    (v.takeCodeword len).blockData = v.blockData := rfl
@[simp] theorem Video.takeCodeword_fb0 (len : Nat) (v : Video) : (v.takeCodeword len).fb0 = v.fb0 := rfl
@[simp] theorem Video.takeCodeword_fb1 (len : Nat) (v : Video) : (v.takeCodeword len).fb1 = v.fb1 := rfl
@[simp] theorem Video.takeCodeword_fb2 (len : Nat) (v : Video) : (v.takeCodeword len).fb2 = v.fb2 := rfl
@[simp] theorem Video.takeCodeword_cur (len : Nat) (v : Video) : (v.takeCodeword len).cur = v.cur := rfl
@[simp] theorem Video.takeCodeword_fwd (len : Nat) (v : Video) : (v.takeCodeword len).fwd = v.fwd := rfl
@[simp] theorem Video.takeCodeword_bwd (len : Nat) (v : Video) : (v.takeCodeword len).bwd = v.bwd := rfl
@[simp] theorem Video.takeCodeword_hasReferenceFrame (len : Nat) (v : Video) :
    (v.takeCodeword len).hasReferenceFrame = v.hasReferenceFrame := rfl
@[simp] theorem Video.takeCodeword_noDelay (len : Nat) (v : Video) :
    (v.takeCodeword len).noDelay = v.noDelay := rfl
@[simp] theorem Video.takeCodeword_framesDecoded (len : Nat) (v : Video) :
    (v.takeCodeword len).framesDecoded = v.framesDecoded := rfl
@[simp] theorem Video.takeCodeword_time (len : Nat) (v : Video) :
    (v.takeCodeword len).time = v.time := rfl
@[simp] theorem Video.takeCodeword_outFrame (len : Nat) (v : Video) :
    (v.takeCodeword len).outFrame = v.outFrame := rfl
@[simp] theorem Video.takeCodeword_verr (len : Nat) (v : Video) :
    (v.takeCodeword len).verr = v.verr := rfl
@[simp] theorem Video.takeCodeword_verrcnt (len : Nat) (v : Video) :
    (v.takeCodeword len).verrcnt = v.verrcnt := rfl
@[simp] theorem Video.takeCodeword_raised (len : Nat) (v : Video) :
    (v.takeCodeword len).raised = v.raised := rfl
@[simp] theorem Video.takeCodeword_pos (len : Nat) (v : Video) : (v.takeCodeword len).pos = v.pos := rfl
@[simp] theorem Video.takeCodeword_temp (len : Nat) (v : Video) :
    (v.takeCodeword len).temp = v.temp := rfl
@[simp] theorem Video.takeCodeword_increment (len : Nat) (v : Video) :
    (v.takeCodeword len).increment = v.increment := rfl
@[simp] theorem Video.takeCodeword_block (len : Nat) (v : Video) :
    (v.takeCodeword len).block = v.block := rfl
@[simp] theorem Video.takeCodeword_coefficientPos (len : Nat) (v : Video) :
    (v.takeCodeword len).coefficientPos = v.coefficientPos := rfl

/-- Inside signed 32 bits the register holds the address (R106). -/
theorem storedAddress_of_fits {x : Int} (h : -2 ^ 31 ≤ x) (k : x < 2 ^ 31) :
    storedAddress x = BitVec.ofInt 32 x := if_pos ⟨h, k⟩

@[simp] theorem Video.locate_br  (v : Video) : (v.locate).br = v.br := rfl
@[simp] theorem Video.locate_hasSequenceHeader  (v : Video) :
    (v.locate).hasSequenceHeader = v.hasSequenceHeader := rfl
@[simp] theorem Video.locate_width  (v : Video) : (v.locate).width = v.width := rfl
@[simp] theorem Video.locate_height  (v : Video) : (v.locate).height = v.height := rfl
@[simp] theorem Video.locate_aspectRatioIndex  (v : Video) :
    (v.locate).aspectRatioIndex = v.aspectRatioIndex := rfl
@[simp] theorem Video.locate_pictureRateIndex  (v : Video) :
    (v.locate).pictureRateIndex = v.pictureRateIndex := rfl
@[simp] theorem Video.locate_bitRate  (v : Video) : (v.locate).bitRate = v.bitRate := rfl
@[simp] theorem Video.locate_framerate  (v : Video) : (v.locate).framerate = v.framerate := rfl
@[simp] theorem Video.locate_mbWidth  (v : Video) : (v.locate).mbWidth = v.mbWidth := rfl
@[simp] theorem Video.locate_mbHeight  (v : Video) : (v.locate).mbHeight = v.mbHeight := rfl
@[simp] theorem Video.locate_mbSize  (v : Video) : (v.locate).mbSize = v.mbSize := rfl
@[simp] theorem Video.locate_lumaWidth  (v : Video) : (v.locate).lumaWidth = v.lumaWidth := rfl
@[simp] theorem Video.locate_lumaHeight  (v : Video) : (v.locate).lumaHeight = v.lumaHeight := rfl
@[simp] theorem Video.locate_chromaWidth  (v : Video) : (v.locate).chromaWidth = v.chromaWidth := rfl
@[simp] theorem Video.locate_chromaHeight  (v : Video) : (v.locate).chromaHeight = v.chromaHeight := rfl
@[simp] theorem Video.locate_intraQuantMatrix  (v : Video) :
    (v.locate).intraQuantMatrix = v.intraQuantMatrix := rfl
@[simp] theorem Video.locate_nonIntraQuantMatrix  (v : Video) :
    (v.locate).nonIntraQuantMatrix = v.nonIntraQuantMatrix := rfl
@[simp] theorem Video.locate_startCode  (v : Video) : (v.locate).startCode = v.startCode := rfl
@[simp] theorem Video.locate_pictureType  (v : Video) : (v.locate).pictureType = v.pictureType := rfl
@[simp] theorem Video.locate_mf  (v : Video) : (v.locate).mf = v.mf := rfl
@[simp] theorem Video.locate_mb  (v : Video) : (v.locate).mb = v.mb := rfl
@[simp] theorem Video.locate_quantizerScale  (v : Video) :
    (v.locate).quantizerScale = v.quantizerScale := rfl
@[simp] theorem Video.locate_sliceBegin  (v : Video) : (v.locate).sliceBegin = v.sliceBegin := rfl
@[simp] theorem Video.locate_macroblockAddress  (v : Video) :
    (v.locate).macroblockAddress = v.macroblockAddress := rfl
@[simp] theorem Video.locate_mbRow  (v : Video) :
    (v.locate).mbRow = BitVec.ofInt 9 (v.macroblockAddress.toInt.tdiv v.mbWidth.toNat) := rfl
@[simp] theorem Video.locate_mbCol  (v : Video) :
    (v.locate).mbCol = BitVec.ofInt 9 (v.macroblockAddress.toInt.tmod v.mbWidth.toNat) := rfl
@[simp] theorem Video.locate_macroblockType  (v : Video) :
    (v.locate).macroblockType = v.macroblockType := rfl
@[simp] theorem Video.locate_macroblockIntra  (v : Video) :
    (v.locate).macroblockIntra = v.macroblockIntra := rfl
@[simp] theorem Video.locate_cbp  (v : Video) : (v.locate).cbp = v.cbp := rfl
@[simp] theorem Video.locate_dcPredictor  (v : Video) : (v.locate).dcPredictor = v.dcPredictor := rfl
@[simp] theorem Video.locate_blockData  (v : Video) : (v.locate).blockData = v.blockData := rfl
@[simp] theorem Video.locate_fb0  (v : Video) : (v.locate).fb0 = v.fb0 := rfl
@[simp] theorem Video.locate_fb1  (v : Video) : (v.locate).fb1 = v.fb1 := rfl
@[simp] theorem Video.locate_fb2  (v : Video) : (v.locate).fb2 = v.fb2 := rfl
@[simp] theorem Video.locate_cur  (v : Video) : (v.locate).cur = v.cur := rfl
@[simp] theorem Video.locate_fwd  (v : Video) : (v.locate).fwd = v.fwd := rfl
@[simp] theorem Video.locate_bwd  (v : Video) : (v.locate).bwd = v.bwd := rfl
@[simp] theorem Video.locate_hasReferenceFrame  (v : Video) :
    (v.locate).hasReferenceFrame = v.hasReferenceFrame := rfl
@[simp] theorem Video.locate_noDelay  (v : Video) : (v.locate).noDelay = v.noDelay := rfl
@[simp] theorem Video.locate_framesDecoded  (v : Video) :
    (v.locate).framesDecoded = v.framesDecoded := rfl
@[simp] theorem Video.locate_time  (v : Video) : (v.locate).time = v.time := rfl
@[simp] theorem Video.locate_outFrame  (v : Video) : (v.locate).outFrame = v.outFrame := rfl
@[simp] theorem Video.locate_verr  (v : Video) : (v.locate).verr = v.verr := rfl
@[simp] theorem Video.locate_verrcnt  (v : Video) : (v.locate).verrcnt = v.verrcnt := rfl
@[simp] theorem Video.locate_raised  (v : Video) : (v.locate).raised = v.raised := rfl
@[simp] theorem Video.locate_pos  (v : Video) : (v.locate).pos = v.pos := rfl
@[simp] theorem Video.locate_temp  (v : Video) : (v.locate).temp = v.temp := rfl
@[simp] theorem Video.locate_increment  (v : Video) : (v.locate).increment = v.increment := rfl
@[simp] theorem Video.locate_block  (v : Video) : (v.locate).block = v.block := rfl
@[simp] theorem Video.locate_coefficientPos  (v : Video) :
    (v.locate).coefficientPos = v.coefficientPos := rfl

/-! ### Frames -/

@[simp] theorem Video.setFrame_br (f : Fin 3) (x : Frame) (v : Video) :
    (v.setFrame f x).br = v.br := by fin_cases f <;> rfl
@[simp] theorem Video.setFrame_hasSequenceHeader (f : Fin 3) (x : Frame) (v : Video) :
    (v.setFrame f x).hasSequenceHeader = v.hasSequenceHeader := by fin_cases f <;> rfl
@[simp] theorem Video.setFrame_width (f : Fin 3) (x : Frame) (v : Video) :
    (v.setFrame f x).width = v.width := by fin_cases f <;> rfl
@[simp] theorem Video.setFrame_height (f : Fin 3) (x : Frame) (v : Video) :
    (v.setFrame f x).height = v.height := by fin_cases f <;> rfl
@[simp] theorem Video.setFrame_aspectRatioIndex (f : Fin 3) (x : Frame) (v : Video) :
    (v.setFrame f x).aspectRatioIndex = v.aspectRatioIndex := by fin_cases f <;> rfl
@[simp] theorem Video.setFrame_pictureRateIndex (f : Fin 3) (x : Frame) (v : Video) :
    (v.setFrame f x).pictureRateIndex = v.pictureRateIndex := by fin_cases f <;> rfl
@[simp] theorem Video.setFrame_bitRate (f : Fin 3) (x : Frame) (v : Video) :
    (v.setFrame f x).bitRate = v.bitRate := by fin_cases f <;> rfl
@[simp] theorem Video.setFrame_framerate (f : Fin 3) (x : Frame) (v : Video) :
    (v.setFrame f x).framerate = v.framerate := by fin_cases f <;> rfl
@[simp] theorem Video.setFrame_mbWidth (f : Fin 3) (x : Frame) (v : Video) :
    (v.setFrame f x).mbWidth = v.mbWidth := by fin_cases f <;> rfl
@[simp] theorem Video.setFrame_mbHeight (f : Fin 3) (x : Frame) (v : Video) :
    (v.setFrame f x).mbHeight = v.mbHeight := by fin_cases f <;> rfl
@[simp] theorem Video.setFrame_mbSize (f : Fin 3) (x : Frame) (v : Video) :
    (v.setFrame f x).mbSize = v.mbSize := by fin_cases f <;> rfl
@[simp] theorem Video.setFrame_lumaWidth (f : Fin 3) (x : Frame) (v : Video) :
    (v.setFrame f x).lumaWidth = v.lumaWidth := by fin_cases f <;> rfl
@[simp] theorem Video.setFrame_lumaHeight (f : Fin 3) (x : Frame) (v : Video) :
    (v.setFrame f x).lumaHeight = v.lumaHeight := by fin_cases f <;> rfl
@[simp] theorem Video.setFrame_chromaWidth (f : Fin 3) (x : Frame) (v : Video) :
    (v.setFrame f x).chromaWidth = v.chromaWidth := by fin_cases f <;> rfl
@[simp] theorem Video.setFrame_chromaHeight (f : Fin 3) (x : Frame) (v : Video) :
    (v.setFrame f x).chromaHeight = v.chromaHeight := by fin_cases f <;> rfl
@[simp] theorem Video.setFrame_intraQuantMatrix (f : Fin 3) (x : Frame) (v : Video) :
    (v.setFrame f x).intraQuantMatrix = v.intraQuantMatrix := by fin_cases f <;> rfl
@[simp] theorem Video.setFrame_nonIntraQuantMatrix (f : Fin 3) (x : Frame) (v : Video) :
    (v.setFrame f x).nonIntraQuantMatrix = v.nonIntraQuantMatrix := by fin_cases f <;> rfl
@[simp] theorem Video.setFrame_startCode (f : Fin 3) (x : Frame) (v : Video) :
    (v.setFrame f x).startCode = v.startCode := by fin_cases f <;> rfl
@[simp] theorem Video.setFrame_pictureType (f : Fin 3) (x : Frame) (v : Video) :
    (v.setFrame f x).pictureType = v.pictureType := by fin_cases f <;> rfl
@[simp] theorem Video.setFrame_mf (f : Fin 3) (x : Frame) (v : Video) :
    (v.setFrame f x).mf = v.mf := by fin_cases f <;> rfl
@[simp] theorem Video.setFrame_mb (f : Fin 3) (x : Frame) (v : Video) :
    (v.setFrame f x).mb = v.mb := by fin_cases f <;> rfl
@[simp] theorem Video.setFrame_quantizerScale (f : Fin 3) (x : Frame) (v : Video) :
    (v.setFrame f x).quantizerScale = v.quantizerScale := by fin_cases f <;> rfl
@[simp] theorem Video.setFrame_sliceBegin (f : Fin 3) (x : Frame) (v : Video) :
    (v.setFrame f x).sliceBegin = v.sliceBegin := by fin_cases f <;> rfl
@[simp] theorem Video.setFrame_macroblockAddress (f : Fin 3) (x : Frame) (v : Video) :
    (v.setFrame f x).macroblockAddress = v.macroblockAddress := by fin_cases f <;> rfl
@[simp] theorem Video.setFrame_mbRow (f : Fin 3) (x : Frame) (v : Video) :
    (v.setFrame f x).mbRow = v.mbRow := by fin_cases f <;> rfl
@[simp] theorem Video.setFrame_mbCol (f : Fin 3) (x : Frame) (v : Video) :
    (v.setFrame f x).mbCol = v.mbCol := by fin_cases f <;> rfl
@[simp] theorem Video.setFrame_macroblockType (f : Fin 3) (x : Frame) (v : Video) :
    (v.setFrame f x).macroblockType = v.macroblockType := by fin_cases f <;> rfl
@[simp] theorem Video.setFrame_macroblockIntra (f : Fin 3) (x : Frame) (v : Video) :
    (v.setFrame f x).macroblockIntra = v.macroblockIntra := by fin_cases f <;> rfl
@[simp] theorem Video.setFrame_cbp (f : Fin 3) (x : Frame) (v : Video) :
    (v.setFrame f x).cbp = v.cbp := by fin_cases f <;> rfl
@[simp] theorem Video.setFrame_dcPredictor (f : Fin 3) (x : Frame) (v : Video) :
    (v.setFrame f x).dcPredictor = v.dcPredictor := by fin_cases f <;> rfl
@[simp] theorem Video.setFrame_blockData (f : Fin 3) (x : Frame) (v : Video) :
    (v.setFrame f x).blockData = v.blockData := by fin_cases f <;> rfl
@[simp] theorem Video.setFrame_cur (f : Fin 3) (x : Frame) (v : Video) :
    (v.setFrame f x).cur = v.cur := by fin_cases f <;> rfl
@[simp] theorem Video.setFrame_fwd (f : Fin 3) (x : Frame) (v : Video) :
    (v.setFrame f x).fwd = v.fwd := by fin_cases f <;> rfl
@[simp] theorem Video.setFrame_bwd (f : Fin 3) (x : Frame) (v : Video) :
    (v.setFrame f x).bwd = v.bwd := by fin_cases f <;> rfl
@[simp] theorem Video.setFrame_hasReferenceFrame (f : Fin 3) (x : Frame) (v : Video) :
    (v.setFrame f x).hasReferenceFrame = v.hasReferenceFrame := by fin_cases f <;> rfl
@[simp] theorem Video.setFrame_noDelay (f : Fin 3) (x : Frame) (v : Video) :
    (v.setFrame f x).noDelay = v.noDelay := by fin_cases f <;> rfl
@[simp] theorem Video.setFrame_framesDecoded (f : Fin 3) (x : Frame) (v : Video) :
    (v.setFrame f x).framesDecoded = v.framesDecoded := by fin_cases f <;> rfl
@[simp] theorem Video.setFrame_time (f : Fin 3) (x : Frame) (v : Video) :
    (v.setFrame f x).time = v.time := by fin_cases f <;> rfl
@[simp] theorem Video.setFrame_outFrame (f : Fin 3) (x : Frame) (v : Video) :
    (v.setFrame f x).outFrame = v.outFrame := by fin_cases f <;> rfl
@[simp] theorem Video.setFrame_verr (f : Fin 3) (x : Frame) (v : Video) :
    (v.setFrame f x).verr = v.verr := by fin_cases f <;> rfl
@[simp] theorem Video.setFrame_verrcnt (f : Fin 3) (x : Frame) (v : Video) :
    (v.setFrame f x).verrcnt = v.verrcnt := by fin_cases f <;> rfl
@[simp] theorem Video.setFrame_raised (f : Fin 3) (x : Frame) (v : Video) :
    (v.setFrame f x).raised = v.raised := by fin_cases f <;> rfl
@[simp] theorem Video.setFrame_pos (f : Fin 3) (x : Frame) (v : Video) :
    (v.setFrame f x).pos = v.pos := by fin_cases f <;> rfl
@[simp] theorem Video.setFrame_temp (f : Fin 3) (x : Frame) (v : Video) :
    (v.setFrame f x).temp = v.temp := by fin_cases f <;> rfl
@[simp] theorem Video.setFrame_increment (f : Fin 3) (x : Frame) (v : Video) :
    (v.setFrame f x).increment = v.increment := by fin_cases f <;> rfl
@[simp] theorem Video.setFrame_block (f : Fin 3) (x : Frame) (v : Video) :
    (v.setFrame f x).block = v.block := by fin_cases f <;> rfl
@[simp] theorem Video.setFrame_coefficientPos (f : Fin 3) (x : Frame) (v : Video) :
    (v.setFrame f x).coefficientPos = v.coefficientPos := by fin_cases f <;> rfl

@[simp] theorem Video.frame_setFrame_same (f : Fin 3) (x : Frame) (v : Video) :
    (v.setFrame f x).frame f = x := by fin_cases f <;> rfl

theorem Video.frame_setFrame_other {f g : Fin 3} (x : Frame) (v : Video) (h : g ≠ f) :
    (v.setFrame f x).frame g = v.frame g := by
  fin_cases f <;> fin_cases g <;> first | rfl | exact absurd rfl h

@[simp] theorem Frame.setPlane_time (p : Plane) (m : Memory) (x : Frame) :
    (x.setPlane p m).time = x.time := by cases p <;> rfl

@[simp] theorem Video.planeWrite_br (f : Fin 3) (p : Plane) (i : Nat) (x : Byte) (v : Video) :
    (v.planeWrite f p i x).br = v.br := Video.setFrame_br ..
@[simp] theorem Video.planeWrite_hasSequenceHeader (f : Fin 3) (p : Plane) (i : Nat) (x : Byte) (v : Video) :
    (v.planeWrite f p i x).hasSequenceHeader = v.hasSequenceHeader := Video.setFrame_hasSequenceHeader ..
@[simp] theorem Video.planeWrite_width (f : Fin 3) (p : Plane) (i : Nat) (x : Byte) (v : Video) :
    (v.planeWrite f p i x).width = v.width := Video.setFrame_width ..
@[simp] theorem Video.planeWrite_height (f : Fin 3) (p : Plane) (i : Nat) (x : Byte) (v : Video) :
    (v.planeWrite f p i x).height = v.height := Video.setFrame_height ..
@[simp] theorem Video.planeWrite_aspectRatioIndex (f : Fin 3) (p : Plane) (i : Nat) (x : Byte) (v : Video) :
    (v.planeWrite f p i x).aspectRatioIndex = v.aspectRatioIndex := Video.setFrame_aspectRatioIndex ..
@[simp] theorem Video.planeWrite_pictureRateIndex (f : Fin 3) (p : Plane) (i : Nat) (x : Byte) (v : Video) :
    (v.planeWrite f p i x).pictureRateIndex = v.pictureRateIndex := Video.setFrame_pictureRateIndex ..
@[simp] theorem Video.planeWrite_bitRate (f : Fin 3) (p : Plane) (i : Nat) (x : Byte) (v : Video) :
    (v.planeWrite f p i x).bitRate = v.bitRate := Video.setFrame_bitRate ..
@[simp] theorem Video.planeWrite_framerate (f : Fin 3) (p : Plane) (i : Nat) (x : Byte) (v : Video) :
    (v.planeWrite f p i x).framerate = v.framerate := Video.setFrame_framerate ..
@[simp] theorem Video.planeWrite_mbWidth (f : Fin 3) (p : Plane) (i : Nat) (x : Byte) (v : Video) :
    (v.planeWrite f p i x).mbWidth = v.mbWidth := Video.setFrame_mbWidth ..
@[simp] theorem Video.planeWrite_mbHeight (f : Fin 3) (p : Plane) (i : Nat) (x : Byte) (v : Video) :
    (v.planeWrite f p i x).mbHeight = v.mbHeight := Video.setFrame_mbHeight ..
@[simp] theorem Video.planeWrite_mbSize (f : Fin 3) (p : Plane) (i : Nat) (x : Byte) (v : Video) :
    (v.planeWrite f p i x).mbSize = v.mbSize := Video.setFrame_mbSize ..
@[simp] theorem Video.planeWrite_lumaWidth (f : Fin 3) (p : Plane) (i : Nat) (x : Byte) (v : Video) :
    (v.planeWrite f p i x).lumaWidth = v.lumaWidth := Video.setFrame_lumaWidth ..
@[simp] theorem Video.planeWrite_lumaHeight (f : Fin 3) (p : Plane) (i : Nat) (x : Byte) (v : Video) :
    (v.planeWrite f p i x).lumaHeight = v.lumaHeight := Video.setFrame_lumaHeight ..
@[simp] theorem Video.planeWrite_chromaWidth (f : Fin 3) (p : Plane) (i : Nat) (x : Byte) (v : Video) :
    (v.planeWrite f p i x).chromaWidth = v.chromaWidth := Video.setFrame_chromaWidth ..
@[simp] theorem Video.planeWrite_chromaHeight (f : Fin 3) (p : Plane) (i : Nat) (x : Byte) (v : Video) :
    (v.planeWrite f p i x).chromaHeight = v.chromaHeight := Video.setFrame_chromaHeight ..
@[simp] theorem Video.planeWrite_intraQuantMatrix (f : Fin 3) (p : Plane) (i : Nat) (x : Byte) (v : Video) :
    (v.planeWrite f p i x).intraQuantMatrix = v.intraQuantMatrix := Video.setFrame_intraQuantMatrix ..
@[simp] theorem Video.planeWrite_nonIntraQuantMatrix (f : Fin 3) (p : Plane) (i : Nat) (x : Byte) (v : Video) :
    (v.planeWrite f p i x).nonIntraQuantMatrix = v.nonIntraQuantMatrix := Video.setFrame_nonIntraQuantMatrix ..
@[simp] theorem Video.planeWrite_startCode (f : Fin 3) (p : Plane) (i : Nat) (x : Byte) (v : Video) :
    (v.planeWrite f p i x).startCode = v.startCode := Video.setFrame_startCode ..
@[simp] theorem Video.planeWrite_pictureType (f : Fin 3) (p : Plane) (i : Nat) (x : Byte) (v : Video) :
    (v.planeWrite f p i x).pictureType = v.pictureType := Video.setFrame_pictureType ..
@[simp] theorem Video.planeWrite_mf (f : Fin 3) (p : Plane) (i : Nat) (x : Byte) (v : Video) :
    (v.planeWrite f p i x).mf = v.mf := Video.setFrame_mf ..
@[simp] theorem Video.planeWrite_mb (f : Fin 3) (p : Plane) (i : Nat) (x : Byte) (v : Video) :
    (v.planeWrite f p i x).mb = v.mb := Video.setFrame_mb ..
@[simp] theorem Video.planeWrite_quantizerScale (f : Fin 3) (p : Plane) (i : Nat) (x : Byte) (v : Video) :
    (v.planeWrite f p i x).quantizerScale = v.quantizerScale := Video.setFrame_quantizerScale ..
@[simp] theorem Video.planeWrite_sliceBegin (f : Fin 3) (p : Plane) (i : Nat) (x : Byte) (v : Video) :
    (v.planeWrite f p i x).sliceBegin = v.sliceBegin := Video.setFrame_sliceBegin ..
@[simp] theorem Video.planeWrite_macroblockAddress (f : Fin 3) (p : Plane) (i : Nat) (x : Byte) (v : Video) :
    (v.planeWrite f p i x).macroblockAddress = v.macroblockAddress := Video.setFrame_macroblockAddress ..
@[simp] theorem Video.planeWrite_mbRow (f : Fin 3) (p : Plane) (i : Nat) (x : Byte) (v : Video) :
    (v.planeWrite f p i x).mbRow = v.mbRow := Video.setFrame_mbRow ..
@[simp] theorem Video.planeWrite_mbCol (f : Fin 3) (p : Plane) (i : Nat) (x : Byte) (v : Video) :
    (v.planeWrite f p i x).mbCol = v.mbCol := Video.setFrame_mbCol ..
@[simp] theorem Video.planeWrite_macroblockType (f : Fin 3) (p : Plane) (i : Nat) (x : Byte) (v : Video) :
    (v.planeWrite f p i x).macroblockType = v.macroblockType := Video.setFrame_macroblockType ..
@[simp] theorem Video.planeWrite_macroblockIntra (f : Fin 3) (p : Plane) (i : Nat) (x : Byte) (v : Video) :
    (v.planeWrite f p i x).macroblockIntra = v.macroblockIntra := Video.setFrame_macroblockIntra ..
@[simp] theorem Video.planeWrite_cbp (f : Fin 3) (p : Plane) (i : Nat) (x : Byte) (v : Video) :
    (v.planeWrite f p i x).cbp = v.cbp := Video.setFrame_cbp ..
@[simp] theorem Video.planeWrite_dcPredictor (f : Fin 3) (p : Plane) (i : Nat) (x : Byte) (v : Video) :
    (v.planeWrite f p i x).dcPredictor = v.dcPredictor := Video.setFrame_dcPredictor ..
@[simp] theorem Video.planeWrite_blockData (f : Fin 3) (p : Plane) (i : Nat) (x : Byte) (v : Video) :
    (v.planeWrite f p i x).blockData = v.blockData := Video.setFrame_blockData ..
@[simp] theorem Video.planeWrite_cur (f : Fin 3) (p : Plane) (i : Nat) (x : Byte) (v : Video) :
    (v.planeWrite f p i x).cur = v.cur := Video.setFrame_cur ..
@[simp] theorem Video.planeWrite_fwd (f : Fin 3) (p : Plane) (i : Nat) (x : Byte) (v : Video) :
    (v.planeWrite f p i x).fwd = v.fwd := Video.setFrame_fwd ..
@[simp] theorem Video.planeWrite_bwd (f : Fin 3) (p : Plane) (i : Nat) (x : Byte) (v : Video) :
    (v.planeWrite f p i x).bwd = v.bwd := Video.setFrame_bwd ..
@[simp] theorem Video.planeWrite_hasReferenceFrame (f : Fin 3) (p : Plane) (i : Nat) (x : Byte) (v : Video) :
    (v.planeWrite f p i x).hasReferenceFrame = v.hasReferenceFrame := Video.setFrame_hasReferenceFrame ..
@[simp] theorem Video.planeWrite_noDelay (f : Fin 3) (p : Plane) (i : Nat) (x : Byte) (v : Video) :
    (v.planeWrite f p i x).noDelay = v.noDelay := Video.setFrame_noDelay ..
@[simp] theorem Video.planeWrite_framesDecoded (f : Fin 3) (p : Plane) (i : Nat) (x : Byte) (v : Video) :
    (v.planeWrite f p i x).framesDecoded = v.framesDecoded := Video.setFrame_framesDecoded ..
@[simp] theorem Video.planeWrite_time (f : Fin 3) (p : Plane) (i : Nat) (x : Byte) (v : Video) :
    (v.planeWrite f p i x).time = v.time := Video.setFrame_time ..
@[simp] theorem Video.planeWrite_outFrame (f : Fin 3) (p : Plane) (i : Nat) (x : Byte) (v : Video) :
    (v.planeWrite f p i x).outFrame = v.outFrame := Video.setFrame_outFrame ..
@[simp] theorem Video.planeWrite_verr (f : Fin 3) (p : Plane) (i : Nat) (x : Byte) (v : Video) :
    (v.planeWrite f p i x).verr = v.verr := Video.setFrame_verr ..
@[simp] theorem Video.planeWrite_verrcnt (f : Fin 3) (p : Plane) (i : Nat) (x : Byte) (v : Video) :
    (v.planeWrite f p i x).verrcnt = v.verrcnt := Video.setFrame_verrcnt ..
@[simp] theorem Video.planeWrite_raised (f : Fin 3) (p : Plane) (i : Nat) (x : Byte) (v : Video) :
    (v.planeWrite f p i x).raised = v.raised := Video.setFrame_raised ..
@[simp] theorem Video.planeWrite_pos (f : Fin 3) (p : Plane) (i : Nat) (x : Byte) (v : Video) :
    (v.planeWrite f p i x).pos = v.pos := Video.setFrame_pos ..
@[simp] theorem Video.planeWrite_temp (f : Fin 3) (p : Plane) (i : Nat) (x : Byte) (v : Video) :
    (v.planeWrite f p i x).temp = v.temp := Video.setFrame_temp ..
@[simp] theorem Video.planeWrite_increment (f : Fin 3) (p : Plane) (i : Nat) (x : Byte) (v : Video) :
    (v.planeWrite f p i x).increment = v.increment := Video.setFrame_increment ..
@[simp] theorem Video.planeWrite_block (f : Fin 3) (p : Plane) (i : Nat) (x : Byte) (v : Video) :
    (v.planeWrite f p i x).block = v.block := Video.setFrame_block ..
@[simp] theorem Video.planeWrite_coefficientPos (f : Fin 3) (p : Plane) (i : Nat) (x : Byte) (v : Video) :
    (v.planeWrite f p i x).coefficientPos = v.coefficientPos := Video.setFrame_coefficientPos ..

/-! ### Audio register files -/

@[simp] theorem Audio.setAllocation_br (x : Option QuantClass) (sb ch : Nat) (a : Audio) :
    (Audio.setAllocation x sb a ch).br = a.br := rfl
@[simp] theorem Audio.setAllocation_hasHeader (x : Option QuantClass) (sb ch : Nat) (a : Audio) :
    (Audio.setAllocation x sb a ch).hasHeader = a.hasHeader := rfl
@[simp] theorem Audio.setAllocation_version (x : Option QuantClass) (sb ch : Nat) (a : Audio) :
    (Audio.setAllocation x sb a ch).version = a.version := rfl
@[simp] theorem Audio.setAllocation_layer (x : Option QuantClass) (sb ch : Nat) (a : Audio) :
    (Audio.setAllocation x sb a ch).layer = a.layer := rfl
@[simp] theorem Audio.setAllocation_hasCrc (x : Option QuantClass) (sb ch : Nat) (a : Audio) :
    (Audio.setAllocation x sb a ch).hasCrc = a.hasCrc := rfl
@[simp] theorem Audio.setAllocation_bitrateIndex (x : Option QuantClass) (sb ch : Nat) (a : Audio) :
    (Audio.setAllocation x sb a ch).bitrateIndex = a.bitrateIndex := rfl
@[simp] theorem Audio.setAllocation_samplerateIndex (x : Option QuantClass) (sb ch : Nat) (a : Audio) :
    (Audio.setAllocation x sb a ch).samplerateIndex = a.samplerateIndex := rfl
@[simp] theorem Audio.setAllocation_padding (x : Option QuantClass) (sb ch : Nat) (a : Audio) :
    (Audio.setAllocation x sb a ch).padding = a.padding := rfl
@[simp] theorem Audio.setAllocation_mode (x : Option QuantClass) (sb ch : Nat) (a : Audio) :
    (Audio.setAllocation x sb a ch).mode = a.mode := rfl
@[simp] theorem Audio.setAllocation_modeExtension (x : Option QuantClass) (sb ch : Nat) (a : Audio) :
    (Audio.setAllocation x sb a ch).modeExtension = a.modeExtension := rfl
@[simp] theorem Audio.setAllocation_channels (x : Option QuantClass) (sb ch : Nat) (a : Audio) :
    (Audio.setAllocation x sb a ch).channels = a.channels := rfl
@[simp] theorem Audio.setAllocation_bound (x : Option QuantClass) (sb ch : Nat) (a : Audio) :
    (Audio.setAllocation x sb a ch).bound = a.bound := rfl
@[simp] theorem Audio.setAllocation_nextFrameDataSize (x : Option QuantClass) (sb ch : Nat) (a : Audio) :
    (Audio.setAllocation x sb a ch).nextFrameDataSize = a.nextFrameDataSize := rfl
@[simp] theorem Audio.setAllocation_allocation (x : Option QuantClass) (sb ch : Nat) (a : Audio) :
    (Audio.setAllocation x sb a ch).allocation = a.allocation.set (bandIndex ch sb) x := rfl
@[simp] theorem Audio.setAllocation_scfsi (x : Option QuantClass) (sb ch : Nat) (a : Audio) :
    (Audio.setAllocation x sb a ch).scfsi = a.scfsi := rfl
@[simp] theorem Audio.setAllocation_scalefactor (x : Option QuantClass) (sb ch : Nat) (a : Audio) :
    (Audio.setAllocation x sb a ch).scalefactor = a.scalefactor := rfl
@[simp] theorem Audio.setAllocation_sample (x : Option QuantClass) (sb ch : Nat) (a : Audio) :
    (Audio.setAllocation x sb a ch).sample = a.sample := rfl
@[simp] theorem Audio.setAllocation_delay (x : Option QuantClass) (sb ch : Nat) (a : Audio) :
    (Audio.setAllocation x sb a ch).delay = a.delay := rfl
@[simp] theorem Audio.setAllocation_vPos (x : Option QuantClass) (sb ch : Nat) (a : Audio) :
    (Audio.setAllocation x sb a ch).vPos = a.vPos := rfl
@[simp] theorem Audio.setAllocation_out (x : Option QuantClass) (sb ch : Nat) (a : Audio) :
    (Audio.setAllocation x sb a ch).out = a.out := rfl
@[simp] theorem Audio.setAllocation_format (x : Option QuantClass) (sb ch : Nat) (a : Audio) :
    (Audio.setAllocation x sb a ch).format = a.format := rfl
@[simp] theorem Audio.setAllocation_samplesDecoded (x : Option QuantClass) (sb ch : Nat) (a : Audio) :
    (Audio.setAllocation x sb a ch).samplesDecoded = a.samplesDecoded := rfl
@[simp] theorem Audio.setAllocation_time (x : Option QuantClass) (sb ch : Nat) (a : Audio) :
    (Audio.setAllocation x sb a ch).time = a.time := rfl
@[simp] theorem Audio.setAllocation_samplesTime (x : Option QuantClass) (sb ch : Nat) (a : Audio) :
    (Audio.setAllocation x sb a ch).samplesTime = a.samplesTime := rfl
@[simp] theorem Audio.setAllocation_outValid (x : Option QuantClass) (sb ch : Nat) (a : Audio) :
    (Audio.setAllocation x sb a ch).outValid = a.outValid := rfl
@[simp] theorem Audio.setAllocation_aerr (x : Option QuantClass) (sb ch : Nat) (a : Audio) :
    (Audio.setAllocation x sb a ch).aerr = a.aerr := rfl
@[simp] theorem Audio.setAllocation_aerrcnt (x : Option QuantClass) (sb ch : Nat) (a : Audio) :
    (Audio.setAllocation x sb a ch).aerrcnt = a.aerrcnt := rfl
@[simp] theorem Audio.setAllocation_raised (x : Option QuantClass) (sb ch : Nat) (a : Audio) :
    (Audio.setAllocation x sb a ch).raised = a.raised := rfl
@[simp] theorem Audio.setAllocation_pos (x : Option QuantClass) (sb ch : Nat) (a : Audio) :
    (Audio.setAllocation x sb a ch).pos = a.pos := rfl

@[simp] theorem Audio.setTriple_br (ch sb : Nat) (xs : List Surd) (a : Audio) :
    (a.setTriple ch sb xs).br = a.br := rfl
@[simp] theorem Audio.setTriple_hasHeader (ch sb : Nat) (xs : List Surd) (a : Audio) :
    (a.setTriple ch sb xs).hasHeader = a.hasHeader := rfl
@[simp] theorem Audio.setTriple_version (ch sb : Nat) (xs : List Surd) (a : Audio) :
    (a.setTriple ch sb xs).version = a.version := rfl
@[simp] theorem Audio.setTriple_layer (ch sb : Nat) (xs : List Surd) (a : Audio) :
    (a.setTriple ch sb xs).layer = a.layer := rfl
@[simp] theorem Audio.setTriple_hasCrc (ch sb : Nat) (xs : List Surd) (a : Audio) :
    (a.setTriple ch sb xs).hasCrc = a.hasCrc := rfl
@[simp] theorem Audio.setTriple_bitrateIndex (ch sb : Nat) (xs : List Surd) (a : Audio) :
    (a.setTriple ch sb xs).bitrateIndex = a.bitrateIndex := rfl
@[simp] theorem Audio.setTriple_samplerateIndex (ch sb : Nat) (xs : List Surd) (a : Audio) :
    (a.setTriple ch sb xs).samplerateIndex = a.samplerateIndex := rfl
@[simp] theorem Audio.setTriple_padding (ch sb : Nat) (xs : List Surd) (a : Audio) :
    (a.setTriple ch sb xs).padding = a.padding := rfl
@[simp] theorem Audio.setTriple_mode (ch sb : Nat) (xs : List Surd) (a : Audio) :
    (a.setTriple ch sb xs).mode = a.mode := rfl
@[simp] theorem Audio.setTriple_modeExtension (ch sb : Nat) (xs : List Surd) (a : Audio) :
    (a.setTriple ch sb xs).modeExtension = a.modeExtension := rfl
@[simp] theorem Audio.setTriple_channels (ch sb : Nat) (xs : List Surd) (a : Audio) :
    (a.setTriple ch sb xs).channels = a.channels := rfl
@[simp] theorem Audio.setTriple_bound (ch sb : Nat) (xs : List Surd) (a : Audio) :
    (a.setTriple ch sb xs).bound = a.bound := rfl
@[simp] theorem Audio.setTriple_nextFrameDataSize (ch sb : Nat) (xs : List Surd) (a : Audio) :
    (a.setTriple ch sb xs).nextFrameDataSize = a.nextFrameDataSize := rfl
@[simp] theorem Audio.setTriple_allocation (ch sb : Nat) (xs : List Surd) (a : Audio) :
    (a.setTriple ch sb xs).allocation = a.allocation := rfl
@[simp] theorem Audio.setTriple_scfsi (ch sb : Nat) (xs : List Surd) (a : Audio) :
    (a.setTriple ch sb xs).scfsi = a.scfsi := rfl
@[simp] theorem Audio.setTriple_scalefactor (ch sb : Nat) (xs : List Surd) (a : Audio) :
    (a.setTriple ch sb xs).scalefactor = a.scalefactor := rfl
@[simp] theorem Audio.setTriple_sample (ch sb : Nat) (xs : List Surd) (a : Audio) :
    (a.setTriple ch sb xs).sample = splice a.sample (3 * bandIndex ch sb) xs := rfl
@[simp] theorem Audio.setTriple_delay (ch sb : Nat) (xs : List Surd) (a : Audio) :
    (a.setTriple ch sb xs).delay = a.delay := rfl
@[simp] theorem Audio.setTriple_vPos (ch sb : Nat) (xs : List Surd) (a : Audio) :
    (a.setTriple ch sb xs).vPos = a.vPos := rfl
@[simp] theorem Audio.setTriple_out (ch sb : Nat) (xs : List Surd) (a : Audio) :
    (a.setTriple ch sb xs).out = a.out := rfl
@[simp] theorem Audio.setTriple_format (ch sb : Nat) (xs : List Surd) (a : Audio) :
    (a.setTriple ch sb xs).format = a.format := rfl
@[simp] theorem Audio.setTriple_samplesDecoded (ch sb : Nat) (xs : List Surd) (a : Audio) :
    (a.setTriple ch sb xs).samplesDecoded = a.samplesDecoded := rfl
@[simp] theorem Audio.setTriple_time (ch sb : Nat) (xs : List Surd) (a : Audio) :
    (a.setTriple ch sb xs).time = a.time := rfl
@[simp] theorem Audio.setTriple_samplesTime (ch sb : Nat) (xs : List Surd) (a : Audio) :
    (a.setTriple ch sb xs).samplesTime = a.samplesTime := rfl
@[simp] theorem Audio.setTriple_outValid (ch sb : Nat) (xs : List Surd) (a : Audio) :
    (a.setTriple ch sb xs).outValid = a.outValid := rfl
@[simp] theorem Audio.setTriple_aerr (ch sb : Nat) (xs : List Surd) (a : Audio) :
    (a.setTriple ch sb xs).aerr = a.aerr := rfl
@[simp] theorem Audio.setTriple_aerrcnt (ch sb : Nat) (xs : List Surd) (a : Audio) :
    (a.setTriple ch sb xs).aerrcnt = a.aerrcnt := rfl
@[simp] theorem Audio.setTriple_raised (ch sb : Nat) (xs : List Surd) (a : Audio) :
    (a.setTriple ch sb xs).raised = a.raised := rfl
@[simp] theorem Audio.setTriple_pos (ch sb : Nat) (xs : List Surd) (a : Audio) :
    (a.setTriple ch sb xs).pos = a.pos := rfl

@[simp] theorem Audio.matrixing_br (k : Nat) (a : Audio) : (a.matrixing k).br = a.br := rfl
@[simp] theorem Audio.matrixing_hasHeader (k : Nat) (a : Audio) :
    (a.matrixing k).hasHeader = a.hasHeader := rfl
@[simp] theorem Audio.matrixing_version (k : Nat) (a : Audio) :
    (a.matrixing k).version = a.version := rfl
@[simp] theorem Audio.matrixing_layer (k : Nat) (a : Audio) : (a.matrixing k).layer = a.layer := rfl
@[simp] theorem Audio.matrixing_hasCrc (k : Nat) (a : Audio) : (a.matrixing k).hasCrc = a.hasCrc := rfl
@[simp] theorem Audio.matrixing_bitrateIndex (k : Nat) (a : Audio) :
    (a.matrixing k).bitrateIndex = a.bitrateIndex := rfl
@[simp] theorem Audio.matrixing_samplerateIndex (k : Nat) (a : Audio) :
    (a.matrixing k).samplerateIndex = a.samplerateIndex := rfl
@[simp] theorem Audio.matrixing_padding (k : Nat) (a : Audio) :
    (a.matrixing k).padding = a.padding := rfl
@[simp] theorem Audio.matrixing_mode (k : Nat) (a : Audio) : (a.matrixing k).mode = a.mode := rfl
@[simp] theorem Audio.matrixing_modeExtension (k : Nat) (a : Audio) :
    (a.matrixing k).modeExtension = a.modeExtension := rfl
@[simp] theorem Audio.matrixing_channels (k : Nat) (a : Audio) :
    (a.matrixing k).channels = a.channels := rfl
@[simp] theorem Audio.matrixing_bound (k : Nat) (a : Audio) : (a.matrixing k).bound = a.bound := rfl
@[simp] theorem Audio.matrixing_nextFrameDataSize (k : Nat) (a : Audio) :
    (a.matrixing k).nextFrameDataSize = a.nextFrameDataSize := rfl
@[simp] theorem Audio.matrixing_allocation (k : Nat) (a : Audio) :
    (a.matrixing k).allocation = a.allocation := rfl
@[simp] theorem Audio.matrixing_scfsi (k : Nat) (a : Audio) : (a.matrixing k).scfsi = a.scfsi := rfl
@[simp] theorem Audio.matrixing_scalefactor (k : Nat) (a : Audio) :
    (a.matrixing k).scalefactor = a.scalefactor := rfl
@[simp] theorem Audio.matrixing_sample (k : Nat) (a : Audio) : (a.matrixing k).sample = a.sample := rfl
@[simp] theorem Audio.matrixing_vPos (k : Nat) (a : Audio) : (a.matrixing k).vPos = a.vPos - 64 := rfl
@[simp] theorem Audio.matrixing_out (k : Nat) (a : Audio) : (a.matrixing k).out = a.out := rfl
@[simp] theorem Audio.matrixing_format (k : Nat) (a : Audio) : (a.matrixing k).format = a.format := rfl
@[simp] theorem Audio.matrixing_samplesDecoded (k : Nat) (a : Audio) :
    (a.matrixing k).samplesDecoded = a.samplesDecoded := rfl
@[simp] theorem Audio.matrixing_time (k : Nat) (a : Audio) : (a.matrixing k).time = a.time := rfl
@[simp] theorem Audio.matrixing_samplesTime (k : Nat) (a : Audio) :
    (a.matrixing k).samplesTime = a.samplesTime := rfl
@[simp] theorem Audio.matrixing_outValid (k : Nat) (a : Audio) :
    (a.matrixing k).outValid = a.outValid := rfl
@[simp] theorem Audio.matrixing_aerr (k : Nat) (a : Audio) : (a.matrixing k).aerr = a.aerr := rfl
@[simp] theorem Audio.matrixing_aerrcnt (k : Nat) (a : Audio) :
    (a.matrixing k).aerrcnt = a.aerrcnt := rfl
@[simp] theorem Audio.matrixing_raised (k : Nat) (a : Audio) : (a.matrixing k).raised = a.raised := rfl
@[simp] theorem Audio.matrixing_pos (k : Nat) (a : Audio) : (a.matrixing k).pos = a.pos := rfl

@[simp] theorem Audio.synthesisStep_br (part granule k : Nat) (a : Audio) :
    (a.synthesisStep part granule k).br = a.br := rfl
@[simp] theorem Audio.synthesisStep_hasHeader (part granule k : Nat) (a : Audio) :
    (a.synthesisStep part granule k).hasHeader = a.hasHeader := rfl
@[simp] theorem Audio.synthesisStep_version (part granule k : Nat) (a : Audio) :
    (a.synthesisStep part granule k).version = a.version := rfl
@[simp] theorem Audio.synthesisStep_layer (part granule k : Nat) (a : Audio) :
    (a.synthesisStep part granule k).layer = a.layer := rfl
@[simp] theorem Audio.synthesisStep_hasCrc (part granule k : Nat) (a : Audio) :
    (a.synthesisStep part granule k).hasCrc = a.hasCrc := rfl
@[simp] theorem Audio.synthesisStep_bitrateIndex (part granule k : Nat) (a : Audio) :
    (a.synthesisStep part granule k).bitrateIndex = a.bitrateIndex := rfl
@[simp] theorem Audio.synthesisStep_samplerateIndex (part granule k : Nat) (a : Audio) :
    (a.synthesisStep part granule k).samplerateIndex = a.samplerateIndex := rfl
@[simp] theorem Audio.synthesisStep_padding (part granule k : Nat) (a : Audio) :
    (a.synthesisStep part granule k).padding = a.padding := rfl
@[simp] theorem Audio.synthesisStep_mode (part granule k : Nat) (a : Audio) :
    (a.synthesisStep part granule k).mode = a.mode := rfl
@[simp] theorem Audio.synthesisStep_modeExtension (part granule k : Nat) (a : Audio) :
    (a.synthesisStep part granule k).modeExtension = a.modeExtension := rfl
@[simp] theorem Audio.synthesisStep_channels (part granule k : Nat) (a : Audio) :
    (a.synthesisStep part granule k).channels = a.channels := rfl
@[simp] theorem Audio.synthesisStep_bound (part granule k : Nat) (a : Audio) :
    (a.synthesisStep part granule k).bound = a.bound := rfl
@[simp] theorem Audio.synthesisStep_nextFrameDataSize (part granule k : Nat) (a : Audio) :
    (a.synthesisStep part granule k).nextFrameDataSize = a.nextFrameDataSize := rfl
@[simp] theorem Audio.synthesisStep_allocation (part granule k : Nat) (a : Audio) :
    (a.synthesisStep part granule k).allocation = a.allocation := rfl
@[simp] theorem Audio.synthesisStep_scfsi (part granule k : Nat) (a : Audio) :
    (a.synthesisStep part granule k).scfsi = a.scfsi := rfl
@[simp] theorem Audio.synthesisStep_scalefactor (part granule k : Nat) (a : Audio) :
    (a.synthesisStep part granule k).scalefactor = a.scalefactor := rfl
@[simp] theorem Audio.synthesisStep_sample (part granule k : Nat) (a : Audio) :
    (a.synthesisStep part granule k).sample = a.sample := rfl
@[simp] theorem Audio.synthesisStep_delay (part granule k : Nat) (a : Audio) :
    (a.synthesisStep part granule k).delay = (a.matrixing k).delay := rfl
@[simp] theorem Audio.synthesisStep_vPos (part granule k : Nat) (a : Audio) :
    (a.synthesisStep part granule k).vPos = a.vPos - 64 := rfl
@[simp] theorem Audio.synthesisStep_format (part granule k : Nat) (a : Audio) :
    (a.synthesisStep part granule k).format = a.format := rfl
@[simp] theorem Audio.synthesisStep_samplesDecoded (part granule k : Nat) (a : Audio) :
    (a.synthesisStep part granule k).samplesDecoded = a.samplesDecoded := rfl
@[simp] theorem Audio.synthesisStep_time (part granule k : Nat) (a : Audio) :
    (a.synthesisStep part granule k).time = a.time := rfl
@[simp] theorem Audio.synthesisStep_samplesTime (part granule k : Nat) (a : Audio) :
    (a.synthesisStep part granule k).samplesTime = a.samplesTime := rfl
@[simp] theorem Audio.synthesisStep_outValid (part granule k : Nat) (a : Audio) :
    (a.synthesisStep part granule k).outValid = a.outValid := rfl
@[simp] theorem Audio.synthesisStep_aerr (part granule k : Nat) (a : Audio) :
    (a.synthesisStep part granule k).aerr = a.aerr := rfl
@[simp] theorem Audio.synthesisStep_aerrcnt (part granule k : Nat) (a : Audio) :
    (a.synthesisStep part granule k).aerrcnt = a.aerrcnt := rfl
@[simp] theorem Audio.synthesisStep_raised (part granule k : Nat) (a : Audio) :
    (a.synthesisStep part granule k).raised = a.raised := rfl
@[simp] theorem Audio.synthesisStep_pos (part granule k : Nat) (a : Audio) :
    (a.synthesisStep part granule k).pos = a.pos := rfl

end Sys2Proof.Machine
end

