-- ==== Sys2Proof/Laws/Reader.lean ====
section
/-! SUPPORT. What the bit-reader primitives can do: each moves the cursor forward inside the store (but for
the searches that restore it) and may set the three flags; the bytes, the end mark and the discard flag
stay. One relation says so, and one lemma per primitive. -/

namespace Sys2Proof.Machine

/-- What every primitive does at most (R116, R402, R403): nothing but the cursor and the flags changes, no
flag is cleared, and a cursor inside the store stays inside. -/
structure BitReader.Follows (b c : BitReader) : Prop where
  bytes : c.bytes = b.bytes
  totalSize : c.totalSize = b.totalSize
  discardRead : c.discardRead = b.discardRead
  ended : b.ended = true → c.ended = true
  needData : b.needData = true → c.needData = true
  underrun : b.underrun = true → c.underrun = true
  cursor : b.bitIndex ≤ c.bitIndex
  inStore : b.cursorInStore = true → c.cursorInStore = true

theorem BitReader.Follows.refl (b : BitReader) : b.Follows b :=
  ⟨rfl, rfl, rfl, id, id, id, le_rfl, id⟩

theorem BitReader.Follows.trans {b c d : BitReader} (h : b.Follows c) (k : c.Follows d) : b.Follows d :=
  ⟨k.bytes.trans h.bytes, k.totalSize.trans h.totalSize, k.discardRead.trans h.discardRead,
    k.ended ∘ h.ended, k.needData ∘ h.needData, k.underrun ∘ h.underrun, h.cursor.trans k.cursor,
    k.inStore ∘ h.inStore⟩

/-- The cursor lies in the store. -/
theorem BitReader.cursorInStore_iff (b : BitReader) :
    b.cursorInStore = true ↔ b.bitIndex ≤ 8 * b.bytes.length := by
  exact decide_eq_true_iff

theorem BitReader.short_follows (b : BitReader) : b.Follows b.short :=
  ⟨rfl, rfl, rfl, fun h => by simp [h], fun _ => rfl, id, le_rfl, id⟩

/-- A cursor moved forward inside the store. -/
theorem BitReader.Follows.move {b : BitReader} {n : Nat} (h : b.bitIndex ≤ n)
    (k : b.bitIndex ≤ 8 * b.bytes.length → n ≤ 8 * b.bytes.length) :
    b.Follows { b with bitIndex := n } :=
  ⟨rfl, rfl, rfl, id, id, id, h, fun s => (cursorInStore_iff _).2 (k ((cursorInStore_iff b).1 s))⟩

/-- `has` (R402). -/
theorem BitReader.has_follows (n : Nat) (b : BitReader) : b.Follows (b.has n).2 := by
  unfold BitReader.has
  split
  · exact .refl b
  · exact b.short_follows

/-- What `has` answers (R402). -/
theorem BitReader.has_fst (n : Nat) (b : BitReader) : (b.has n).1 = decide (n ≤ b.avail) := by
  unfold BitReader.has
  split <;> simp [*]

/-- `has` leaves the cursor (R402). -/
@[simp] theorem BitReader.has_bitIndex (n : Nat) (b : BitReader) : (b.has n).2.bitIndex = b.bitIndex := by
  unfold BitReader.has
  split <;> rfl

/-- A `has` that holds changes nothing (R402). -/
theorem BitReader.has_snd_of_le {n : Nat} {b : BitReader} (h : n ≤ b.avail) : b.has n = (true, b) := by
  unfold BitReader.has
  rw [if_pos h]

/-- `read` and `skip` on the reader (R403, R406). -/
theorem BitReader.take_follows (n : Nat) (b : BitReader) : b.Follows (b.take n) := by
  unfold BitReader.take
  split
  · exact .refl b
  · split
    · rename_i h
      refine .move (by omega) fun k => ?_
      simp only [BitReader.avail, BitReader.length] at h
      omega
    · exact ⟨rfl, rfl, rfl, fun h => by simp [h], fun _ => rfl, fun _ => rfl, le_rfl, id⟩

/-- Where a field is stored, `take` moves the cursor by its width (R403). -/
theorem BitReader.take_of_le {n : Nat} {b : BitReader} (h : n ≤ b.avail) :
    b.take n = { b with bitIndex := b.bitIndex + n } := by
  unfold BitReader.take
  split
  · subst n; rfl
  · simp

theorem BitReader.read_snd (n : Nat) (b : BitReader) : (b.read n).2 = b.take n := rfl

theorem BitReader.read_follows (n : Nat) (b : BitReader) : b.Follows (b.read n).2 := b.take_follows n

theorem BitReader.takeOnes_follows (n : Nat) (b : BitReader) : b.Follows (b.takeOnes n) := by
  induction n generalizing b with
  | zero => exact .refl b
  | succ n ih => exact (b.take_follows 1).trans (ih _)

/-- Where a codeword is stored, its bits are consumed (R409). -/
theorem BitReader.takeOnes_of_le {n : Nat} {b : BitReader} (h : n ≤ b.avail) :
    b.takeOnes n = { b with bitIndex := b.bitIndex + n } := by
  induction n generalizing b with
  | zero => rfl
  | succ n ih =>
    have k : (b.take 1).bitIndex = b.bitIndex + 1 := by rw [take_of_le (by omega)]
    have e : (b.take 1).avail = b.avail - 1 := by
      rw [take_of_le (by omega)]
      simp only [BitReader.avail, BitReader.length]
      omega
    rw [BitReader.takeOnes, ih (by omega), take_of_le (by omega)]
    simp [Nat.add_assoc, Nat.add_comm 1 n]

theorem BitReader.takeFields_follows (l : List Nat) (b : BitReader) : b.Follows (b.takeFields l) := by
  unfold BitReader.takeFields
  induction l generalizing b with
  | nil => exact .refl b
  | cons n l ih => exact (b.take_follows n).trans (ih _)

/-- Where a row of fields is stored, its bits are consumed: no field under-runs (R403). -/
theorem BitReader.takeFields_of_le {l : List Nat} {b : BitReader} (h : l.sum ≤ b.avail) :
    b.takeFields l = { b with bitIndex := b.bitIndex + l.sum } := by
  unfold BitReader.takeFields
  induction l generalizing b with
  | nil => rfl
  | cons n l ih =>
    rw [List.sum_cons] at h ⊢
    have e := take_of_le (n := n) (b := b) (by omega)
    have k : l.sum ≤ (b.take n).avail := by
      rw [e]
      simp only [BitReader.avail, BitReader.length] at h ⊢
      omega
    rw [List.foldl_cons, ih k, e]
    simp [Nat.add_assoc]

theorem BitReader.takeFields_append (l m : List Nat) (b : BitReader) :
    b.takeFields (l ++ m) = (b.takeFields l).takeFields m := by
  simp [BitReader.takeFields]

/-- `peek_nonzero` (R404). -/
theorem BitReader.peekNonzero_snd (n : Nat) (b : BitReader) : (b.peekNonzero n).2 = (b.has n).2 := rfl

theorem BitReader.peekNonzero_follows (n : Nat) (b : BitReader) : b.Follows (b.peekNonzero n).2 :=
  b.has_follows n

/-- `align` (R405). -/
theorem BitReader.align_follows (b : BitReader) : b.Follows b.align :=
  .move (by omega) fun h => by omega

theorem BitReader.skipEqual_follows (v : Byte) (k : Nat) (b : BitReader) :
    b.Follows (BitReader.skipEqual v k b).2 := by
  induction k generalizing b with
  | zero => exact .refl b
  | succ k ih =>
    unfold BitReader.skipEqual BitReader.has
    by_cases h : 8 ≤ b.avail
    · simp only [h, if_true, Bool.true_and]
      split
      · refine .trans (.move (by omega) fun j => ?_) (ih _)
        simp only [BitReader.avail, BitReader.length] at h
        omega
      · exact .refl b
    · simp only [h, if_false, Bool.false_and]
      exact b.short_follows

/-- `skip_bytes` (R406). -/
theorem BitReader.skipBytes_follows (v : Byte) (b : BitReader) : b.Follows (b.skipBytes v).2 :=
  b.align_follows.trans (skipEqual_follows v _ _)

/-- A field that reads as anything but 0 is stored (R403). -/
theorem BitReader.le_avail_of_read {n x : Nat} {b : BitReader} (h : (b.read n).1 = x) (k : x ≠ 0) :
    n ≤ b.avail := by
  by_contra m
  exact k (by simp [← h, BitReader.read, m])

/-- Where `skip_bytes` stops before a stored byte, bytes written behind change nothing of it (R406, R1162). -/
theorem BitReader.skipEqual_append {v : Byte} {k m : Nat} {b : BitReader} (bytes : List Byte) (ended : Bool)
    (room : b.avail < 8 * k) (more : k ≤ m) (stored : 8 ≤ (BitReader.skipEqual v k b).2.avail) :
    BitReader.skipEqual v m { b with bytes := b.bytes ++ bytes, ended := ended } =
      ((BitReader.skipEqual v k b).1,
        { (BitReader.skipEqual v k b).2 with bytes := b.bytes ++ bytes, ended := ended }) := by
  induction k generalizing b m with
  | zero => omega
  | succ k ih =>
    obtain ⟨m, rfl⟩ : ∃ j, m = j + 1 := ⟨m - 1, by omega⟩
    have first : 8 ≤ b.avail := by
      by_contra n
      simp only [BitReader.skipEqual, BitReader.has, n, if_false, Bool.false_and, Bool.false_eq_true] at stored
      exact n stored
    have long : 8 ≤ BitReader.avail { b with bytes := b.bytes ++ bytes, ended := ended } := by
      simp only [BitReader.avail, BitReader.length, List.length_append] at first ⊢
      omega
    have same : BitReader.byteAt { b with bytes := b.bytes ++ bytes, ended := ended } (b.bitIndex / 8) =
        b.byteAt (b.bitIndex / 8) := by
      simp only [BitReader.avail, BitReader.length] at first
      simp only [BitReader.byteAt]
      exact List.getD_append _ _ _ _ (by omega)
    simp only [BitReader.skipEqual, has_snd_of_le first, has_snd_of_le long, same, Bool.true_and] at stored ⊢
    by_cases e : (b.byteAt (b.bitIndex / 8) == v) = true
    · simp only [e, if_true] at stored ⊢
      have r : BitReader.avail { b with bitIndex := b.bitIndex + 8 } < 8 * k := by
        simp only [BitReader.avail, BitReader.length] at room first ⊢
        omega
      rw [ih r (by omega) stored]
    · simp only [e, if_false, Bool.false_eq_true]

/-- The same of `skip_bytes` whole (R406, R1162). -/
theorem BitReader.skipBytes_append {v : Byte} {b : BitReader} (bytes : List Byte) (ended : Bool)
    (stored : 8 ≤ (b.skipBytes v).2.avail) :
    BitReader.skipBytes v { b with bytes := b.bytes ++ bytes, ended := ended } =
      ((b.skipBytes v).1, { (b.skipBytes v).2 with bytes := b.bytes ++ bytes, ended := ended }) :=
  skipEqual_append (b := b.align) bytes ended
    (by simp only [BitReader.avail, BitReader.length, BitReader.align]; omega)
    (by simp only [BitReader.length, List.length_append]; omega) stored

/-- `skip_bytes` stands on a byte boundary (R406). -/
theorem BitReader.skipEqual_aligned {v : Byte} {k : Nat} {b : BitReader} (h : 8 ∣ b.bitIndex) :
    8 ∣ (BitReader.skipEqual v k b).2.bitIndex := by
  induction k generalizing b with
  | zero => exact h
  | succ k ih =>
    simp only [BitReader.skipEqual]
    split
    · exact ih (b := { b with bitIndex := b.bitIndex + 8 }) (by dsimp only; omega)
    · simpa using h

/-- Before a stored byte, `skip_bytes` has changed the cursor only, and does no more there (R406). -/
theorem BitReader.skipEqual_again {v : Byte} {k m : Nat} {b : BitReader} (room : b.avail < 8 * k)
    (stored : 8 ≤ (BitReader.skipEqual v k b).2.avail) :
    BitReader.skipEqual v (m + 1) (BitReader.skipEqual v k b).2 = (0, (BitReader.skipEqual v k b).2) ∧
      (BitReader.skipEqual v k b).2 = { b with bitIndex := (BitReader.skipEqual v k b).2.bitIndex } := by
  induction k generalizing b with
  | zero => omega
  | succ k ih =>
    have first : 8 ≤ b.avail := by
      by_contra n
      simp only [BitReader.skipEqual, BitReader.has, n, if_false, Bool.false_and, Bool.false_eq_true] at stored
      exact n stored
    by_cases e : (b.byteAt (b.bitIndex / 8) == v) = true
    · have r : BitReader.avail { b with bitIndex := b.bitIndex + 8 } < 8 * k := by
        simp only [BitReader.avail, BitReader.length] at room first ⊢
        omega
      simp only [BitReader.skipEqual, has_snd_of_le first, e, Bool.true_and, if_true] at stored ⊢
      exact ih r stored
    · rw [show BitReader.skipEqual v (k + 1) b = (0, b) by
        simp [BitReader.skipEqual, has_snd_of_le first, e]]
      exact ⟨by simp [BitReader.skipEqual, has_snd_of_le first, e], rfl⟩

/-- Where `skip_bytes` stops before a stored byte, only the cursor has moved (R406). -/
theorem BitReader.skipBytes_of_stored {v : Byte} {b : BitReader} (stored : 8 ≤ (b.skipBytes v).2.avail) :
    (b.skipBytes v).2 = { b with bitIndex := (b.skipBytes v).2.bitIndex } :=
  (skipEqual_again (b := b.align) (m := 0)
    (by simp only [BitReader.avail, BitReader.length, BitReader.align]; omega) stored).2

/-- There it skips nothing more (R406). -/
theorem BitReader.skipBytes_again {v : Byte} {b : BitReader} (stored : 8 ≤ (b.skipBytes v).2.avail) :
    ((b.skipBytes v).2.skipBytes v).2 = (b.skipBytes v).2 := by
  have r : b.align.avail < 8 * (b.length + 1) := by
    simp only [BitReader.avail, BitReader.length, BitReader.align]; omega
  have al : (b.skipBytes v).2.align = (b.skipBytes v).2 := by
    have d : 8 ∣ (b.skipBytes v).2.bitIndex :=
      skipEqual_aligned (b := b.align) (by simp only [BitReader.align]; omega)
    have e : 8 * (((b.skipBytes v).2.bitIndex + 7) / 8) = (b.skipBytes v).2.bitIndex := by omega
    simp only [BitReader.align, e]
  rw [BitReader.skipBytes, al]
  exact (Prod.ext_iff.1 (skipEqual_again (b := b.align) r stored).1).2

theorem BitReader.seek_follows (k : Nat) (b : BitReader) : b.Follows (BitReader.seek k b).2 := by
  induction k generalizing b with
  | zero => exact b.short_follows
  | succ k ih =>
    unfold BitReader.seek BitReader.has
    by_cases h : 40 ≤ b.avail
    · simp only [h, if_true, Bool.not_true, if_false, Bool.false_eq_true]
      split
      · exact .refl b
      · refine .trans (.move (by omega) fun j => ?_) (ih _)
        simp only [BitReader.avail, BitReader.length] at h
        omega
    · simp only [h, if_false, Bool.not_false, if_true]
      exact b.short_follows

/-- A start code that a search has found has its four bytes and a fifth one stored (R407). -/
theorem BitReader.seek_found {k : Nat} {b c : BitReader} {x : Byte}
    (h : BitReader.seek k b = (some x, c)) : 40 ≤ c.avail := by
  induction k generalizing b with
  | zero => simp [BitReader.seek] at h
  | succ k ih =>
    unfold BitReader.seek BitReader.has at h
    by_cases a : 40 ≤ b.avail
    · simp only [a, if_true, Bool.not_true, if_false, Bool.false_eq_true] at h
      split at h
      · obtain ⟨-, rfl⟩ := Prod.mk.inj h
        exact a
      · exact ih h
    · simp [a] at h

theorem BitReader.seekStartCode_follows (b : BitReader) : b.Follows b.seekStartCode.2 :=
  b.align_follows.trans (seek_follows _ _)

/-- `next_start_code` (R407). -/
theorem BitReader.nextStartCode_follows (b : BitReader) : b.Follows b.nextStartCode.2 := by
  unfold BitReader.nextStartCode
  have h := b.seekStartCode_follows
  split <;> rename_i e <;> rw [e] at h
  · dsimp only at h ⊢
    exact h.trans (take_follows _ _)
  · exact h

theorem BitReader.findLoop_follows (c : Byte) (k : Nat) (b : BitReader) :
    b.Follows (BitReader.findLoop c k b).2 := by
  induction k generalizing b with
  | zero => exact .refl b
  | succ k ih =>
    unfold BitReader.findLoop
    have h := b.nextStartCode_follows
    split <;> rename_i e <;> rw [e] at h
    · split
      · exact h
      · exact h.trans (ih _)
    · exact h

/-- `find_start_code` (R408). -/
theorem BitReader.findStartCode_follows (c : Byte) (b : BitReader) : b.Follows (b.findStartCode c).2 :=
  findLoop_follows c _ b

/-- `has_start_code` (R411): the cursor and the discard flag are those before it. -/
theorem BitReader.hasStartCode_follows (c : Byte) (b : BitReader) : b.Follows (b.hasStartCode c).2 := by
  have h := findStartCode_follows c { b with discardRead := false }
  refine ⟨h.bytes, h.totalSize, rfl, h.ended, h.needData, h.underrun, le_rfl, fun k => ?_⟩
  rw [cursorInStore_iff] at *
  show b.bitIndex ≤ 8 * (BitReader.findStartCode c { b with discardRead := false }).2.bytes.length
  rw [h.bytes]
  exact k

@[simp] theorem BitReader.hasStartCode_bitIndex (c : Byte) (b : BitReader) :
    (b.hasStartCode c).2.bitIndex = b.bitIndex := rfl

theorem BitReader.syncFrom_spec {b : BitReader} {k i j : Nat} (h : b.syncFrom k i = some j) :
    i ≤ j ∧ j + 1 < b.bytes.length ∧ b.frameSyncAt j = true := by
  induction k generalizing i with
  | zero => simp [BitReader.syncFrom] at h
  | succ k ih =>
    unfold BitReader.syncFrom at h
    split at h
    · simp at h
    · rename_i hl
      split at h
      · rename_i hs
        obtain rfl := Option.some.inj h
        simp only [BitReader.length] at hl
        exact ⟨le_rfl, by omega, hs⟩
      · have := ih h
        exact ⟨by omega, this.2⟩

/-- `find_frame_sync` (R412). -/
theorem BitReader.findFrameSync_follows (b : BitReader) : b.Follows b.findFrameSync.2 := by
  unfold BitReader.findFrameSync
  split
  · rename_i i h
    have := syncFrom_spec h
    exact .move (by omega) fun k => by omega
  · simp only
    split
    · rename_i h
      simp only [BitReader.length] at h
      exact .move (le_max_left _ _) fun k => by simp only [BitReader.length]; omega
    · exact .refl b

/-- A syncword found lies before the cursor, all 11 bits of it (R412). -/
theorem BitReader.findFrameSync_found {b : BitReader} (h : b.findFrameSync.1 = true) :
    11 ≤ b.findFrameSync.2.bitIndex := by
  unfold BitReader.findFrameSync at h ⊢
  split at h
  · simp only
    omega
  · cases h

/-- Compaction keeps the cursor inside the store (R203). -/
theorem BitReader.compact_inStore {b : BitReader} (h : b.cursorInStore = true) :
    b.compact.cursorInStore = true := by
  rw [cursorInStore_iff] at *
  simp only [BitReader.compact, List.length_drop]
  omega

/-- A host write keeps the cursor inside the store (R1153). -/
theorem BitReader.write_inStore (bytes : List Byte) {b : BitReader} (h : b.cursorInStore = true) :
    (b.write bytes).cursorInStore = true := by
  have k : (if b.discardRead then b.compact else b).cursorInStore = true := by
    split
    · exact compact_inStore h
    · exact h
  unfold BitReader.write
  dsimp only
  generalize (if b.discardRead = true then b.compact else b) = c at k ⊢
  split
  · rw [cursorInStore_iff] at *
    simp only [List.length_append]
    omega
  · exact h

/-- A rewind puts the cursor to 0 (R1302). -/
@[simp] theorem BitReader.rewind_bitIndex (b : BitReader) : b.rewind.bitIndex = 0 := by
  unfold BitReader.rewind
  split <;> rfl

/-- A length fits the store where it is at most the capacity (R1153, D2). -/
theorem fitsCapacity_iff (n : Nat) : fitsCapacity n = true ↔ n ≤ Config.bitstoreCapacity := by
  unfold fitsCapacity
  rw [Bool.or_eq_true, decide_eq_true_iff, decide_eq_true_iff]
  unfold Config.bitstoreCapacity
  omega

end Sys2Proof.Machine
end

