-- ==== Sys2Proof/Laws/Rows.lean ====
section
/-! SUPPORT. Every row of the video stream as one of seventeen shared operations: a statement about all the
rows splits into one case per operation instead of one per row. -/

namespace Sys2Proof.Machine

/-- The shared operations of the video rows, with what a row gives each. -/
inductive VideoEffect where
  | startCode (x : Byte)
  | sequenceHeader (h : SequenceHeader)
  | pictureHeader (h : PictureHeader)
  | sliceHeader (h : SliceHeader)
  | address (len t : Nat)
  | stuffing (len : Nat)
  | addressEscape (len : Nat)
  | type (len : Nat) (t : BitVec 5)
  | pattern (len : Nat) (p : BitVec 6)
  | motionZero (len : Nat)
  | motion (len m : Nat) (sign : Bool)
  | dcSize (len z : Nat)
  | endOfBlock (len : Nat)
  | coefficient (len run level : Nat) (sign : Bool)
  | escape (len : Nat)
  | completedEscape (len : Nat) (widths : List Nat) (run : BitVec 6) (level : Int)
  | reserved (len : Nat)
  deriving DecidableEq

/-- What a shared operation does to the engine. -/
def VideoEffect.apply : VideoEffect → Video → Video
  | .startCode x => .startCodeRow x
  | .sequenceHeader h => .sequenceHeaderRow h
  | .pictureHeader h => .pictureHeaderRow h
  | .sliceHeader h => .sliceHeaderRow h
  | .address len t => .addressRow len t
  | .stuffing len => .stuffingRow len
  | .addressEscape len => .addressEscapeRow len
  | .type len t => .typeRow len t
  | .pattern len p => .patternRow len p
  | .motionZero len => .motionZeroRow len
  | .motion len m sign => .motionRow len m sign
  | .dcSize len z => .dcSizeRow len z
  | .endOfBlock len => .endOfBlockRow len
  | .coefficient len run level sign => .coefficientRow len run level sign
  | .escape len => .escapeRow len
  | .completedEscape len widths run level => .completedEscapeRow len widths run level
  | .reserved len => .reservedRow len

/-- The shared operation of a row; none for a host command and for an audio header. -/
def videoEffect : Instr → Option VideoEffect
  | .vwrite _ => none
  | .vsignalEnd => none
  | .vdecode => none
  | .vrewind => none
  | .vframeRead _ _ => none
  | .awrite _ => none
  | .asignalEnd => none
  | .adecode => none
  | .arewind => none
  | .asamplesRead _ => none
  | .csrRead _ => none
  | .csrWrite _ _ => none
  | .pictureStart => some (.startCode 0x00)
  | .userDataStart => some (.startCode 0xB2)
  | .sequenceHeaderStart => some (.startCode 0xB3)
  | .sequenceError => some (.startCode 0xB4)
  | .extensionStart => some (.startCode 0xB5)
  | .sequenceEnd => some (.startCode 0xB7)
  | .groupStart => some (.startCode 0xB8)
  | .reservedB0 => some (.startCode 0xB0)
  | .reservedB1 => some (.startCode 0xB1)
  | .reservedB6 => some (.startCode 0xB6)
  | .iso11172End => some (.startCode 0xB9)
  | .packStart => some (.startCode 0xBA)
  | .systemHeaderStart => some (.startCode 0xBB)
  | .sliceStart v => some (.startCode v)
  | .streamIdStart v => some (.startCode v)
  | .sequenceHeader h => some (.sequenceHeader h)
  | .pictureHeader h => some (.pictureHeader h)
  | .sliceHeader h => some (.sliceHeader h)
  | .mp2Header _ => none
  | .mp2SyncOther _ => none
  | .motion0 => some (.motionZero 1)
  | .motion1 b => some (.motion 2 1 b)
  | .motion2 b => some (.motion 3 2 b)
  | .motion3 b => some (.motion 4 3 b)
  | .motion4 b => some (.motion 6 4 b)
  | .motion5 b => some (.motion 7 5 b)
  | .motion6 b => some (.motion 7 6 b)
  | .motion7 b => some (.motion 7 7 b)
  | .motion8 b => some (.motion 9 8 b)
  | .motion9 b => some (.motion 9 9 b)
  | .motion10 b => some (.motion 9 10 b)
  | .motion11 b => some (.motion 10 11 b)
  | .motion12 b => some (.motion 10 12 b)
  | .motion13 b => some (.motion 10 13 b)
  | .motion14 b => some (.motion 10 14 b)
  | .motion15 b => some (.motion 10 15 b)
  | .motion16 b => some (.motion 10 16 b)
  | .dctEob => some (.endOfBlock 2)
  | .dctFirstR0L1 b => some (.coefficient 1 0 1 b)
  | .dctNextR0L1 b => some (.coefficient 2 0 1 b)
  | .dctEscape => some (.escape 6)
  | .dctR1L1 b => some (.coefficient 3 1 1 b)
  | .dctR0L2 b => some (.coefficient 4 0 2 b)
  | .dctR2L1 b => some (.coefficient 4 2 1 b)
  | .dctR0L3 b => some (.coefficient 5 0 3 b)
  | .dctR3L1 b => some (.coefficient 5 3 1 b)
  | .dctR4L1 b => some (.coefficient 5 4 1 b)
  | .dctR1L2 b => some (.coefficient 6 1 2 b)
  | .dctR5L1 b => some (.coefficient 6 5 1 b)
  | .dctR6L1 b => some (.coefficient 6 6 1 b)
  | .dctR7L1 b => some (.coefficient 6 7 1 b)
  | .dctR0L4 b => some (.coefficient 7 0 4 b)
  | .dctR2L2 b => some (.coefficient 7 2 2 b)
  | .dctR8L1 b => some (.coefficient 7 8 1 b)
  | .dctR9L1 b => some (.coefficient 7 9 1 b)
  | .dctR0L5 b => some (.coefficient 8 0 5 b)
  | .dctR0L6 b => some (.coefficient 8 0 6 b)
  | .dctR1L3 b => some (.coefficient 8 1 3 b)
  | .dctR3L2 b => some (.coefficient 8 3 2 b)
  | .dctR10L1 b => some (.coefficient 8 10 1 b)
  | .dctR11L1 b => some (.coefficient 8 11 1 b)
  | .dctR12L1 b => some (.coefficient 8 12 1 b)
  | .dctR13L1 b => some (.coefficient 8 13 1 b)
  | .dctR0L7 b => some (.coefficient 10 0 7 b)
  | .dctR1L4 b => some (.coefficient 10 1 4 b)
  | .dctR2L3 b => some (.coefficient 10 2 3 b)
  | .dctR4L2 b => some (.coefficient 10 4 2 b)
  | .dctR5L2 b => some (.coefficient 10 5 2 b)
  | .dctR14L1 b => some (.coefficient 10 14 1 b)
  | .dctR15L1 b => some (.coefficient 10 15 1 b)
  | .dctR16L1 b => some (.coefficient 10 16 1 b)
  | .dctR0L8 b => some (.coefficient 12 0 8 b)
  | .dctR0L9 b => some (.coefficient 12 0 9 b)
  | .dctR0L10 b => some (.coefficient 12 0 10 b)
  | .dctR0L11 b => some (.coefficient 12 0 11 b)
  | .dctR1L5 b => some (.coefficient 12 1 5 b)
  | .dctR2L4 b => some (.coefficient 12 2 4 b)
  | .dctR3L3 b => some (.coefficient 12 3 3 b)
  | .dctR4L3 b => some (.coefficient 12 4 3 b)
  | .dctR6L2 b => some (.coefficient 12 6 2 b)
  | .dctR7L2 b => some (.coefficient 12 7 2 b)
  | .dctR8L2 b => some (.coefficient 12 8 2 b)
  | .dctR17L1 b => some (.coefficient 12 17 1 b)
  | .dctR18L1 b => some (.coefficient 12 18 1 b)
  | .dctR19L1 b => some (.coefficient 12 19 1 b)
  | .dctR20L1 b => some (.coefficient 12 20 1 b)
  | .dctR21L1 b => some (.coefficient 12 21 1 b)
  | .dctR0L12 b => some (.coefficient 13 0 12 b)
  | .dctR0L13 b => some (.coefficient 13 0 13 b)
  | .dctR0L14 b => some (.coefficient 13 0 14 b)
  | .dctR0L15 b => some (.coefficient 13 0 15 b)
  | .dctR1L6 b => some (.coefficient 13 1 6 b)
  | .dctR1L7 b => some (.coefficient 13 1 7 b)
  | .dctR2L5 b => some (.coefficient 13 2 5 b)
  | .dctR3L4 b => some (.coefficient 13 3 4 b)
  | .dctR5L3 b => some (.coefficient 13 5 3 b)
  | .dctR9L2 b => some (.coefficient 13 9 2 b)
  | .dctR10L2 b => some (.coefficient 13 10 2 b)
  | .dctR22L1 b => some (.coefficient 13 22 1 b)
  | .dctR23L1 b => some (.coefficient 13 23 1 b)
  | .dctR24L1 b => some (.coefficient 13 24 1 b)
  | .dctR25L1 b => some (.coefficient 13 25 1 b)
  | .dctR26L1 b => some (.coefficient 13 26 1 b)
  | .dctR0L16 b => some (.coefficient 14 0 16 b)
  | .dctR0L17 b => some (.coefficient 14 0 17 b)
  | .dctR0L18 b => some (.coefficient 14 0 18 b)
  | .dctR0L19 b => some (.coefficient 14 0 19 b)
  | .dctR0L20 b => some (.coefficient 14 0 20 b)
  | .dctR0L21 b => some (.coefficient 14 0 21 b)
  | .dctR0L22 b => some (.coefficient 14 0 22 b)
  | .dctR0L23 b => some (.coefficient 14 0 23 b)
  | .dctR0L24 b => some (.coefficient 14 0 24 b)
  | .dctR0L25 b => some (.coefficient 14 0 25 b)
  | .dctR0L26 b => some (.coefficient 14 0 26 b)
  | .dctR0L27 b => some (.coefficient 14 0 27 b)
  | .dctR0L28 b => some (.coefficient 14 0 28 b)
  | .dctR0L29 b => some (.coefficient 14 0 29 b)
  | .dctR0L30 b => some (.coefficient 14 0 30 b)
  | .dctR0L31 b => some (.coefficient 14 0 31 b)
  | .dctR0L32 b => some (.coefficient 15 0 32 b)
  | .dctR0L33 b => some (.coefficient 15 0 33 b)
  | .dctR0L34 b => some (.coefficient 15 0 34 b)
  | .dctR0L35 b => some (.coefficient 15 0 35 b)
  | .dctR0L36 b => some (.coefficient 15 0 36 b)
  | .dctR0L37 b => some (.coefficient 15 0 37 b)
  | .dctR0L38 b => some (.coefficient 15 0 38 b)
  | .dctR0L39 b => some (.coefficient 15 0 39 b)
  | .dctR0L40 b => some (.coefficient 15 0 40 b)
  | .dctR1L8 b => some (.coefficient 15 1 8 b)
  | .dctR1L9 b => some (.coefficient 15 1 9 b)
  | .dctR1L10 b => some (.coefficient 15 1 10 b)
  | .dctR1L11 b => some (.coefficient 15 1 11 b)
  | .dctR1L12 b => some (.coefficient 15 1 12 b)
  | .dctR1L13 b => some (.coefficient 15 1 13 b)
  | .dctR1L14 b => some (.coefficient 15 1 14 b)
  | .dctR1L15 b => some (.coefficient 16 1 15 b)
  | .dctR1L16 b => some (.coefficient 16 1 16 b)
  | .dctR1L17 b => some (.coefficient 16 1 17 b)
  | .dctR1L18 b => some (.coefficient 16 1 18 b)
  | .dctR6L3 b => some (.coefficient 16 6 3 b)
  | .dctR11L2 b => some (.coefficient 16 11 2 b)
  | .dctR12L2 b => some (.coefficient 16 12 2 b)
  | .dctR13L2 b => some (.coefficient 16 13 2 b)
  | .dctR14L2 b => some (.coefficient 16 14 2 b)
  | .dctR15L2 b => some (.coefficient 16 15 2 b)
  | .dctR16L2 b => some (.coefficient 16 16 2 b)
  | .dctR27L1 b => some (.coefficient 16 27 1 b)
  | .dctR28L1 b => some (.coefficient 16 28 1 b)
  | .dctR29L1 b => some (.coefficient 16 29 1 b)
  | .dctR30L1 b => some (.coefficient 16 30 1 b)
  | .dctR31L1 b => some (.coefficient 16 31 1 b)
  | .dctEscapeShort r l => some (.completedEscape 6 [6, 8] r (shortLevel l))
  | .dctEscapeLongPos r l => some (.completedEscape 6 [6, 8, 8] r (longPositiveLevel l))
  | .dctEscapeLongNeg r l => some (.completedEscape 6 [6, 8, 8] r (longNegativeLevel l))
  | .mba1 => some (.address 1 1)
  | .mba2 => some (.address 3 2)
  | .mba3 => some (.address 3 3)
  | .mba4 => some (.address 4 4)
  | .mba5 => some (.address 4 5)
  | .mba6 => some (.address 5 6)
  | .mba7 => some (.address 5 7)
  | .mba8 => some (.address 7 8)
  | .mba9 => some (.address 7 9)
  | .mba10 => some (.address 8 10)
  | .mba11 => some (.address 8 11)
  | .mba12 => some (.address 8 12)
  | .mba13 => some (.address 8 13)
  | .mba14 => some (.address 8 14)
  | .mba15 => some (.address 8 15)
  | .mba16 => some (.address 10 16)
  | .mba17 => some (.address 10 17)
  | .mba18 => some (.address 10 18)
  | .mba19 => some (.address 10 19)
  | .mba20 => some (.address 10 20)
  | .mba21 => some (.address 10 21)
  | .mba22 => some (.address 11 22)
  | .mba23 => some (.address 11 23)
  | .mba24 => some (.address 11 24)
  | .mba25 => some (.address 11 25)
  | .mba26 => some (.address 11 26)
  | .mba27 => some (.address 11 27)
  | .mba28 => some (.address 11 28)
  | .mba29 => some (.address 11 29)
  | .mba30 => some (.address 11 30)
  | .mba31 => some (.address 11 31)
  | .mba32 => some (.address 11 32)
  | .mba33 => some (.address 11 33)
  | .mbaStuffing => some (.stuffing 11)
  | .mbaEscape => some (.addressEscape 11)
  | .mbtI01 => some (.type 1 0x01)
  | .mbtI11 => some (.type 2 0x11)
  | .mbtP0A => some (.type 1 0x0A)
  | .mbtP02 => some (.type 2 0x02)
  | .mbtP08 => some (.type 3 0x08)
  | .mbtP01 => some (.type 5 0x01)
  | .mbtP1A => some (.type 5 0x1A)
  | .mbtP12 => some (.type 5 0x12)
  | .mbtP11 => some (.type 6 0x11)
  | .mbtB0C => some (.type 2 0x0C)
  | .mbtB0E => some (.type 2 0x0E)
  | .mbtB04 => some (.type 3 0x04)
  | .mbtB06 => some (.type 3 0x06)
  | .mbtB08 => some (.type 4 0x08)
  | .mbtB0A => some (.type 4 0x0A)
  | .mbtB01 => some (.type 5 0x01)
  | .mbtB1E => some (.type 5 0x1E)
  | .mbtB1A => some (.type 6 0x1A)
  | .mbtB16 => some (.type 6 0x16)
  | .mbtB11 => some (.type 6 0x11)
  | .cbp60 => some (.pattern 3 60)
  | .cbp4 => some (.pattern 4 4)
  | .cbp8 => some (.pattern 4 8)
  | .cbp16 => some (.pattern 4 16)
  | .cbp32 => some (.pattern 4 32)
  | .cbp12 => some (.pattern 5 12)
  | .cbp48 => some (.pattern 5 48)
  | .cbp20 => some (.pattern 5 20)
  | .cbp40 => some (.pattern 5 40)
  | .cbp28 => some (.pattern 5 28)
  | .cbp44 => some (.pattern 5 44)
  | .cbp52 => some (.pattern 5 52)
  | .cbp56 => some (.pattern 5 56)
  | .cbp1 => some (.pattern 5 1)
  | .cbp61 => some (.pattern 5 61)
  | .cbp2 => some (.pattern 5 2)
  | .cbp62 => some (.pattern 5 62)
  | .cbp24 => some (.pattern 6 24)
  | .cbp36 => some (.pattern 6 36)
  | .cbp3 => some (.pattern 6 3)
  | .cbp63 => some (.pattern 6 63)
  | .cbp5 => some (.pattern 7 5)
  | .cbp9 => some (.pattern 7 9)
  | .cbp17 => some (.pattern 7 17)
  | .cbp33 => some (.pattern 7 33)
  | .cbp6 => some (.pattern 7 6)
  | .cbp10 => some (.pattern 7 10)
  | .cbp18 => some (.pattern 7 18)
  | .cbp34 => some (.pattern 7 34)
  | .cbp7 => some (.pattern 8 7)
  | .cbp11 => some (.pattern 8 11)
  | .cbp19 => some (.pattern 8 19)
  | .cbp35 => some (.pattern 8 35)
  | .cbp13 => some (.pattern 8 13)
  | .cbp49 => some (.pattern 8 49)
  | .cbp21 => some (.pattern 8 21)
  | .cbp41 => some (.pattern 8 41)
  | .cbp14 => some (.pattern 8 14)
  | .cbp50 => some (.pattern 8 50)
  | .cbp22 => some (.pattern 8 22)
  | .cbp42 => some (.pattern 8 42)
  | .cbp15 => some (.pattern 8 15)
  | .cbp51 => some (.pattern 8 51)
  | .cbp23 => some (.pattern 8 23)
  | .cbp43 => some (.pattern 8 43)
  | .cbp25 => some (.pattern 8 25)
  | .cbp37 => some (.pattern 8 37)
  | .cbp26 => some (.pattern 8 26)
  | .cbp38 => some (.pattern 8 38)
  | .cbp29 => some (.pattern 8 29)
  | .cbp45 => some (.pattern 8 45)
  | .cbp53 => some (.pattern 8 53)
  | .cbp57 => some (.pattern 8 57)
  | .cbp30 => some (.pattern 8 30)
  | .cbp46 => some (.pattern 8 46)
  | .cbp54 => some (.pattern 8 54)
  | .cbp58 => some (.pattern 8 58)
  | .cbp31 => some (.pattern 9 31)
  | .cbp47 => some (.pattern 9 47)
  | .cbp55 => some (.pattern 9 55)
  | .cbp59 => some (.pattern 9 59)
  | .cbp27 => some (.pattern 9 27)
  | .cbp39 => some (.pattern 9 39)
  | .dcSizeY0 => some (.dcSize 3 0)
  | .dcSizeY1 => some (.dcSize 2 1)
  | .dcSizeY2 => some (.dcSize 2 2)
  | .dcSizeY3 => some (.dcSize 3 3)
  | .dcSizeY4 => some (.dcSize 3 4)
  | .dcSizeY5 => some (.dcSize 4 5)
  | .dcSizeY6 => some (.dcSize 5 6)
  | .dcSizeY7 => some (.dcSize 6 7)
  | .dcSizeY8 => some (.dcSize 7 8)
  | .dcSizeC0 => some (.dcSize 2 0)
  | .dcSizeC1 => some (.dcSize 2 1)
  | .dcSizeC2 => some (.dcSize 2 2)
  | .dcSizeC3 => some (.dcSize 3 3)
  | .dcSizeC4 => some (.dcSize 4 4)
  | .dcSizeC5 => some (.dcSize 5 5)
  | .dcSizeC6 => some (.dcSize 6 6)
  | .dcSizeC7 => some (.dcSize 7 7)
  | .dcSizeC8 => some (.dcSize 8 8)
  | .mbaReserved1 => some (.reserved 8)
  | .mbaReserved2 => some (.reserved 11)
  | .mbaReserved3 => some (.reserved 10)
  | .mbaReserved4 => some (.reserved 10)
  | .mbaReserved5 => some (.reserved 11)
  | .mbaReserved6 => some (.reserved 8)
  | .mbtIReserved => some (.reserved 2)
  | .mbtPReserved => some (.reserved 6)
  | .mbtBReserved => some (.reserved 6)
  | .cbpReserved => some (.reserved 8)
  | .motionReserved1 => some (.reserved 7)
  | .motionReserved2 => some (.reserved 8)
  | .dctDcYReserved => some (.reserved 7)
  | .dctDcCReserved => some (.reserved 8)
  | .dctReserved => some (.reserved 12)

/-- A video row's meaning is its shared operation. -/
theorem exec_eq_videoRow {i : Instr} {e : VideoEffect} (h : videoEffect i = some e) (s : State) :
    exec i s = videoRow e.apply s := by
  cases i <;> cases h <;> rfl

/-- Inside a decode command a video row has the same meaning. -/
theorem runRow_eq_videoRow {i : Instr} {e : VideoEffect} (h : videoEffect i = some e) (s : State) :
    runRow i s = videoRow e.apply s := by
  cases i <;> cases h <;> rfl

/-- A video row answers a next state. -/
theorem exec_videoRow_next {i : Instr} {e : VideoEffect} (h : videoEffect i = some e) (s : State) :
    exec i s = .next (deliverVideo { s with v := e.apply s.v }) := by
  rw [exec_eq_videoRow h]; rfl

/-- The rows of an elementary stream mean the same to `exec` and inside a decode command. -/
theorem runRow_eq_exec (i : Instr) (h : i.positions ≠ []) (s : State) : runRow i s = exec i s := by
  cases i <;> first | rfl | exact absurd rfl h

end Sys2Proof.Machine
end

