-- ==== Sys2Proof/Laws/Memory.lean ====
section
/-! SUPPORT. The laws of plane memory: a write keeps the canonical form, a read after it gives what was
written there and what was there before everywhere else; and the same for the planes of the frames. -/

namespace Sys2Proof.Machine

theorem Memory.wf_tail {c : Host.Cell} {m : Memory} (h : Memory.wf (c :: m)) : Memory.wf m := by
  cases m with
  | nil => rfl
  | cons d t => simp only [Memory.wf, Bool.and_eq_true] at h; exact h.2

theorem Memory.wf_cons_write {k i : Nat} {y x : Byte} {m : Memory} (h : Memory.wf ((k, y) :: m))
    (hki : k < i) (ih : Memory.wf (Memory.write m i x)) :
    Memory.wf ((k, y) :: Memory.write m i x) := by
  cases m with
  | nil => simp [Memory.write, Memory.wf, hki]
  | cons d t =>
    obtain ⟨j, z⟩ := d
    simp only [Memory.wf, Bool.and_eq_true, decide_eq_true_eq] at h
    simp only [Memory.write] at ih ⊢
    split at ih <;> rename_i h1
    · simp only [h1, if_true, Memory.wf, Bool.and_eq_true, decide_eq_true_eq] at ih ⊢
      exact ⟨hki, ih⟩
    · split at ih <;> rename_i h2
      · subst h2; simp only [h1, if_false, if_true, Memory.wf, Bool.and_eq_true, decide_eq_true_eq] at ih ⊢
        cases t with
        | nil => exact ⟨hki, rfl⟩
        | cons e t => exact ⟨hki, ih⟩
      · simp only [h1, h2, if_false] at ih ⊢
        simp only [Memory.wf, Bool.and_eq_true, decide_eq_true_eq]
        exact ⟨h.1, ih⟩

/-- A write keeps the canonical form. -/
theorem Memory.wf_write (m : Memory) (i : Nat) (x : Byte) (h : Memory.wf m) :
    Memory.wf (Memory.write m i x) := by
  induction m with
  | nil => rfl
  | cons c t ih =>
    obtain ⟨k, y⟩ := c
    rcases Nat.lt_trichotomy i k with hlt | heq | hgt
    · simp [Memory.write, hlt, Memory.wf, h]
    · subst heq
      cases t with
      | nil => simp [Memory.write, Memory.wf]
      | cons d t => simpa [Memory.write, Memory.wf] using h
    · have hw := Memory.wf_cons_write (x := x) h hgt (ih (Memory.wf_tail h))
      simpa [Memory.write, Nat.not_lt.mpr hgt.le, hgt.ne'] using hw

/-- A read after a write to the same index. -/
@[simp] theorem Memory.read_write_same (m : Memory) (i : Nat) (x : Byte) :
    Memory.read (Memory.write m i x) i = some x := by
  induction m with
  | nil => simp [Memory.write, Memory.read]
  | cons c t ih =>
    obtain ⟨k, y⟩ := c
    by_cases h1 : i < k
    · simp [Memory.write, Memory.read, h1]
    · by_cases h2 : i = k
      · simp [Memory.write, Memory.read, h2]
      · simp [Memory.write, Memory.read, h1, h2, ih]

/-- A read after a write elsewhere. -/
theorem Memory.read_write_other (m : Memory) {i j : Nat} (x : Byte) (h : j ≠ i) :
    Memory.read (Memory.write m i x) j = Memory.read m j := by
  induction m with
  | nil => simp [Memory.write, Memory.read, h]
  | cons c t ih =>
    obtain ⟨k, y⟩ := c
    by_cases h1 : i < k
    · simp [Memory.write, Memory.read, h1, h]
    · by_cases h2 : i = k
      · subst h2; simp [Memory.write, Memory.read, h]
      · simp [Memory.write, Memory.read, h1, h2, ih]

/-- A written sample reads as written. -/
@[simp] theorem Video.planeRead_planeWrite_same (v : Video) (f : Fin 3) (p : Plane) (i : Nat) (x : Byte) :
    (v.planeWrite f p i x).planeRead f p i = x := by
  fin_cases f <;> cases p <;>
    simp [Video.planeWrite, Video.planeRead, Video.setFrame, Video.frame, Frame.setPlane, Frame.plane]

/-- Every other sample of every frame reads as before. -/
theorem Video.planeRead_planeWrite_other (v : Video) {f g : Fin 3} {p q : Plane} {i j : Nat} (x : Byte)
    (h : (g, q, j) ≠ (f, p, i)) : (v.planeWrite f p i x).planeRead g q j = v.planeRead g q j := by
  have key : ∀ m : Memory, j ≠ i → Memory.read (Memory.write m i x) j = Memory.read m j :=
    fun m hj => Memory.read_write_other m x hj
  fin_cases f <;> fin_cases g <;> cases p <;> cases q <;>
    simp_all [Video.planeWrite, Video.planeRead, Video.setFrame, Video.frame, Frame.setPlane, Frame.plane]

/-- Reset's frame memory is in its canonical form. -/
theorem reset_frames_wf : State.reset.v.fb0.wf ∧ State.reset.v.fb1.wf ∧ State.reset.v.fb2.wf := by decide

end Sys2Proof.Machine
end

