-- ==== Sys2Proof/Laws/Samples.lean ====
section
/-! SUPPORT. What prediction and reconstruction do: they write samples of the current frame and raise
causes, and leave every other field alone; and a row of writes at distinct indices reads back as
written. -/

namespace Sys2Proof.Machine

/-! ### Nothing but samples and causes -/

/-- The two states differ in samples and raised causes only. -/
def Video.SamplesOnly (v w : Video) : Prop :=
  w = { v with
    fb0 := w.fb0, fb1 := w.fb1, fb2 := w.fb2, verr := w.verr, verrcnt := w.verrcnt, raised := w.raised }

theorem Video.SamplesOnly.br {v w : Video} (h : v.SamplesOnly w) : w.br = v.br := by rw [h]
theorem Video.SamplesOnly.hasSequenceHeader {v w : Video} (h : v.SamplesOnly w) : w.hasSequenceHeader = v.hasSequenceHeader := by rw [h]
theorem Video.SamplesOnly.width {v w : Video} (h : v.SamplesOnly w) : w.width = v.width := by rw [h]
theorem Video.SamplesOnly.height {v w : Video} (h : v.SamplesOnly w) : w.height = v.height := by rw [h]
theorem Video.SamplesOnly.aspectRatioIndex {v w : Video} (h : v.SamplesOnly w) : w.aspectRatioIndex = v.aspectRatioIndex := by rw [h]
theorem Video.SamplesOnly.pictureRateIndex {v w : Video} (h : v.SamplesOnly w) : w.pictureRateIndex = v.pictureRateIndex := by rw [h]
theorem Video.SamplesOnly.bitRate {v w : Video} (h : v.SamplesOnly w) : w.bitRate = v.bitRate := by rw [h]
theorem Video.SamplesOnly.framerate {v w : Video} (h : v.SamplesOnly w) : w.framerate = v.framerate := by rw [h]
theorem Video.SamplesOnly.mbWidth {v w : Video} (h : v.SamplesOnly w) : w.mbWidth = v.mbWidth := by rw [h]
theorem Video.SamplesOnly.mbHeight {v w : Video} (h : v.SamplesOnly w) : w.mbHeight = v.mbHeight := by rw [h]
theorem Video.SamplesOnly.mbSize {v w : Video} (h : v.SamplesOnly w) : w.mbSize = v.mbSize := by rw [h]
theorem Video.SamplesOnly.lumaWidth {v w : Video} (h : v.SamplesOnly w) : w.lumaWidth = v.lumaWidth := by rw [h]
theorem Video.SamplesOnly.lumaHeight {v w : Video} (h : v.SamplesOnly w) : w.lumaHeight = v.lumaHeight := by rw [h]
theorem Video.SamplesOnly.chromaWidth {v w : Video} (h : v.SamplesOnly w) : w.chromaWidth = v.chromaWidth := by rw [h]
theorem Video.SamplesOnly.chromaHeight {v w : Video} (h : v.SamplesOnly w) : w.chromaHeight = v.chromaHeight := by rw [h]
theorem Video.SamplesOnly.intraQuantMatrix {v w : Video} (h : v.SamplesOnly w) : w.intraQuantMatrix = v.intraQuantMatrix := by rw [h]
theorem Video.SamplesOnly.nonIntraQuantMatrix {v w : Video} (h : v.SamplesOnly w) : w.nonIntraQuantMatrix = v.nonIntraQuantMatrix := by rw [h]
theorem Video.SamplesOnly.startCode {v w : Video} (h : v.SamplesOnly w) : w.startCode = v.startCode := by rw [h]
theorem Video.SamplesOnly.pictureType {v w : Video} (h : v.SamplesOnly w) : w.pictureType = v.pictureType := by rw [h]
theorem Video.SamplesOnly.mf {v w : Video} (h : v.SamplesOnly w) : w.mf = v.mf := by rw [h]
theorem Video.SamplesOnly.mb {v w : Video} (h : v.SamplesOnly w) : w.mb = v.mb := by rw [h]
theorem Video.SamplesOnly.quantizerScale {v w : Video} (h : v.SamplesOnly w) : w.quantizerScale = v.quantizerScale := by rw [h]
theorem Video.SamplesOnly.sliceBegin {v w : Video} (h : v.SamplesOnly w) : w.sliceBegin = v.sliceBegin := by rw [h]
theorem Video.SamplesOnly.macroblockAddress {v w : Video} (h : v.SamplesOnly w) : w.macroblockAddress = v.macroblockAddress := by rw [h]
theorem Video.SamplesOnly.mbRow {v w : Video} (h : v.SamplesOnly w) : w.mbRow = v.mbRow := by rw [h]
theorem Video.SamplesOnly.mbCol {v w : Video} (h : v.SamplesOnly w) : w.mbCol = v.mbCol := by rw [h]
theorem Video.SamplesOnly.macroblockType {v w : Video} (h : v.SamplesOnly w) : w.macroblockType = v.macroblockType := by rw [h]
theorem Video.SamplesOnly.macroblockIntra {v w : Video} (h : v.SamplesOnly w) : w.macroblockIntra = v.macroblockIntra := by rw [h]
theorem Video.SamplesOnly.cbp {v w : Video} (h : v.SamplesOnly w) : w.cbp = v.cbp := by rw [h]
theorem Video.SamplesOnly.dcPredictor {v w : Video} (h : v.SamplesOnly w) : w.dcPredictor = v.dcPredictor := by rw [h]
theorem Video.SamplesOnly.blockData {v w : Video} (h : v.SamplesOnly w) : w.blockData = v.blockData := by rw [h]
theorem Video.SamplesOnly.cur {v w : Video} (h : v.SamplesOnly w) : w.cur = v.cur := by rw [h]
theorem Video.SamplesOnly.fwd {v w : Video} (h : v.SamplesOnly w) : w.fwd = v.fwd := by rw [h]
theorem Video.SamplesOnly.bwd {v w : Video} (h : v.SamplesOnly w) : w.bwd = v.bwd := by rw [h]
theorem Video.SamplesOnly.hasReferenceFrame {v w : Video} (h : v.SamplesOnly w) : w.hasReferenceFrame = v.hasReferenceFrame := by rw [h]
theorem Video.SamplesOnly.noDelay {v w : Video} (h : v.SamplesOnly w) : w.noDelay = v.noDelay := by rw [h]
theorem Video.SamplesOnly.framesDecoded {v w : Video} (h : v.SamplesOnly w) : w.framesDecoded = v.framesDecoded := by rw [h]
theorem Video.SamplesOnly.time {v w : Video} (h : v.SamplesOnly w) : w.time = v.time := by rw [h]
theorem Video.SamplesOnly.outFrame {v w : Video} (h : v.SamplesOnly w) : w.outFrame = v.outFrame := by rw [h]
theorem Video.SamplesOnly.pos {v w : Video} (h : v.SamplesOnly w) : w.pos = v.pos := by rw [h]
theorem Video.SamplesOnly.temp {v w : Video} (h : v.SamplesOnly w) : w.temp = v.temp := by rw [h]
theorem Video.SamplesOnly.increment {v w : Video} (h : v.SamplesOnly w) : w.increment = v.increment := by rw [h]
theorem Video.SamplesOnly.block {v w : Video} (h : v.SamplesOnly w) : w.block = v.block := by rw [h]
theorem Video.SamplesOnly.coefficientPos {v w : Video} (h : v.SamplesOnly w) : w.coefficientPos = v.coefficientPos := by rw [h]

theorem Video.SamplesOnly.refl (v : Video) : v.SamplesOnly v := rfl

theorem Video.SamplesOnly.trans {u v w : Video} (h : u.SamplesOnly v) (k : v.SamplesOnly w) :
    u.SamplesOnly w := by
  unfold Video.SamplesOnly at *
  rw [k, h]

theorem Video.setFrame_samplesOnly (v : Video) (f : Fin 3) (x : Frame) :
    v.SamplesOnly (v.setFrame f x) := by
  unfold Video.SamplesOnly
  fin_cases f <;> rfl

theorem Video.planeWrite_samplesOnly (v : Video) (f : Fin 3) (p : Plane) (i : Nat) (x : Byte) :
    v.SamplesOnly (v.planeWrite f p i x) := v.setFrame_samplesOnly _ _

theorem Video.raise_samplesOnly (v : Video) (c : VideoCause) : v.SamplesOnly (v.raise c) := rfl

theorem Video.foldl_samplesOnly (g : Video → Nat → Video) (h : ∀ (v : Video) k, v.SamplesOnly (g v k))
    (l : List Nat) (v : Video) : v.SamplesOnly (l.foldl g v) := by
  induction l generalizing v with
  | nil => exact .refl v
  | cons k l ih => exact (h v k).trans (ih _)

theorem Video.planePredict_samplesOnly (average : Bool) (s : Fin 3) (p : Plane) (mh mv : Int)
    (size : Nat) (v : Video) : v.SamplesOnly (v.planePredict average s p mh mv size) := by
  unfold Video.planePredict
  split
  · exact v.foldl_samplesOnly _ (fun v k => v.planeWrite_samplesOnly _ _ _ _) _
  · exact v.raise_samplesOnly _

theorem Video.predictFrom_samplesOnly (average : Bool) (s : Fin 3) (vector : Int × Int) (v : Video) :
    v.SamplesOnly (v.predictFrom average s vector) :=
  ((v.planePredict_samplesOnly ..).trans (Video.planePredict_samplesOnly ..)).trans
    (Video.planePredict_samplesOnly ..)

theorem Video.predictMacroblock_samplesOnly (v : Video) : v.SamplesOnly v.predictMacroblock := by
  unfold Video.predictMacroblock
  dsimp only
  split
  · split
    · split
      · exact (v.predictFrom_samplesOnly ..).trans (Video.predictFrom_samplesOnly ..)
      · exact v.predictFrom_samplesOnly ..
    · exact v.predictFrom_samplesOnly ..
  · exact v.predictFrom_samplesOnly ..

theorem Video.writeBlock_samplesOnly (v : Video) (residual : List Int) (t : BlockTarget)
    (l : List Nat) : v.SamplesOnly (l.foldl (Video.writeBlockSample residual t) v) :=
  v.foldl_samplesOnly _ (fun v _ => v.planeWrite_samplesOnly _ _ _ _) l

@[simp] theorem Video.predictMacroblock_br (v : Video) : v.predictMacroblock.br = v.br :=
  v.predictMacroblock_samplesOnly.br
@[simp] theorem Video.predictMacroblock_hasSequenceHeader (v : Video) : v.predictMacroblock.hasSequenceHeader = v.hasSequenceHeader :=
  v.predictMacroblock_samplesOnly.hasSequenceHeader
@[simp] theorem Video.predictMacroblock_width (v : Video) : v.predictMacroblock.width = v.width :=
  v.predictMacroblock_samplesOnly.width
@[simp] theorem Video.predictMacroblock_height (v : Video) : v.predictMacroblock.height = v.height :=
  v.predictMacroblock_samplesOnly.height
@[simp] theorem Video.predictMacroblock_aspectRatioIndex (v : Video) : v.predictMacroblock.aspectRatioIndex = v.aspectRatioIndex :=
  v.predictMacroblock_samplesOnly.aspectRatioIndex
@[simp] theorem Video.predictMacroblock_pictureRateIndex (v : Video) : v.predictMacroblock.pictureRateIndex = v.pictureRateIndex :=
  v.predictMacroblock_samplesOnly.pictureRateIndex
@[simp] theorem Video.predictMacroblock_bitRate (v : Video) : v.predictMacroblock.bitRate = v.bitRate :=
  v.predictMacroblock_samplesOnly.bitRate
@[simp] theorem Video.predictMacroblock_framerate (v : Video) : v.predictMacroblock.framerate = v.framerate :=
  v.predictMacroblock_samplesOnly.framerate
@[simp] theorem Video.predictMacroblock_mbWidth (v : Video) : v.predictMacroblock.mbWidth = v.mbWidth :=
  v.predictMacroblock_samplesOnly.mbWidth
@[simp] theorem Video.predictMacroblock_mbHeight (v : Video) : v.predictMacroblock.mbHeight = v.mbHeight :=
  v.predictMacroblock_samplesOnly.mbHeight
@[simp] theorem Video.predictMacroblock_mbSize (v : Video) : v.predictMacroblock.mbSize = v.mbSize :=
  v.predictMacroblock_samplesOnly.mbSize
@[simp] theorem Video.predictMacroblock_lumaWidth (v : Video) : v.predictMacroblock.lumaWidth = v.lumaWidth :=
  v.predictMacroblock_samplesOnly.lumaWidth
@[simp] theorem Video.predictMacroblock_lumaHeight (v : Video) : v.predictMacroblock.lumaHeight = v.lumaHeight :=
  v.predictMacroblock_samplesOnly.lumaHeight
@[simp] theorem Video.predictMacroblock_chromaWidth (v : Video) : v.predictMacroblock.chromaWidth = v.chromaWidth :=
  v.predictMacroblock_samplesOnly.chromaWidth
@[simp] theorem Video.predictMacroblock_chromaHeight (v : Video) : v.predictMacroblock.chromaHeight = v.chromaHeight :=
  v.predictMacroblock_samplesOnly.chromaHeight
@[simp] theorem Video.predictMacroblock_intraQuantMatrix (v : Video) : v.predictMacroblock.intraQuantMatrix = v.intraQuantMatrix :=
  v.predictMacroblock_samplesOnly.intraQuantMatrix
@[simp] theorem Video.predictMacroblock_nonIntraQuantMatrix (v : Video) : v.predictMacroblock.nonIntraQuantMatrix = v.nonIntraQuantMatrix :=
  v.predictMacroblock_samplesOnly.nonIntraQuantMatrix
@[simp] theorem Video.predictMacroblock_startCode (v : Video) : v.predictMacroblock.startCode = v.startCode :=
  v.predictMacroblock_samplesOnly.startCode
@[simp] theorem Video.predictMacroblock_pictureType (v : Video) : v.predictMacroblock.pictureType = v.pictureType :=
  v.predictMacroblock_samplesOnly.pictureType
@[simp] theorem Video.predictMacroblock_mf (v : Video) : v.predictMacroblock.mf = v.mf :=
  v.predictMacroblock_samplesOnly.mf
@[simp] theorem Video.predictMacroblock_mb (v : Video) : v.predictMacroblock.mb = v.mb :=
  v.predictMacroblock_samplesOnly.mb
@[simp] theorem Video.predictMacroblock_quantizerScale (v : Video) : v.predictMacroblock.quantizerScale = v.quantizerScale :=
  v.predictMacroblock_samplesOnly.quantizerScale
@[simp] theorem Video.predictMacroblock_sliceBegin (v : Video) : v.predictMacroblock.sliceBegin = v.sliceBegin :=
  v.predictMacroblock_samplesOnly.sliceBegin
@[simp] theorem Video.predictMacroblock_macroblockAddress (v : Video) : v.predictMacroblock.macroblockAddress = v.macroblockAddress :=
  v.predictMacroblock_samplesOnly.macroblockAddress
@[simp] theorem Video.predictMacroblock_mbRow (v : Video) : v.predictMacroblock.mbRow = v.mbRow :=
  v.predictMacroblock_samplesOnly.mbRow
@[simp] theorem Video.predictMacroblock_mbCol (v : Video) : v.predictMacroblock.mbCol = v.mbCol :=
  v.predictMacroblock_samplesOnly.mbCol
@[simp] theorem Video.predictMacroblock_macroblockType (v : Video) : v.predictMacroblock.macroblockType = v.macroblockType :=
  v.predictMacroblock_samplesOnly.macroblockType
@[simp] theorem Video.predictMacroblock_macroblockIntra (v : Video) : v.predictMacroblock.macroblockIntra = v.macroblockIntra :=
  v.predictMacroblock_samplesOnly.macroblockIntra
@[simp] theorem Video.predictMacroblock_cbp (v : Video) : v.predictMacroblock.cbp = v.cbp :=
  v.predictMacroblock_samplesOnly.cbp
@[simp] theorem Video.predictMacroblock_dcPredictor (v : Video) : v.predictMacroblock.dcPredictor = v.dcPredictor :=
  v.predictMacroblock_samplesOnly.dcPredictor
@[simp] theorem Video.predictMacroblock_blockData (v : Video) : v.predictMacroblock.blockData = v.blockData :=
  v.predictMacroblock_samplesOnly.blockData
@[simp] theorem Video.predictMacroblock_cur (v : Video) : v.predictMacroblock.cur = v.cur :=
  v.predictMacroblock_samplesOnly.cur
@[simp] theorem Video.predictMacroblock_fwd (v : Video) : v.predictMacroblock.fwd = v.fwd :=
  v.predictMacroblock_samplesOnly.fwd
@[simp] theorem Video.predictMacroblock_bwd (v : Video) : v.predictMacroblock.bwd = v.bwd :=
  v.predictMacroblock_samplesOnly.bwd
@[simp] theorem Video.predictMacroblock_hasReferenceFrame (v : Video) : v.predictMacroblock.hasReferenceFrame = v.hasReferenceFrame :=
  v.predictMacroblock_samplesOnly.hasReferenceFrame
@[simp] theorem Video.predictMacroblock_noDelay (v : Video) : v.predictMacroblock.noDelay = v.noDelay :=
  v.predictMacroblock_samplesOnly.noDelay
@[simp] theorem Video.predictMacroblock_framesDecoded (v : Video) : v.predictMacroblock.framesDecoded = v.framesDecoded :=
  v.predictMacroblock_samplesOnly.framesDecoded
@[simp] theorem Video.predictMacroblock_time (v : Video) : v.predictMacroblock.time = v.time :=
  v.predictMacroblock_samplesOnly.time
@[simp] theorem Video.predictMacroblock_outFrame (v : Video) : v.predictMacroblock.outFrame = v.outFrame :=
  v.predictMacroblock_samplesOnly.outFrame
@[simp] theorem Video.predictMacroblock_pos (v : Video) : v.predictMacroblock.pos = v.pos :=
  v.predictMacroblock_samplesOnly.pos
@[simp] theorem Video.predictMacroblock_temp (v : Video) : v.predictMacroblock.temp = v.temp :=
  v.predictMacroblock_samplesOnly.temp
@[simp] theorem Video.predictMacroblock_increment (v : Video) : v.predictMacroblock.increment = v.increment :=
  v.predictMacroblock_samplesOnly.increment
@[simp] theorem Video.predictMacroblock_block (v : Video) : v.predictMacroblock.block = v.block :=
  v.predictMacroblock_samplesOnly.block
@[simp] theorem Video.predictMacroblock_coefficientPos (v : Video) : v.predictMacroblock.coefficientPos = v.coefficientPos :=
  v.predictMacroblock_samplesOnly.coefficientPos

/-- A reconstruction writes samples, then clears the coefficient registers. -/
theorem Video.reconstruct_samplesOnly (v : Video) :
    ∃ w : Video, v.SamplesOnly w ∧ v.reconstruct = { w with blockData := zeroBlock } := by
  unfold Video.reconstruct
  exact ⟨_, v.writeBlock_samplesOnly _ _ _, rfl⟩

@[simp] theorem Video.reconstruct_br (v : Video) : v.reconstruct.br = v.br := by
  obtain ⟨w, h, e⟩ := v.reconstruct_samplesOnly
  rw [e]; exact h.br
@[simp] theorem Video.reconstruct_hasSequenceHeader (v : Video) : v.reconstruct.hasSequenceHeader = v.hasSequenceHeader := by
  obtain ⟨w, h, e⟩ := v.reconstruct_samplesOnly
  rw [e]; exact h.hasSequenceHeader
@[simp] theorem Video.reconstruct_width (v : Video) : v.reconstruct.width = v.width := by
  obtain ⟨w, h, e⟩ := v.reconstruct_samplesOnly
  rw [e]; exact h.width
@[simp] theorem Video.reconstruct_height (v : Video) : v.reconstruct.height = v.height := by
  obtain ⟨w, h, e⟩ := v.reconstruct_samplesOnly
  rw [e]; exact h.height
@[simp] theorem Video.reconstruct_aspectRatioIndex (v : Video) : v.reconstruct.aspectRatioIndex = v.aspectRatioIndex := by
  obtain ⟨w, h, e⟩ := v.reconstruct_samplesOnly
  rw [e]; exact h.aspectRatioIndex
@[simp] theorem Video.reconstruct_pictureRateIndex (v : Video) : v.reconstruct.pictureRateIndex = v.pictureRateIndex := by
  obtain ⟨w, h, e⟩ := v.reconstruct_samplesOnly
  rw [e]; exact h.pictureRateIndex
@[simp] theorem Video.reconstruct_bitRate (v : Video) : v.reconstruct.bitRate = v.bitRate := by
  obtain ⟨w, h, e⟩ := v.reconstruct_samplesOnly
  rw [e]; exact h.bitRate
@[simp] theorem Video.reconstruct_framerate (v : Video) : v.reconstruct.framerate = v.framerate := by
  obtain ⟨w, h, e⟩ := v.reconstruct_samplesOnly
  rw [e]; exact h.framerate
@[simp] theorem Video.reconstruct_mbWidth (v : Video) : v.reconstruct.mbWidth = v.mbWidth := by
  obtain ⟨w, h, e⟩ := v.reconstruct_samplesOnly
  rw [e]; exact h.mbWidth
@[simp] theorem Video.reconstruct_mbHeight (v : Video) : v.reconstruct.mbHeight = v.mbHeight := by
  obtain ⟨w, h, e⟩ := v.reconstruct_samplesOnly
  rw [e]; exact h.mbHeight
@[simp] theorem Video.reconstruct_mbSize (v : Video) : v.reconstruct.mbSize = v.mbSize := by
  obtain ⟨w, h, e⟩ := v.reconstruct_samplesOnly
  rw [e]; exact h.mbSize
@[simp] theorem Video.reconstruct_lumaWidth (v : Video) : v.reconstruct.lumaWidth = v.lumaWidth := by
  obtain ⟨w, h, e⟩ := v.reconstruct_samplesOnly
  rw [e]; exact h.lumaWidth
@[simp] theorem Video.reconstruct_lumaHeight (v : Video) : v.reconstruct.lumaHeight = v.lumaHeight := by
  obtain ⟨w, h, e⟩ := v.reconstruct_samplesOnly
  rw [e]; exact h.lumaHeight
@[simp] theorem Video.reconstruct_chromaWidth (v : Video) : v.reconstruct.chromaWidth = v.chromaWidth := by
  obtain ⟨w, h, e⟩ := v.reconstruct_samplesOnly
  rw [e]; exact h.chromaWidth
@[simp] theorem Video.reconstruct_chromaHeight (v : Video) : v.reconstruct.chromaHeight = v.chromaHeight := by
  obtain ⟨w, h, e⟩ := v.reconstruct_samplesOnly
  rw [e]; exact h.chromaHeight
@[simp] theorem Video.reconstruct_intraQuantMatrix (v : Video) : v.reconstruct.intraQuantMatrix = v.intraQuantMatrix := by
  obtain ⟨w, h, e⟩ := v.reconstruct_samplesOnly
  rw [e]; exact h.intraQuantMatrix
@[simp] theorem Video.reconstruct_nonIntraQuantMatrix (v : Video) : v.reconstruct.nonIntraQuantMatrix = v.nonIntraQuantMatrix := by
  obtain ⟨w, h, e⟩ := v.reconstruct_samplesOnly
  rw [e]; exact h.nonIntraQuantMatrix
@[simp] theorem Video.reconstruct_startCode (v : Video) : v.reconstruct.startCode = v.startCode := by
  obtain ⟨w, h, e⟩ := v.reconstruct_samplesOnly
  rw [e]; exact h.startCode
@[simp] theorem Video.reconstruct_pictureType (v : Video) : v.reconstruct.pictureType = v.pictureType := by
  obtain ⟨w, h, e⟩ := v.reconstruct_samplesOnly
  rw [e]; exact h.pictureType
@[simp] theorem Video.reconstruct_mf (v : Video) : v.reconstruct.mf = v.mf := by
  obtain ⟨w, h, e⟩ := v.reconstruct_samplesOnly
  rw [e]; exact h.mf
@[simp] theorem Video.reconstruct_mb (v : Video) : v.reconstruct.mb = v.mb := by
  obtain ⟨w, h, e⟩ := v.reconstruct_samplesOnly
  rw [e]; exact h.mb
@[simp] theorem Video.reconstruct_quantizerScale (v : Video) : v.reconstruct.quantizerScale = v.quantizerScale := by
  obtain ⟨w, h, e⟩ := v.reconstruct_samplesOnly
  rw [e]; exact h.quantizerScale
@[simp] theorem Video.reconstruct_sliceBegin (v : Video) : v.reconstruct.sliceBegin = v.sliceBegin := by
  obtain ⟨w, h, e⟩ := v.reconstruct_samplesOnly
  rw [e]; exact h.sliceBegin
@[simp] theorem Video.reconstruct_macroblockAddress (v : Video) : v.reconstruct.macroblockAddress = v.macroblockAddress := by
  obtain ⟨w, h, e⟩ := v.reconstruct_samplesOnly
  rw [e]; exact h.macroblockAddress
@[simp] theorem Video.reconstruct_mbRow (v : Video) : v.reconstruct.mbRow = v.mbRow := by
  obtain ⟨w, h, e⟩ := v.reconstruct_samplesOnly
  rw [e]; exact h.mbRow
@[simp] theorem Video.reconstruct_mbCol (v : Video) : v.reconstruct.mbCol = v.mbCol := by
  obtain ⟨w, h, e⟩ := v.reconstruct_samplesOnly
  rw [e]; exact h.mbCol
@[simp] theorem Video.reconstruct_macroblockType (v : Video) : v.reconstruct.macroblockType = v.macroblockType := by
  obtain ⟨w, h, e⟩ := v.reconstruct_samplesOnly
  rw [e]; exact h.macroblockType
@[simp] theorem Video.reconstruct_macroblockIntra (v : Video) : v.reconstruct.macroblockIntra = v.macroblockIntra := by
  obtain ⟨w, h, e⟩ := v.reconstruct_samplesOnly
  rw [e]; exact h.macroblockIntra
@[simp] theorem Video.reconstruct_cbp (v : Video) : v.reconstruct.cbp = v.cbp := by
  obtain ⟨w, h, e⟩ := v.reconstruct_samplesOnly
  rw [e]; exact h.cbp
@[simp] theorem Video.reconstruct_dcPredictor (v : Video) : v.reconstruct.dcPredictor = v.dcPredictor := by
  obtain ⟨w, h, e⟩ := v.reconstruct_samplesOnly
  rw [e]; exact h.dcPredictor
@[simp] theorem Video.reconstruct_cur (v : Video) : v.reconstruct.cur = v.cur := by
  obtain ⟨w, h, e⟩ := v.reconstruct_samplesOnly
  rw [e]; exact h.cur
@[simp] theorem Video.reconstruct_fwd (v : Video) : v.reconstruct.fwd = v.fwd := by
  obtain ⟨w, h, e⟩ := v.reconstruct_samplesOnly
  rw [e]; exact h.fwd
@[simp] theorem Video.reconstruct_bwd (v : Video) : v.reconstruct.bwd = v.bwd := by
  obtain ⟨w, h, e⟩ := v.reconstruct_samplesOnly
  rw [e]; exact h.bwd
@[simp] theorem Video.reconstruct_hasReferenceFrame (v : Video) : v.reconstruct.hasReferenceFrame = v.hasReferenceFrame := by
  obtain ⟨w, h, e⟩ := v.reconstruct_samplesOnly
  rw [e]; exact h.hasReferenceFrame
@[simp] theorem Video.reconstruct_noDelay (v : Video) : v.reconstruct.noDelay = v.noDelay := by
  obtain ⟨w, h, e⟩ := v.reconstruct_samplesOnly
  rw [e]; exact h.noDelay
@[simp] theorem Video.reconstruct_framesDecoded (v : Video) : v.reconstruct.framesDecoded = v.framesDecoded := by
  obtain ⟨w, h, e⟩ := v.reconstruct_samplesOnly
  rw [e]; exact h.framesDecoded
@[simp] theorem Video.reconstruct_time (v : Video) : v.reconstruct.time = v.time := by
  obtain ⟨w, h, e⟩ := v.reconstruct_samplesOnly
  rw [e]; exact h.time
@[simp] theorem Video.reconstruct_outFrame (v : Video) : v.reconstruct.outFrame = v.outFrame := by
  obtain ⟨w, h, e⟩ := v.reconstruct_samplesOnly
  rw [e]; exact h.outFrame
@[simp] theorem Video.reconstruct_pos (v : Video) : v.reconstruct.pos = v.pos := by
  obtain ⟨w, h, e⟩ := v.reconstruct_samplesOnly
  rw [e]; exact h.pos
@[simp] theorem Video.reconstruct_temp (v : Video) : v.reconstruct.temp = v.temp := by
  obtain ⟨w, h, e⟩ := v.reconstruct_samplesOnly
  rw [e]; exact h.temp
@[simp] theorem Video.reconstruct_increment (v : Video) : v.reconstruct.increment = v.increment := by
  obtain ⟨w, h, e⟩ := v.reconstruct_samplesOnly
  rw [e]; exact h.increment
@[simp] theorem Video.reconstruct_block (v : Video) : v.reconstruct.block = v.block := by
  obtain ⟨w, h, e⟩ := v.reconstruct_samplesOnly
  rw [e]; exact h.block
@[simp] theorem Video.reconstruct_coefficientPos (v : Video) : v.reconstruct.coefficientPos = v.coefficientPos := by
  obtain ⟨w, h, e⟩ := v.reconstruct_samplesOnly
  rw [e]; exact h.coefficientPos
@[simp] theorem Video.reconstruct_blockData (v : Video) : v.reconstruct.blockData = zeroBlock := by
  obtain ⟨w, -, e⟩ := v.reconstruct_samplesOnly
  rw [e]

/-! ### Times -/

theorem Video.frame_planeWrite_time (v : Video) (f g : Fin 3) (p : Plane) (i : Nat) (x : Byte) :
    ((v.planeWrite f p i x).frame g).time = (v.frame g).time := by
  by_cases h : g = f
  · subst h
    simp [Video.planeWrite]
  · rw [Video.planeWrite, Video.frame_setFrame_other _ _ h]

theorem Video.frame_foldl_time (g : Video → Nat → Video) (h : ∀ v k f, ((g v k).frame f).time = (v.frame f).time)
    (l : List Nat) (v : Video) (f : Fin 3) : ((l.foldl g v).frame f).time = (v.frame f).time := by
  induction l generalizing v with
  | nil => rfl
  | cons k l ih => exact (ih _).trans (h v k f)

/-! ### A row of writes -/

/-- A row of writes to distinct indices of one plane, each value computed from what no other write of the
row changes: every index reads as written, and every other sample as before. -/
theorem Video.foldl_planeWrite (f : Fin 3) (p : Plane) (index : Nat → Nat) (value : Video → Nat → Byte)
    (v : Video) (n : Nat) (distinct : ∀ j < n, ∀ k < n, index j = index k → j = k)
    (stable : ∀ k < n, ∀ w : Video, v.SamplesOnly w →
      (∀ g q i, (g ≠ f ∨ q ≠ p) → w.planeRead g q i = v.planeRead g q i) →
      w.planeRead f p (index k) = v.planeRead f p (index k) → value w k = value v k) :
    let t := (List.range n).foldl (fun w k => w.planeWrite f p (index k) (value w k)) v
    (∀ k < n, t.planeRead f p (index k) = value v k) ∧
    ∀ g q i, (g = f → q = p → ∀ k < n, i ≠ index k) → t.planeRead g q i = v.planeRead g q i := by
  induction n with
  | zero => exact ⟨fun _ h => absurd h (Nat.not_lt_zero _), fun _ _ _ _ => rfl⟩
  | succ n ih =>
    obtain ⟨same, other⟩ := ih (fun j hj k hk => distinct j (by omega) k (by omega))
      (fun k hk => stable k (by omega))
    rw [List.range_succ, List.foldl_append]
    simp only [List.foldl_cons, List.foldl_nil]
    have far : ∀ k < n, index k ≠ index n := fun k hk e =>
      absurd (distinct k (by omega) n (by omega) e) (by omega)
    have last := stable n (by omega)
      ((List.range n).foldl (fun w k => w.planeWrite f p (index k) (value w k)) v)
      (v.foldl_samplesOnly _ (fun w k => w.planeWrite_samplesOnly _ _ _ _) _)
      (fun g q i h => other g q i (fun hg hq => absurd hq (by tauto)))
      (other f p (index n) (fun _ _ k hk => (far k hk).symm))
    refine ⟨fun k hk => ?_, fun g q i h => ?_⟩
    · by_cases e : k = n
      · subst e
        rw [Video.planeRead_planeWrite_same, last]
      · have hk' : k < n := by omega
        rw [Video.planeRead_planeWrite_other _ _ (by simpa using far k hk'), same k hk']
    · rw [Video.planeRead_planeWrite_other]
      · exact other g q i (fun hg hq k hk => h hg hq k (by omega))
      · intro e
        simp only [Prod.mk.injEq] at e
        exact h e.1 e.2.1 n (by omega) e.2.2

end Sys2Proof.Machine
end

