-- ==== Sys2Proof/Laws/Advances.lean ====
section
/-! SUPPORT. What an element of a VDECODE can do to the reader and the error registers: the reader moves on
as its primitives let it, a sticky bit stays set, the counter does not fall, an accepted sequence header
stays. One relation says so; one lemma per operation of VideoControl.lean, and one for every row. -/

namespace Sys2Proof.Machine

/-- The reader follows (R402, R403), and no error or accepted header is lost (R117, R1201). -/
structure Video.Advances (v w : Video) : Prop where
  reader : v.br.Follows w.br
  errors : v.verr &&& w.verr = v.verr
  count : v.verrcnt.toNat ≤ w.verrcnt.toNat
  raised : v.raised = true → w.raised = true
  header : v.hasSequenceHeader = true → w.hasSequenceHeader = true

/-- A reader that follows, with the error registers as they are. -/
theorem Video.Advances.of_reader {v w : Video} (h : v.br.Follows w.br) (e : w.verr = v.verr)
    (c : w.verrcnt = v.verrcnt) (r : w.raised = v.raised) (s : w.hasSequenceHeader = v.hasSequenceHeader) :
    v.Advances w :=
  ⟨h, by rw [e, BitVec.and_self], by rw [c], by rw [r]; exact id, by rw [s]; exact id⟩

/-- Nothing of all this changes. -/
theorem Video.Advances.same {v w : Video} (h : w.br = v.br) (e : w.verr = v.verr)
    (c : w.verrcnt = v.verrcnt) (r : w.raised = v.raised) (s : w.hasSequenceHeader = v.hasSequenceHeader) :
    v.Advances w :=
  .of_reader (by rw [h]; exact .refl _) e c r s

theorem Video.Advances.refl (v : Video) : v.Advances v := .same rfl rfl rfl rfl rfl

theorem Video.Advances.trans {u v w : Video} (h : u.Advances v) (k : v.Advances w) : u.Advances w :=
  ⟨h.reader.trans k.reader,
    by rw [← h.errors, BitVec.and_assoc, k.errors],
    h.count.trans k.count, k.raised ∘ h.raised, k.header ∘ h.header⟩

/-- The counter does not fall (R1201). -/
theorem le_countError (n : Word) : n.toNat ≤ (countError n).toNat := by
  unfold countError
  split
  · exact le_rfl
  · bv_omega

/-- Raising a cause (R1201). -/
theorem Video.raise_advances (c : VideoCause) (v : Video) : v.Advances (v.raise c) := by
  refine ⟨.refl _, ?_, le_countError _, fun _ => rfl, id⟩
  show v.verr &&& (v.verr ||| _) = v.verr
  ext i
  simp only [BitVec.getElem_and, BitVec.getElem_or]
  cases v.verr[i] <;> rfl

/-- Samples written (R204). -/
theorem Video.planeWrite_advances (v : Video) (f : Fin 3) (p : Plane) (i : Nat) (x : Byte) :
    v.Advances (v.planeWrite f p i x) :=
  .same (by simp) (by simp) (by simp) (by simp) (by simp)

theorem Video.foldl_advances {g : Video → Nat → Video} (h : ∀ (v : Video) k, v.Advances (g v k))
    (l : List Nat) (v : Video) : v.Advances (l.foldl g v) := by
  induction l generalizing v with
  | nil => exact .refl v
  | cons k l ih => exact (h v k).trans (ih _)

/-! ### Prediction and reconstruction -/

theorem Video.planePredict_advances (average : Bool) (s : Fin 3) (p : Plane) (mh mv : Int) (size : Nat)
    (v : Video) : v.Advances (v.planePredict average s p mh mv size) := by
  unfold Video.planePredict
  split
  · exact foldl_advances (fun v k => v.planeWrite_advances _ _ _ _) _ v
  · exact v.raise_advances _

theorem Video.predictFrom_advances (average : Bool) (s : Fin 3) (d : Int × Int) (v : Video) :
    v.Advances (v.predictFrom average s d) :=
  ((planePredict_advances _ _ _ _ _ _ _).trans (planePredict_advances _ _ _ _ _ _ _)).trans
    (planePredict_advances _ _ _ _ _ _ _)

theorem Video.predictMacroblock_advances (v : Video) : v.Advances v.predictMacroblock := by
  unfold Video.predictMacroblock
  simp only
  split
  · split
    · split
      · exact (predictFrom_advances _ _ _ _).trans (predictFrom_advances _ _ _ _)
      · exact predictFrom_advances _ _ _ _
    · exact predictFrom_advances _ _ _ _
  · exact predictFrom_advances _ _ _ _

theorem Video.reconstruct_advances (v : Video) : v.Advances v.reconstruct := by
  unfold Video.reconstruct
  simp only
  generalize hw : (List.range 64).foldl (Video.writeBlockSample _ _) v = w
  have h : v.Advances w := by
    rw [← hw]
    exact foldl_advances (fun v k => v.planeWrite_advances _ _ _ _) _ v
  exact h.trans (.same rfl rfl rfl rfl rfl)

/-! ### Pictures -/

theorem Video.returnNone_advances (v : Video) : v.Advances v.returnNone := .same rfl rfl rfl rfl rfl

theorem Video.emit_advances (f : Fin 3) (v : Video) : v.Advances (v.emit f) := by
  unfold Video.emit
  exact .same (by simp) (by simp) (by simp) (by simp) (by simp)

theorem Video.beginPicture_advances (v : Video) : v.Advances v.beginPicture := by
  unfold Video.beginPicture
  have h : v.Advances { v with br := (v.br.hasStartCode 0x00).2 } :=
    .of_reader (BitReader.hasStartCode_follows _ _) rfl rfl rfl rfl
  simp only
  split
  · exact h.trans (returnNone_advances _)
  · exact h.trans (by exact .same rfl rfl rfl rfl rfl)

theorem Video.pictureLoop_advances (v : Video) : v.Advances v.pictureLoop := by
  unfold Video.pictureLoop
  split
  · exact v.beginPicture_advances
  · exact .same rfl rfl rfl rfl rfl

theorem Video.endOfPictures_advances (v : Video) : v.Advances v.endOfPictures := by
  unfold Video.endOfPictures
  simp only
  split
  · exact Advances.trans (by exact .same rfl rfl rfl rfl rfl) (emit_advances _ _)
  · exact .same rfl rfl rfl rfl rfl

theorem Video.dropPicture_advances (c : VideoCause) (v : Video) : v.Advances (v.dropPicture c) := by
  unfold Video.dropPicture
  exact ((v.raise_advances c).trans (by exact .same rfl rfl rfl rfl rfl)).trans (pictureLoop_advances _)

theorem Video.preRotate_advances (v : Video) : v.Advances v.preRotate := by
  unfold Video.preRotate
  simp only
  split <;> exact .same rfl rfl rfl rfl rfl

theorem Video.postRotate_advances (v : Video) : v.Advances v.postRotate := by
  unfold Video.postRotate
  split <;> exact .same rfl rfl rfl rfl rfl

theorem Video.selectOutput_advances (v : Video) : v.Advances v.selectOutput := by
  unfold Video.selectOutput
  split
  · simp only
    split
    · exact (v.raise_advances _).trans (emit_advances _ _)
    · exact emit_advances _ _
  · split
    · exact emit_advances _ _
    · split
      · exact emit_advances _ _
      · exact Advances.trans (by exact .same rfl rfl rfl rfl rfl) (pictureLoop_advances _)

theorem Video.endPicture_advances (v : Video) : v.Advances v.endPicture :=
  v.postRotate_advances.trans (selectOutput_advances _)

/-! ### Sequence headers -/

theorem Video.beginSequenceHeader_advances (v : Video) : v.Advances v.beginSequenceHeader := by
  unfold Video.beginSequenceHeader
  have h : v.Advances { v with br := (v.br.has 1088).2 } :=
    .of_reader (BitReader.has_follows _ _) rfl rfl rfl rfl
  simp only
  split
  · exact h.trans (returnNone_advances _)
  · exact h.trans (by exact .same rfl rfl rfl rfl rfl)

theorem Video.sequenceLoop_advances (v : Video) : v.Advances v.sequenceLoop := by
  unfold Video.sequenceLoop
  split
  · exact v.beginSequenceHeader_advances
  · exact .same rfl rfl rfl rfl rfl

/-- Fields consumed (R403). -/
theorem Video.takeFields_advances (l : List Nat) (v : Video) :
    v.Advances { v with br := v.br.takeFields l } :=
  .of_reader (BitReader.takeFields_follows _ _) rfl rfl rfl rfl

/-- The fields of an accepted header (R502). -/
theorem Video.commitSequence_advances (h : SequenceHeader) (v : Video) :
    v.Advances (v.commitSequence h) :=
  ⟨.refl _, BitVec.and_self, le_rfl, id, fun _ => rfl⟩

/-- A rejected header (R502). -/
theorem Video.rejectSequence_advances (v : Video) :
    v.Advances { v.raise .seqHeaderInvalid with startCode := none }.returnNone := by
  have h := v.raise_advances .seqHeaderInvalid
  generalize v.raise .seqHeaderInvalid = u at h ⊢
  exact h.trans (.same rfl rfl rfl rfl rfl)

theorem Video.sequenceHeaderRow_advances (h : SequenceHeader) (v : Video) :
    v.Advances (v.sequenceHeaderRow h) := by
  unfold Video.sequenceHeaderRow
  have k := v.takeFields_advances sequenceFixedWidths
  split
  · have l := takeFields_advances (matrixWidths h.intraMatrix ++ matrixWidths h.nonIntraMatrix)
      { v with br := v.br.takeFields sequenceFixedWidths }
    exact (k.trans l).trans ((commitSequence_advances h _).trans (pictureLoop_advances _))
  · exact k.trans (rejectSequence_advances _)

/-! ### Picture and slice headers -/

theorem Video.beginBody_advances (v : Video) : v.Advances v.beginBody :=
  v.preRotate_advances.trans (by exact .same rfl rfl rfl rfl rfl)

theorem Video.backwardCode_advances (c : VectorCode) (v : Video) : v.Advances (v.backwardCode c) := by
  unfold Video.backwardCode
  have h : v.Advances { v with br := v.br.takeFields [1, 3], mb.fullPx := c.fullPel } :=
    .of_reader (BitReader.takeFields_follows _ _) rfl rfl rfl rfl
  simp only
  split
  · exact h.trans (dropPicture_advances _ _)
  · exact (h.trans (by exact .same rfl rfl rfl rfl rfl)).trans (beginBody_advances _)

theorem Video.vectorCodes_advances (h : PictureHeader) (v : Video) : v.Advances (v.vectorCodes h) := by
  unfold Video.vectorCodes
  have k : v.Advances { v with
      br := v.br.takeFields [1, 3], mf.fullPx := (h.forward.getD noCode).fullPel } :=
    .of_reader (BitReader.takeFields_follows _ _) rfl rfl rfl rfl
  simp only
  split
  · exact k.trans (dropPicture_advances _ _)
  · split
    · exact (k.trans (by exact .same rfl rfl rfl rfl rfl)).trans (backwardCode_advances _ _)
    · exact (k.trans (by exact .same rfl rfl rfl rfl rfl)).trans (beginBody_advances _)

theorem Video.pictureHeaderRow_advances (h : PictureHeader) (v : Video) :
    v.Advances (v.pictureHeaderRow h) := by
  unfold Video.pictureHeaderRow
  have k : v.Advances { v with br := v.br.takeFields [10, 3, 16], pictureType := h.codingType } :=
    .of_reader (BitReader.takeFields_follows _ _) rfl rfl rfl rfl
  simp only
  split
  · exact k.trans (beginBody_advances _)
  · split
    · exact k.trans (vectorCodes_advances _ _)
    · exact k.trans (dropPicture_advances _ _)

theorem Video.sliceHeaderRow_advances (h : SliceHeader) (v : Video) : v.Advances (v.sliceHeaderRow h) :=
  .of_reader (BitReader.takeFields_follows _ _) rfl rfl rfl rfl

/-! ### Slices, macroblocks, blocks -/

theorem Video.sliceError_advances (c : VideoCause) (v : Video) : v.Advances (v.sliceError c) :=
  (v.raise_advances c).trans (by exact .same rfl rfl rfl rfl rfl)

theorem Video.beginSlice_advances (x : Byte) (v : Video) : v.Advances (v.beginSlice x) :=
  .same rfl rfl rfl rfl rfl

theorem Video.endMacroblock_advances (v : Video) : v.Advances v.endMacroblock := by
  unfold Video.endMacroblock
  have h : v.Advances { v with br := (v.br.peekNonzero 23).2 } :=
    .of_reader (BitReader.peekNonzero_follows _ _) rfl rfl rfl rfl
  split
  · simp only
    split
    · exact h.trans (by exact .same rfl rfl rfl rfl rfl)
    · exact h.trans (by exact .same rfl rfl rfl rfl rfl)
  · exact .same rfl rfl rfl rfl rfl

theorem Video.skipMacroblocks_advances (n : Nat) (v : Video) : v.Advances (v.skipMacroblocks n) := by
  induction n generalizing v with
  | zero => exact .refl v
  | succ n ih =>
    unfold Video.skipMacroblocks
    exact (Advances.trans (by exact .same rfl rfl rfl rfl rfl) (predictMacroblock_advances _)).trans (ih _)

theorem Video.resetForSkip_advances (v : Video) : v.Advances v.resetForSkip := by
  unfold Video.resetForSkip
  simp only
  split <;> exact .same rfl rfl rfl rfl rfl

theorem Video.updateAddress_advances (v : Video) : v.Advances v.updateAddress := by
  unfold Video.updateAddress
  simp only
  split
  · split
    · exact Advances.trans (by exact .same rfl rfl rfl rfl rfl) (sliceError_advances _ _)
    · exact .same rfl rfl rfl rfl rfl
  · split
    · exact sliceError_advances _ _
    · have h : v.Advances (if 1 < v.increment then v.resetForSkip else v) := by
        split
        · exact v.resetForSkip_advances
        · exact .refl v
      exact (h.trans (skipMacroblocks_advances _ _)).trans (by exact .same rfl rfl rfl rfl rfl)

theorem Video.blocksFrom_advances (i : Nat) (v : Video) : v.Advances (v.blocksFrom i) := by
  unfold Video.blocksFrom
  split
  · exact .same rfl rfl rfl rfl rfl
  · exact v.endMacroblock_advances

theorem Video.patternStage_advances (v : Video) : v.Advances v.patternStage := by
  unfold Video.patternStage
  split
  · exact .same rfl rfl rfl rfl rfl
  · exact Advances.trans (by exact .same rfl rfl rfl rfl rfl) (blocksFrom_advances _ _)

theorem Video.placeCoefficient_advances (run : Nat) (level : Int) (v : Video) :
    v.Advances (v.placeCoefficient run level) := by
  unfold Video.placeCoefficient
  simp only
  split
  · exact sliceError_advances _ _
  · exact .same rfl rfl rfl rfl rfl

theorem Video.endBlock_advances (v : Video) : v.Advances v.endBlock :=
  v.reconstruct_advances.trans (blocksFrom_advances _ _)

/-! ### Motion vectors -/

theorem Video.endMotion_advances (v : Video) : v.Advances v.endMotion :=
  v.predictMacroblock_advances.trans (patternStage_advances _)

theorem Video.backwardMotion_advances (v : Video) : v.Advances v.backwardMotion := by
  unfold Video.backwardMotion
  split
  · exact .same rfl rfl rfl rfl rfl
  · exact v.endMotion_advances

theorem Video.beginMotion_advances (v : Video) : v.Advances v.beginMotion := by
  unfold Video.beginMotion
  split
  · exact .same rfl rfl rfl rfl rfl
  · split
    · exact Advances.trans (by exact .same rfl rfl rfl rfl rfl) (backwardMotion_advances _)
    · exact v.backwardMotion_advances

/-- MVC reads at most its residual (R802). -/
theorem motionComponent_follows (r : Nat) (code m : Int) (b : BitReader) :
    b.Follows (motionComponent r code m b).2 := by
  unfold motionComponent
  simp only
  split
  · exact b.take_follows _
  · exact .refl b

theorem MotionState.update_follows (vertical : Bool) (code : Int) (m : MotionState) (b : BitReader) :
    b.Follows (MotionState.update vertical code m b).2 := by
  unfold MotionState.update
  split
  · exact motionComponent_follows m.rSize.toNat code m.v b
  · exact motionComponent_follows m.rSize.toNat code m.h b

theorem Video.motionElement_advances (code : Int) (v : Video) : v.Advances (v.motionElement code) := by
  unfold Video.motionElement
  generalize v.motionTarget = t
  obtain ⟨backward, vertical⟩ := t
  simp only
  have f := MotionState.update_follows vertical code (if backward then v.mb else v.mf) v.br
  generalize MotionState.update vertical code (if backward then v.mb else v.mf) v.br = u at f ⊢
  obtain ⟨m, br⟩ := u
  simp only
  generalize hw : (if backward = true then ({ v with br := br, mb := m } : Video)
    else { v with br := br, mf := m }) = w
  have h : v.Advances w := by
    rw [← hw]
    split <;> exact .of_reader f rfl rfl rfl rfl
  split
  · exact h.trans (.same rfl rfl rfl rfl rfl)
  · split
    · exact h.trans w.endMotion_advances
    · exact h.trans w.backwardMotion_advances

theorem Video.macroblockHeader_advances (t : BitVec 5) (v : Video) : v.Advances (v.macroblockHeader t) := by
  unfold Video.macroblockHeader
  simp only
  generalize hw : (if typeQscale t = true then _ else _ : Video) = w
  have h : v.Advances w := by
    rw [← hw]
    split
    · exact .of_reader (v.br.take_follows 5) rfl rfl rfl rfl
    · exact .same rfl rfl rfl rfl rfl
  split
  · exact (h.trans (by exact .same rfl rfl rfl rfl rfl)).trans (patternStage_advances _)
  · exact (h.trans (by exact .same rfl rfl rfl rfl rfl)).trans (beginMotion_advances _)

/-! ### Start codes -/

theorem Video.afterSlice_advances (x : Byte) (v : Video) : v.Advances (v.afterSlice x) := by
  unfold Video.afterSlice
  simp only
  split
  · exact .same rfl rfl rfl rfl rfl
  · exact Advances.trans (by exact .same rfl rfl rfl rfl rfl) (endPicture_advances _)

theorem Video.startCodeArrived_advances (x : Byte) (v : Video) : v.Advances (v.startCodeArrived x) := by
  unfold Video.startCodeArrived
  split
  · split
    · exact Advances.trans (by exact .same rfl rfl rfl rfl rfl) (beginSequenceHeader_advances _)
    · exact .refl v
  · split
    · exact Advances.trans (by exact .same rfl rfl rfl rfl rfl) (beginPicture_advances _)
    · exact .refl v
  · split
    · exact .same rfl rfl rfl rfl rfl
    · exact v.afterSlice_advances x
  · exact v.afterSlice_advances x
  · exact .refl v

theorem Video.startCodeExhausted_advances (v : Video) : v.Advances v.startCodeExhausted := by
  unfold Video.startCodeExhausted
  split
  · exact .same rfl rfl rfl rfl rfl
  · exact v.endOfPictures_advances
  · exact Advances.trans (by exact .same rfl rfl rfl rfl rfl) (endPicture_advances _)
  · exact Advances.trans (by exact .same rfl rfl rfl rfl rfl) (endPicture_advances _)
  · exact .refl v

/-! ### Every row -/

theorem Video.takeCodeword_advances (n : Nat) (v : Video) : v.Advances (v.takeCodeword n) :=
  .of_reader (BitReader.takeOnes_follows _ _) rfl rfl rfl rfl

theorem readEscapeLevel_follows (b : BitReader) : b.Follows (readEscapeLevel b).2 := by
  have h := b.read_follows 8
  have k := h.trans (BitReader.read_follows 8 _)
  unfold readEscapeLevel
  generalize b.read 8 = x at h k ⊢
  obtain ⟨level8, c⟩ := x
  simp only at h k ⊢
  split
  · exact k
  · split
    · exact k
    · exact h

theorem Video.startCodeRow_advances (x : Byte) (v : Video) : v.Advances (v.startCodeRow x) :=
  .trans (by exact .of_reader (v.br.take_follows 32) rfl rfl rfl rfl)
    (startCodeArrived_advances x { v with br := v.br.take 32 })

theorem Video.coefficientRow_advances (len run level : Nat) (sign : Bool) (v : Video) :
    v.Advances (v.coefficientRow len run level sign) :=
  .trans
    (by exact .of_reader ((v.br.takeOnes_follows len).trans (BitReader.take_follows 1 _)) rfl rfl rfl rfl)
    (placeCoefficient_advances run (signedLevel sign level)
      { v with br := (v.br.takeOnes len).take 1 })

theorem Video.completedEscapeRow_advances (len : Nat) (widths : List Nat) (run : BitVec 6)
    (level : Int) (v : Video) : v.Advances (v.completedEscapeRow len widths run level) :=
  .trans
    (by exact .of_reader ((v.br.takeOnes_follows len).trans (BitReader.takeFields_follows widths _))
          rfl rfl rfl rfl)
    (placeCoefficient_advances run.toNat level
      { v with br := (v.br.takeOnes len).takeFields widths })

theorem Video.escapeRow_advances (len : Nat) (v : Video) : v.Advances (v.escapeRow len) := by
  have h := v.takeCodeword_advances len
  unfold Video.escapeRow
  generalize v.takeCodeword len = w at h ⊢
  have k := w.br.read_follows 6
  simp only
  generalize w.br.read 6 = x at k ⊢
  obtain ⟨run, br⟩ := x
  simp only at k ⊢
  have j := k.trans (readEscapeLevel_follows br)
  generalize readEscapeLevel br = y at j ⊢
  exact h.trans (.trans (by exact .of_reader j rfl rfl rfl rfl)
    (placeCoefficient_advances run y.1 { w with br := y.2 }))

theorem readDcDifferential_follows (z : Nat) (b : BitReader) :
    b.Follows (readDcDifferential z b).2 :=
  b.take_follows z

theorem Video.dcSizeRow_advances (len z : Nat) (v : Video) : v.Advances (v.dcSizeRow len z) := by
  have h := v.takeCodeword_advances len
  unfold Video.dcSizeRow
  generalize v.takeCodeword len = w at h ⊢
  exact h.trans (.of_reader (readDcDifferential_follows z w.br) rfl rfl rfl rfl)

/-- What every row of the video stream can do to the reader and the error registers. -/
theorem VideoEffect.apply_advances (e : VideoEffect) (v : Video) : v.Advances (e.apply v) := by
  cases e with
  | startCode x => exact v.startCodeRow_advances x
  | sequenceHeader h => exact v.sequenceHeaderRow_advances h
  | pictureHeader h => exact v.pictureHeaderRow_advances h
  | sliceHeader h => exact v.sliceHeaderRow_advances h
  | address len t =>
    exact ((v.takeCodeword_advances len).trans (by exact .same rfl rfl rfl rfl rfl)).trans
      (Video.updateAddress_advances _)
  | stuffing len => exact (v.takeCodeword_advances len).trans (.same rfl rfl rfl rfl rfl)
  | addressEscape len => exact (v.takeCodeword_advances len).trans (.same rfl rfl rfl rfl rfl)
  | type len t => exact (v.takeCodeword_advances len).trans (Video.macroblockHeader_advances _ _)
  | pattern len p =>
    exact ((v.takeCodeword_advances len).trans (by exact .same rfl rfl rfl rfl rfl)).trans
      (Video.blocksFrom_advances _ _)
  | motionZero len => exact (v.takeCodeword_advances len).trans (Video.motionElement_advances _ _)
  | motion len m sign => exact (v.takeCodeword_advances _).trans (Video.motionElement_advances _ _)
  | dcSize len z => exact v.dcSizeRow_advances len z
  | endOfBlock len => exact (v.takeCodeword_advances len).trans (Video.endBlock_advances _)
  | coefficient len run level sign => exact v.coefficientRow_advances len run level sign
  | escape len => exact v.escapeRow_advances len
  | completedEscape len widths run level => exact v.completedEscapeRow_advances len widths run level
  | reserved len => exact (v.takeCodeword_advances len).trans (Video.sliceError_advances _ _)

end Sys2Proof.Machine
end

