-- ==== Sys2Proof/Laws/AudioFetch.lean ====
section
/-! SUPPORT. What the header search of the audio engine can answer: the row at a syncword, with every bit stored
that its rules read, or the end of the command; and that bytes written behind a header it waits for change
nothing of what it finds. -/

namespace Sys2Proof.Machine

/-- A row of a header is decoded at the cursor, and the engine is as it was. -/
theorem headerAt_row {a b : Audio} {i : Instr} (h : headerAt a = .row i b) :
    b = a ∧ ∃ rest, decode .mp2Header (window .mp2Header a.br) = .ok (i, rest) := by
  unfold headerAt at h
  split at h
  · rename_i j rest e
    obtain ⟨rfl, rfl⟩ : j = i ∧ a = b := by simpa using h
    exact ⟨rfl, rest, e⟩
  · cases h

/-! ### Behind a search -/

/-- With 37 bits behind the syncword, the header is the row at the syncword (R903). -/
theorem headerBehindSearch_of_stored {a : Audio} (h : 37 ≤ a.br.avail) :
    headerBehindSearch a = headerAt { a with br.bitIndex := a.br.bitIndex - 11 } := by
  simp [headerBehindSearch, BitReader.has_snd_of_le h]

/-- With fewer, the command ends with the cursor on the syncword (R903). -/
theorem headerBehindSearch_of_short {a : Audio} (h : a.br.avail < 37) :
    headerBehindSearch a =
      .ended { a with br := { a.br.short with bitIndex := a.br.bitIndex - 11 } }.returnNone := by
  simp [headerBehindSearch, BitReader.has, Nat.not_le.2 h, BitReader.short]

/-- A row behind a search: 37 bits are stored, and only the cursor has moved, back to the syncword. -/
theorem headerBehindSearch_row {a b : Audio} {i : Instr} (h : headerBehindSearch a = .row i b) :
    37 ≤ a.br.avail ∧ b = { a with br.bitIndex := a.br.bitIndex - 11 } := by
  by_cases k : 37 ≤ a.br.avail
  · exact ⟨k, (headerAt_row (headerBehindSearch_of_stored k ▸ h)).1⟩
  · rw [headerBehindSearch_of_short (Nat.not_le.1 k)] at h
    cases h

/-! ### Behind stuffing -/

/-- No header reads more than 48 bits (R902, R904-R907). -/
theorem Audio.headerReads_le (i : Instr) (a : Audio) : a.headerReads i ≤ 48 := by
  unfold Audio.headerReads
  split
  · split <;> [omega; split <;> [omega; split <;> [omega; split <;> omega]]]
  · omega

/-- With the bits stored that its rules read, the header is the row at the syncword (R902). -/
theorem headerBehindStuffing_of_stored {a : Audio} {i : Instr} (h : headerAt a = .row i a)
    (k : a.headerReads i ≤ a.br.avail) : headerBehindStuffing a = .row i a := by
  simp [headerBehindStuffing, h, BitReader.has_snd_of_le k]

/-- With fewer, the command ends with the cursor on the syncword (R1162). -/
theorem headerBehindStuffing_of_short {a : Audio} {i : Instr} (h : headerAt a = .row i a)
    (k : a.br.avail < a.headerReads i) :
    headerBehindStuffing a = .ended { a with br := a.br.short }.returnNone := by
  simp [headerBehindStuffing, h, BitReader.has, Nat.not_le.2 k]

/-- A row behind stuffing: the bits are stored that its rules read, and nothing has moved. -/
theorem headerBehindStuffing_row {a b : Audio} {i : Instr} (h : headerBehindStuffing a = .row i b) :
    b = a ∧ headerAt a = .row i a ∧ a.headerReads i ≤ a.br.avail := by
  unfold headerBehindStuffing at h
  split at h
  · rename_i j c e
    obtain ⟨rfl, -⟩ := headerAt_row e
    by_cases k : c.headerReads j ≤ c.br.avail
    · simp only [BitReader.has_snd_of_le k, if_true, AudioFetch.row.injEq] at h
      obtain ⟨rfl, rfl⟩ := h
      exact ⟨rfl, e, k⟩
    · simp [BitReader.has, k] at h
  · rename_i n
    exact absurd h (n i b)

/-! ### The header search -/

/-- A row that the audio engine fetches stands at a syncword: the one behind the stuffing (R902), or the one
that the search has found (R903). -/
theorem fetchAudio_row {a b : Audio} {i : Instr} (h : fetchAudio a = .row i b) :
    a.pos = .header ∧
      let c := (a.br.skipBytes 0x00).2
      ((c.read 11).1 = 0x7FF ∧ headerBehindStuffing { a with br := c } = .row i b) ∨
        ((c.read 11).1 ≠ 0x7FF ∧ (c.take 11).findFrameSync.1 = true ∧
          headerBehindSearch { a.raise .resync with br := (c.take 11).findFrameSync.2 } = .row i b) := by
  unfold fetchAudio at h
  split at h
  · rename_i e
    refine ⟨e, ?_⟩
    dsimp only at h ⊢
    split at h
    · exact .inl ⟨‹_›, h⟩
    · unfold resync at h
      dsimp only at h
      split at h
      · exact .inr ⟨‹_›, ‹_›, h⟩
      · cases h
  · cases h

/-- Every bit that its rules read of a fetched header is stored (R902, R903, R1162). -/
theorem fetchAudio_row_stored {a b : Audio} {i : Instr} (h : fetchAudio a = .row i b) :
    b.headerReads i ≤ b.br.avail := by
  rcases (fetchAudio_row h).2 with ⟨-, k⟩ | ⟨-, f, k⟩
  · obtain ⟨rfl, -, l⟩ := headerBehindStuffing_row k
    exact l
  · obtain ⟨l, rfl⟩ := headerBehindSearch_row k
    refine (Audio.headerReads_le _ _).trans ?_
    have m := BitReader.findFrameSync_found f
    simp only [BitReader.avail, BitReader.length] at l ⊢
    omega

/-- A syncword behind the stuffing: R904 goes on there (R902). -/
theorem fetchAudio_of_sync {a : Audio} (p : a.pos = .header)
    (h : ((a.br.skipBytes 0x00).2.read 11).1 = 0x7FF) :
    fetchAudio a = headerBehindStuffing { a with br := (a.br.skipBytes 0x00).2 } := by
  unfold fetchAudio
  rw [p]
  exact if_pos h

/-- A syncword behind the stuffing with the bits stored that its rules read: its header is the row there
(R902). -/
theorem fetchAudio_of_stored {a : Audio} {i : Instr} (p : a.pos = .header)
    (h : ((a.br.skipBytes 0x00).2.read 11).1 = 0x7FF)
    (e : headerAt { a with br := (a.br.skipBytes 0x00).2 } = .row i { a with br := (a.br.skipBytes 0x00).2 })
    (k : a.headerReads i ≤ (a.br.skipBytes 0x00).2.avail) :
    fetchAudio a = .row i { a with br := (a.br.skipBytes 0x00).2 } := by
  rw [fetchAudio_of_sync p h]
  exact headerBehindStuffing_of_stored e k

/-- With fewer, the command ends with the cursor on the syncword (R1162). -/
theorem fetchAudio_of_short {a : Audio} {i : Instr} (p : a.pos = .header)
    (h : ((a.br.skipBytes 0x00).2.read 11).1 = 0x7FF)
    (e : headerAt { a with br := (a.br.skipBytes 0x00).2 } = .row i { a with br := (a.br.skipBytes 0x00).2 })
    (k : (a.br.skipBytes 0x00).2.avail < a.headerReads i) :
    fetchAudio a = .ended { a with br := (a.br.skipBytes 0x00).2.short }.returnNone := by
  rw [fetchAudio_of_sync p h]
  exact headerBehindStuffing_of_short e k

/-- Bytes written behind a header that the engine has met behind stuffing: it finds the same from the syncword
on as from before the stuffing (R902, R1162). -/
theorem fetchAudio_append {a : Audio} (p : a.pos = .header) (bytes : List Byte) (ended : Bool)
    (k : 8 ≤ (a.br.skipBytes 0x00).2.avail) :
    fetchAudio { a with br := { (a.br.skipBytes 0x00).2 with bytes := a.br.bytes ++ bytes, ended := ended } } =
      fetchAudio { a with br := { a.br with bytes := a.br.bytes ++ bytes, ended := ended } } := by
  have e := BitReader.skipBytes_append (v := 0x00) bytes ended k
  have f := BitReader.skipBytes_append (v := 0x00) (b := (a.br.skipBytes 0x00).2) bytes ended
    (by rw [BitReader.skipBytes_again k]; exact k)
  have g : (a.br.skipBytes 0x00).2.bytes = a.br.bytes := (a.br.skipBytes_follows 0x00).bytes
  rw [BitReader.skipBytes_again k, g] at f
  simp only [fetchAudio, p, e, f]

end Sys2Proof.Machine
end

