-- ==== Sys2Proof/Laws/Endings.lean ====
section
/-! SUPPORT. How an element ends: the delivery of a response word in the terms of Safety.lean, and a start
code as the row of its value. -/

namespace Sys2Proof.Machine

/-! ### Delivery -/

/-- An element that does not end its command delivers nothing. -/
theorem deliverVideo_of_unfinished {s : State} (h : s.v.pos ≠ .finished) : deliverVideo s = s := by
  simp [deliverVideo, h]

/-- The response word of VDECODE, field by field (R1152). -/
theorem videoResponse_eq (v : Video) :
    videoResponse v = responseWord v.outFrame.isSome v.br.needData v.br.ended v.raised
      (match v.outFrame with
       | some f => f.val
       | none => 0) := by
  unfold videoResponse
  rcases v.outFrame with _ | f
  · rcases v.br.needData <;> rcases v.br.ended <;> rcases v.raised <;> rfl
  · fin_cases f <;> rcases v.br.needData <;> rcases v.br.ended <;> rcases v.raised <;> rfl

/-- An element that ends its VDECODE returns. -/
theorem deliverVideo_of_finished {v : Video} (s : State) (h : v.pos = .finished) :
    deliverVideo { s with v := v } = videoReturns v s := by
  simp only [deliverVideo, h, if_true, videoReturns, videoResponse_eq] <;> rfl

/-- The response word of ADECODE, field by field (R1152). -/
theorem audioResponse_eq (a : Audio) :
    audioResponse a = responseWord a.outValid a.br.needData a.br.ended a.raised 0 := by
  unfold audioResponse
  rcases a.outValid <;> rcases a.br.needData <;> rcases a.br.ended <;> rcases a.raised <;> rfl

/-- An element that ends its ADECODE returns. -/
theorem deliverAudio_of_finished {a : Audio} (s : State) (h : a.pos = .finished) :
    deliverAudio { s with a := a } = audioReturns a s := by
  simp only [deliverAudio, h, if_true, audioReturns, audioResponse_eq]

/-- An audio element that does not end its command delivers nothing. -/
theorem deliverAudio_of_unfinished {s : State} (h : s.a.pos ≠ .finished) : deliverAudio s = s := by
  simp [deliverAudio, h]

/-- What the position was does not matter to the state a VDECODE returns in. -/
@[simp] theorem videoReturns_pos (v : Video) (p : VideoPos) (s : State) :
    videoReturns { v with pos := p } s = videoReturns v s := rfl

/-- What the position was does not matter to the state an ADECODE returns in. -/
@[simp] theorem audioReturns_pos (a : Audio) (p : AudioPos) (s : State) :
    audioReturns { a with pos := p } s = audioReturns a s := rfl

/-! ### Start codes -/

/-- The row of a start-code value is the shared operation on that value. -/
theorem videoEffect_startCodeInstr (x : Byte) : videoEffect (startCodeInstr x) = some (.startCode x) := by
  by_cases h0 : x = 0x00
  · subst h0; rfl
  by_cases h1 : x.toNat ≤ 0xAF
  · have h : startCodeInstr x = .sliceStart x := by rw [startCodeInstr, if_neg h0, if_pos h1]
    rw [h]; rfl
  by_cases h2 : 0xBC ≤ x.toNat
  · have h : startCodeInstr x = .streamIdStart x := by
      rw [startCodeInstr, if_neg h0, if_neg h1, if_pos h2]
    rw [h]; rfl
  have h : x ∈ [0xB0, 0xB1, 0xB2, 0xB3, 0xB4, 0xB5, 0xB6, 0xB7, 0xB8, 0xB9, 0xBA, 0xBB] := by
    simp only [List.mem_cons, List.not_mem_nil, or_false, BitVec.toNat_eq, BitVec.ofNat_eq_ofNat,
      BitVec.toNat_ofNat]
    omega
  simp only [List.mem_cons, List.not_mem_nil, or_false] at h
  rcases h with rfl | rfl | rfl | rfl | rfl | rfl | rfl | rfl | rfl | rfl | rfl | rfl <;> rfl

/-- What a start code does, as one equation. -/
theorem exec_startCodeInstr (x : Byte) (s : State) :
    exec (startCodeInstr x) s = .next (deliverVideo { s with v := s.v.startCodeRow x }) :=
  exec_videoRow_next (videoEffect_startCodeInstr x) s

end Sys2Proof.Machine
end

