-- ==== Sys2Proof/Laws/Picture.lean ====
section
/-! SUPPORT. Why no sample access lies outside its plane (R204): the position of an address of the picture lies
in the picture, the address update lets no other address through, and a write inside a plane keeps every
written sample inside its plane. -/

namespace Sys2Proof.Machine

/-! ### Position -/

/-- A quotient or remainder of naturals that fits 9 bits is held as it is (R106). -/
theorem toNat_ofInt9 {n : Nat} (h : n < 512) : (BitVec.ofInt 9 (n : Int)).toNat = n := by
  rw [BitVec.ofInt_natCast, BitVec.toNat_ofNat]
  exact Nat.mod_eq_of_lt h

/-- The row and the column of an address of the picture (R206): they lie in the picture, and they are the
address again. -/
theorem Video.locate_inside {v : Video} {a w h : Nat} (address : v.macroblockAddress.toInt = a)
    (width : v.mbWidth.toNat = w) (inside : a < w * h) (hw : w ≤ 256) (hh : h ≤ 256) :
    v.locate.mbRow.toNat = a / w ∧ v.locate.mbCol.toNat = a % w ∧ a / w < h ∧ a % w < w := by
  have pos : 0 < w := Nat.pos_of_mul_pos_right (Nat.zero_lt_of_lt inside)
  have row : a / w < h := Nat.div_lt_of_lt_mul inside
  have col : a % w < w := Nat.mod_lt _ pos
  refine ⟨?_, ?_, row, col⟩
  · rw [Video.locate_mbRow, address, width, ← Int.ofNat_tdiv, toNat_ofInt9 (by omega)]
  · rw [Video.locate_mbCol, address, width, ← Int.ofNat_tmod, toNat_ofInt9 (by omega)]

/-! ### A write inside a plane -/

/-- A write below `n` keeps every index below `n`. -/
theorem Memory.below_write {n i : Nat} {m : Memory} (h : Memory.below n m) (x : Byte) (k : i < n) :
    Memory.below n (Memory.write m i x) := by
  induction m with
  | nil => simpa [Memory.below, Memory.write] using k
  | cons c t ih =>
    obtain ⟨j, y⟩ := c
    simp only [Memory.below, List.all_cons, Bool.and_eq_true, decide_eq_true_eq] at h ih ⊢
    unfold Memory.write
    split
    · simp [k, h.1, h.2]
    · split
      · simp [k, h.2]
      · simp [h.1, ih h.2]

/-- What every sample access of an engine needs to lie in its plane: legal sizes, and a position in the picture. -/
structure Video.Placed (v : Video) : Prop where
  sizes : v.sizesLegal = true
  row : v.mbRow.toNat < v.mbHeight.toNat
  col : v.mbCol.toNat < v.mbWidth.toNat

/-- Nothing that samples only change places the engine elsewhere. -/
theorem Video.Placed.samplesOnly {v w : Video} (h : v.Placed) (k : v.SamplesOnly w) : w.Placed := by
  rw [k]
  exact ⟨h.sizes, h.row, h.col⟩

/-- Two states that differ in samples only have planes of the same sizes. -/
theorem Video.SamplesOnly.planeSize {v w : Video} (h : v.SamplesOnly w) : w.planeSize = v.planeSize := by
  rw [h]
  rfl

/-- A write inside its plane keeps every sample of the frame inside its plane. -/
theorem Frame.below_write {size : Plane → Nat} {f : Frame} (h : f.below size) (p : Plane) {i : Nat} (x : Byte)
    (k : i < size p) : (f.setPlane p ((f.plane p).write i x)).below size := by
  simp only [Frame.below, Bool.and_eq_true] at h
  cases p <;> simp [Frame.below, Frame.setPlane, Frame.plane, Memory.below_write, h, k]

/-- A write inside its plane keeps every sample inside its plane (R204). -/
theorem Video.samplesInside_planeWrite {v : Video} (h : v.samplesInside) (f : Fin 3) (p : Plane) {i : Nat}
    (x : Byte) (k : i < v.planeSize p) : (v.planeWrite f p i x).samplesInside := by
  rw [Video.samplesInside, (v.planeWrite_samplesOnly f p i x).planeSize]
  simp only [Video.samplesInside, Bool.and_eq_true] at h
  fin_cases f <;> simp [Video.planeWrite, Video.setFrame, Video.frame, Frame.below_write, h, k]

/-- A row of writes inside a plane, one after another. -/
theorem Video.samplesInside_foldl {v : Video} (h : v.samplesInside) (g : Video → Nat → Video) (n : Nat)
    (only : ∀ (w : Video) k, w.SamplesOnly (g w k))
    (inside : ∀ (w : Video) k, v.SamplesOnly w → k < n → w.samplesInside → (g w k).samplesInside) :
    ((List.range n).foldl g v).samplesInside := by
  induction n with
  | zero => exact h
  | succ n ih =>
    rw [List.range_succ, List.foldl_append]
    exact inside _ n (v.foldl_samplesOnly g only _) (Nat.lt_succ_self n)
      (ih fun w k o l => inside w k o (Nat.lt_succ_of_lt l))

/-! ### Prediction and reconstruction -/

/-- Row `y` and column `x` of a plane that is `size` samples a macroblock wide and high. -/
theorem index_in_plane {size row col w h y x : Nat} (hr : row < h) (hc : col < w) (hy : y < size) (hx : x < size) :
    (row * size + y) * (size * w) + (col * size + x) < size * w * (size * h) := by
  have a : row * size + y + 1 ≤ size * h := by
    have := Nat.mul_le_mul_right size (Nat.succ_le_of_lt hr)
    rw [Nat.succ_mul, Nat.mul_comm h] at this
    omega
  have b : col * size + x + 1 ≤ size * w := by
    have := Nat.mul_le_mul_right size (Nat.succ_le_of_lt hc)
    rw [Nat.succ_mul, Nat.mul_comm w] at this
    omega
  have c := Nat.mul_le_mul_left (size * w) a
  rw [Nat.mul_succ, Nat.mul_comm (size * w) (row * size + y)] at c
  omega

/-- The size of a macroblock in a plane (R206). -/
def Plane.blockSize : Plane → Nat
  | .y => 16
  | .cb => 8
  | .cr => 8

/-- The sizes of the planes, in macroblocks (R205). -/
theorem Video.planeWidth_of_legal {v : Video} (h : v.sizesLegal) (p : Plane) :
    v.planeWidth p = p.blockSize * v.mbWidth.toNat ∧ v.planeHeight p = p.blockSize * v.mbHeight.toNat := by
  simp only [Video.sizesLegal, Bool.and_eq_true, beq_iff_eq, decide_eq_true_eq] at h
  cases p <;> simp only [Video.planeWidth, Video.planeHeight, Plane.blockSize] <;> omega

/-- Every sample of the macroblock lies in its plane (R206). -/
theorem Video.predictionIndex_lt {v : Video} (h : v.Placed) (p : Plane) {k : Nat}
    (l : k < p.blockSize * p.blockSize) : v.predictionIndex p p.blockSize k < v.planeSize p := by
  obtain ⟨w, e⟩ := v.planeWidth_of_legal h.sizes p
  have pos : 0 < p.blockSize := by cases p <;> decide
  rw [Video.predictionIndex, Video.planeSize, w, e, Nat.add_assoc]
  exact index_in_plane h.row h.col (Nat.div_lt_of_lt_mul l) (Nat.mod_lt _ pos)

/-- PLANE_PREDICT writes inside its plane (R805, R204). -/
theorem Video.planePredict_inside {v : Video} (h : v.samplesInside) (placed : v.Placed) (average : Bool)
    (s : Fin 3) (p : Plane) (mh mv : Int) : (v.planePredict average s p mh mv p.blockSize).samplesInside := by
  unfold Video.planePredict
  split
  · refine Video.samplesInside_foldl h _ _ (fun w k => w.planeWrite_samplesOnly _ _ _ _) fun w k o l i => ?_
    exact Video.samplesInside_planeWrite i _ p _ (Video.predictionIndex_lt (placed.samplesOnly o) p l)
  · exact h

theorem Video.predictFrom_inside {v : Video} (h : v.samplesInside) (placed : v.Placed) (average : Bool)
    (s : Fin 3) (vector : Int × Int) : (v.predictFrom average s vector).samplesInside := by
  have y := Video.planePredict_inside h placed average s .y vector.1 vector.2
  have placed := placed.samplesOnly (v.planePredict_samplesOnly average s .y vector.1 vector.2 16)
  have cb := Video.planePredict_inside y placed average s .cb (halveVector vector.1) (halveVector vector.2)
  have placed := placed.samplesOnly (Video.planePredict_samplesOnly average s .cb (halveVector vector.1)
    (halveVector vector.2) 8 _)
  exact Video.planePredict_inside cb placed average s .cr _ _

/-- PREDICT_MACROBLOCK writes inside the planes (R809, R204). -/
theorem Video.predictMacroblock_inside {v : Video} (h : v.samplesInside) (placed : v.Placed) :
    v.predictMacroblock.samplesInside := by
  unfold Video.predictMacroblock
  dsimp only
  split
  · split
    · split
      · exact Video.predictFrom_inside (Video.predictFrom_inside h placed ..)
          (placed.samplesOnly (v.predictFrom_samplesOnly ..)) ..
      · exact Video.predictFrom_inside h placed ..
    · exact Video.predictFrom_inside h placed ..
  · exact Video.predictFrom_inside h placed ..

/-- All 64 indices of a block lie in its plane (R714). -/
theorem Video.blockTarget_index_lt {v : Video} (h : v.Placed) (i : Nat) {k : Nat} (l : k < 64) :
    (v.blockTarget i).index k < v.planeSize (v.blockTarget i).plane := by
  have sizes := v.planeWidth_of_legal h.sizes
  have y : k / 8 < 8 := by omega
  have x : k % 8 < 8 := Nat.mod_lt _ (by decide)
  have luma : ∀ b c, b ≤ 8 → c ≤ 8 →
      (v.mbRow.toNat * v.lumaWidth.toNat + v.mbCol.toNat) * 16 + b + c * v.lumaWidth.toNat +
        k / 8 * v.lumaWidth.toNat + k % 8 < v.planeSize .y := by
    intro b c hb hc
    obtain ⟨w, e⟩ := sizes .y
    have := index_in_plane (size := 16) h.row h.col (y := c + k / 8) (x := b + k % 8) (by omega) (by omega)
    simp only [Video.planeSize, w, e, Plane.blockSize] at this ⊢
    simp only [Video.planeWidth, Plane.blockSize] at w
    rw [w]
    refine lt_of_eq_of_lt ?_ this
    ring
  have chroma : ∀ p : Plane, p ≠ .y →
      v.mbRow.toNat * v.lumaWidth.toNat * 4 + v.mbCol.toNat * 8 + k / 8 * v.planeWidth p + k % 8 <
        v.planeSize p := by
    intro p hp
    obtain ⟨w, e⟩ := sizes p
    have l := (sizes .y).1
    have := index_in_plane (size := 8) h.row h.col y x
    simp only [Video.planeWidth, Plane.blockSize] at l
    simp only [Video.planeSize, w, e, l]
    have s : p.blockSize = 8 := by cases p <;> [exact absurd rfl hp; rfl; rfl]
    rw [s]
    refine lt_of_eq_of_lt ?_ this
    ring
  unfold Video.blockTarget
  dsimp only
  split
  · simpa [BlockTarget.index] using luma 0 0 (by omega) (by omega)
  · simpa [BlockTarget.index] using luma 8 0 (by omega) (by omega)
  · simpa [BlockTarget.index, Nat.mul_comm] using luma 0 8 (by omega) (by omega)
  · simpa [BlockTarget.index, Nat.mul_comm] using luma 8 8 (by omega) (by omega)
  · exact chroma .cb (by decide)
  · exact chroma .cr (by decide)

/-- A block is written inside its plane (R714, R718-R720, R204). -/
theorem Video.reconstruct_inside {v : Video} (h : v.samplesInside) (placed : v.Placed) :
    v.reconstruct.samplesInside := by
  have := Video.samplesInside_foldl h
    (Video.writeBlockSample (inverseTransform v.blockData) (v.blockTarget v.block)) 64
    (fun w k => w.planeWrite_samplesOnly _ _ _ _) fun w k o l i => ?_
  · have cleared : ∀ w : Video, w.samplesInside → ({ w with blockData := zeroBlock } : Video).samplesInside :=
      fun _ h => h
    unfold Video.reconstruct
    exact cleared _ this
  · refine Video.samplesInside_planeWrite i _ _ _ ?_
    rw [o.planeSize]
    exact Video.blockTarget_index_lt placed _ l

/-! ### The address update (R605) -/

/-- A skip run moves the address on by its length; beyond that only the position, samples and causes change
(R605). -/
theorem Video.skipMacroblocks_eq (n : Nat) (v : Video) :
    v.skipMacroblocks n = { v with
      macroblockAddress := v.macroblockAddress + BitVec.ofNat 32 n
      mbRow := (v.skipMacroblocks n).mbRow
      mbCol := (v.skipMacroblocks n).mbCol
      fb0 := (v.skipMacroblocks n).fb0
      fb1 := (v.skipMacroblocks n).fb1
      fb2 := (v.skipMacroblocks n).fb2
      verr := (v.skipMacroblocks n).verr
      verrcnt := (v.skipMacroblocks n).verrcnt
      raised := (v.skipMacroblocks n).raised } := by
  induction n generalizing v with
  | zero => simp [Video.skipMacroblocks]
  | succ n ih =>
    have e := Video.predictMacroblock_samplesOnly
      { v with macroblockAddress := v.macroblockAddress + 1 }.locate
    rw [Video.skipMacroblocks]
    generalize Video.predictMacroblock _ = w at e ⊢
    conv_lhs => rw [ih w]
    have a : w.macroblockAddress + BitVec.ofNat 32 n = v.macroblockAddress + BitVec.ofNat 32 (n + 1) := by
      rw [e.macroblockAddress, Nat.add_comm n, BitVec.ofNat_add, ← BitVec.add_assoc]
      rfl
    rw [a, e]
    rfl

/-- The address register so many macroblocks on, far from the end of its range. -/
theorem toInt_add_ofNat {x : Word} {a n : Nat} (h : x.toInt = a) (k : a + n < 2 ^ 31) :
    (x + BitVec.ofNat 32 n).toInt = (a + n : Nat) := by
  rw [BitVec.toInt_add, BitVec.toInt_ofNat', h]
  simp only [Int.bmod]
  omega

/-- An address of the picture places the engine (R206, R605). -/
theorem Video.locate_placed {v : Video} {a : Nat} (sizes : v.sizesLegal) (address : v.macroblockAddress.toInt = a)
    (inside : a < v.mbSize.toNat) :
    v.locate.Placed ∧ (v.locate.mbRow.toNat * v.mbWidth.toNat + v.locate.mbCol.toNat : Nat) = a := by
  have legal := sizes
  simp only [Video.sizesLegal, Bool.and_eq_true, beq_iff_eq, decide_eq_true_eq] at legal
  obtain ⟨⟨⟨⟨⟨⟨⟨⟨-, hw⟩, -⟩, hh⟩, size⟩, -⟩, -⟩, -⟩, -⟩ := legal
  obtain ⟨row, col, r, c⟩ := Video.locate_inside address rfl (size ▸ inside) hw hh
  exact ⟨⟨sizes, row ▸ r, col ▸ c⟩, by rw [row, col]; exact Nat.div_add_mod' _ _⟩

/-- A picture has at most 65536 macroblocks (R502). -/
theorem Video.mbSize_le {v : Video} (sizes : v.sizesLegal) : v.mbSize.toNat ≤ 65536 := by
  simp only [Video.sizesLegal, Bool.and_eq_true, beq_iff_eq, decide_eq_true_eq] at sizes
  obtain ⟨⟨⟨⟨⟨⟨⟨⟨-, hw⟩, -⟩, hh⟩, size⟩, -⟩, -⟩, -⟩, -⟩ := sizes
  exact size ▸ Nat.mul_le_mul hw hh

/-- A skip run inside the picture writes inside the planes (R605, R204). -/
theorem Video.skipMacroblocks_inside {n a : Nat} {v : Video} (h : v.samplesInside) (sizes : v.sizesLegal)
    (address : v.macroblockAddress.toInt = a) (inside : a + n < v.mbSize.toNat) :
    (v.skipMacroblocks n).samplesInside := by
  induction n generalizing v a with
  | zero => exact h
  | succ n ih =>
    rw [Video.skipMacroblocks]
    have size := Video.mbSize_le sizes
    have next : ({ v with macroblockAddress := v.macroblockAddress + 1 } : Video).macroblockAddress.toInt =
      (a + 1 : Nat) := toInt_add_ofNat (n := 1) address (by omega)
    generalize e : ({ v with macroblockAddress := v.macroblockAddress + 1 } : Video) = u at next
    have hu : u.samplesInside := e ▸ h
    have su : u.sizesLegal := e ▸ sizes
    have mu : u.mbSize.toNat = v.mbSize.toNat := e ▸ rfl
    have placed := (Video.locate_placed su next (by omega)).1
    have only := u.locate.predictMacroblock_samplesOnly
    refine ih (Video.predictMacroblock_inside (v := u.locate) hu placed) ?_ (a := a + 1) ?_ ?_
    · exact (placed.samplesOnly only).sizes
    · rw [only.macroblockAddress]
      exact next
    · rw [only.mbSize, Video.locate_mbSize]
      omega

/-- The engine at a macroblock whose address lies in the picture (R605, R206). -/
theorem Video.locate_inPicture {v : Video} {a : Nat} (sizes : v.sizesLegal) (behind : v.sliceBegin = false)
    (address : v.macroblockAddress.toInt = a) (inside : a < v.mbSize.toNat) :
    ({ v.locate with pos := .macroblockType } : Video).macroblockInPicture := by
  obtain ⟨placed, e⟩ := Video.locate_placed sizes address inside
  have k : v.addressInPicture := by
    simp only [Video.addressInPicture, address, Bool.and_eq_true, decide_eq_true_eq]
    omega
  have l : v.locate.addressInPicture := k
  have c : v.locate.mbCol.toNat < v.mbWidth.toNat := placed.col
  show (!v.sliceBegin && v.locate.addressInPicture && decide (v.locate.mbCol.toNat < v.mbWidth.toNat) &&
    decide ((v.locate.mbRow.toNat * v.mbWidth.toNat + v.locate.mbCol.toNat : Nat) =
      v.macroblockAddress.toInt)) = true
  rw [behind, l, e, address, decide_eq_true c]
  simp

/-- The address update (R605) either ends the slice or leaves the engine at a macroblock of the picture, with
its row and its column (R206); every sample it writes on the way lies in its plane (R204). -/
theorem Video.updateAddress_inside {v : Video} (h : v.samplesInside) (sizes : v.sizesLegal)
    (some_ : 1 ≤ v.increment)
    (address : if v.sliceBegin then -1 ≤ v.macroblockAddress.toInt else v.addressInPicture) :
    v.updateAddress.samplesInside ∧ v.updateAddress.sizesLegal ∧
      (v.updateAddress.pos = .sliceSearch ∨
        v.updateAddress.pos = .macroblockType ∧ v.updateAddress.macroblockInPicture) := by
  have size := Video.mbSize_le sizes
  unfold Video.updateAddress
  dsimp only
  split
  · rename_i begins
    rw [if_pos begins] at address
    split
    · exact ⟨h, sizes, .inl rfl⟩
    · rename_i inside
      obtain ⟨a, e⟩ : ∃ a : Nat, v.macroblockAddress.toInt + v.increment = a :=
        ⟨_, (Int.toNat_of_nonneg (by omega)).symm⟩
      have stored : (storedAddress (v.macroblockAddress.toInt + v.increment)).toInt = a := by
        rw [e, storedAddress_of_fits (by omega) (by omega), BitVec.toInt_ofInt]
        simp [Int.bmod]
        omega
      exact ⟨h, sizes, .inr ⟨rfl, Video.locate_inPicture (a := a) sizes rfl stored
        (by show a < v.mbSize.toNat; omega)⟩⟩
  · rename_i begun
    rw [if_neg begun] at address
    split
    · exact ⟨h, sizes, .inl rfl⟩
    · rename_i inside
      simp only [Video.addressInPicture, Bool.and_eq_true, decide_eq_true_eq] at address
      obtain ⟨a, e⟩ : ∃ a : Nat, v.macroblockAddress.toInt = a :=
        ⟨_, (Int.toNat_of_nonneg address.1).symm⟩
      have reset : ∃ u : Video, (if 1 < v.increment then v.resetForSkip else v) = u ∧
          u.samplesInside ∧ u.sizesLegal ∧ u.macroblockAddress = v.macroblockAddress ∧
          u.mbSize = v.mbSize ∧ u.sliceBegin = v.sliceBegin ∧ u.increment = v.increment := by
        refine ⟨_, rfl, ?_⟩
        unfold Video.resetForSkip
        dsimp only
        split
        · split <;> exact ⟨h, sizes, rfl, rfl, rfl, rfl⟩
        · exact ⟨h, sizes, rfl, rfl, rfl, rfl⟩
      obtain ⟨u, eu, hu, su, au, mu, bu, iu⟩ := reset
      rw [eu, iu]
      have samples := Video.skipMacroblocks_inside (n := v.increment - 1) (a := a) hu su (au ▸ e)
        (by rw [mu]; omega)
      have all := u.skipMacroblocks_eq (v.increment - 1)
      generalize u.skipMacroblocks (v.increment - 1) = w at samples all ⊢
      have sw : w.sizesLegal := by rw [all]; exact su
      have mw : w.mbSize = v.mbSize := by rw [all]; exact mu
      have bw : w.sliceBegin = false := by rw [all]; exact bu.trans (by simpa using begun)
      have aw : (w.macroblockAddress + 1).toInt = (a + v.increment : Nat) := by
        rw [all]
        show (u.macroblockAddress + BitVec.ofNat 32 (v.increment - 1) + BitVec.ofNat 32 1).toInt = _
        rw [au, BitVec.add_assoc, ← BitVec.ofNat_add, Nat.sub_add_cancel some_]
        exact toInt_add_ofNat e (by omega)
      exact ⟨samples, sw, .inr ⟨rfl, Video.locate_inPicture (a := a + v.increment) sw bw aw
        (by show _ < w.mbSize.toNat; rw [mw]; omega)⟩⟩

end Sys2Proof.Machine
end

