-- ==== Sys2Proof/Laws/Surds.lean ====
section
/-! SUPPORT. What the arithmetic of exact numbers does to the real numbers they stand for: one lemma per
operation of AudioNumber.lean that adds, and the small lemmas of the empty number. -/

namespace Sys2Proof.Machine

/-- The real number of key `k`: `cos (c * pi / 64) * 2 ^ (t / 3)` with `k = 3 * c + t`. -/
noncomputable def surdUnit (k : Nat) : ℝ :=
  Real.cos ((k / 3 : Nat) * Real.pi / 64) * (2 : ℝ) ^ (((k % 3 : Nat) : ℝ) / 3)

@[simp] theorem surdValue_nil : surdValue [] = 0 := rfl

@[simp] theorem surdValue_cons (e : Nat × Rat) (x : Surd) :
    surdValue (e :: x) = e.2 * surdUnit e.1 + surdValue x := by
  simp [surdValue, surdUnit, mul_assoc]

@[simp] theorem windowValue_nil (d : Nat → ℝ) : windowValue d [] = 0 := rfl

@[simp] theorem windowValue_cons (d : Nat → ℝ) (e : Nat × Surd) (x : WindowSum) :
    windowValue d (e :: x) = d e.1 * surdValue e.2 + windowValue d x := by
  simp [windowValue]

@[simp] theorem scaleSurd_nil (r : Rat) : scaleSurd r [] = [] := rfl

@[simp] theorem windowSurd_nil (d : Nat → Rat) : windowSurd d [] = [] := rfl

@[simp] theorem surdApprox_nil (p : Nat) : surdApprox p [] = 0 := rfl

@[simp] theorem surdApprox_cons (p : Nat) (e : Nat × Rat) (x : Surd) :
    surdApprox p (e :: x) = e.2 * productApprox p e.1 + surdApprox p x := by
  simp [surdApprox]

@[simp] theorem surdBounded_nil : surdBounded [] = true := rfl

@[simp] theorem surdBounded_cons (e : Nat × Rat) (x : Surd) :
    surdBounded (e :: x) = true ↔ e.1 < 96 ∧ surdBounded x = true := by
  simp [surdBounded]

/-- A term added. -/
theorem surdValue_addTerm (k : Nat) (q : Rat) (x : Surd) :
    surdValue (addTerm k q x) = q * surdUnit k + surdValue x := by
  induction x with
  | nil => by_cases h : q = 0 <;> simp [addTerm, h]
  | cons e x ih =>
    obtain ⟨j, p⟩ := e
    unfold addTerm
    split
    · by_cases h : q = 0 <;> simp [h]
    · split
      · subst k
        by_cases h : p + q = 0
        · have : (p : ℝ) + q = 0 := by exact_mod_cast h
          simp only [h, if_true, surdValue_cons]
          linear_combination -surdUnit j * this
        · simp only [h, if_false, surdValue_cons]
          push_cast
          ring
      · simp only [surdValue_cons, ih]
        ring

/-- The keys of a term added. -/
theorem surdBounded_addTerm {k : Nat} (q : Rat) {x : Surd} (h : k < 96) (b : surdBounded x = true) :
    surdBounded (addTerm k q x) = true := by
  induction x with
  | nil => unfold addTerm; split <;> simp [h]
  | cons e x ih =>
    obtain ⟨j, p⟩ := e
    simp only [surdBounded_cons] at b
    unfold addTerm
    repeat' split
    all_goals simp_all

/-- A sum. -/
theorem surdValue_addSurd (x y : Surd) : surdValue (addSurd x y) = surdValue x + surdValue y := by
  unfold addSurd
  induction x generalizing y with
  | nil => simp
  | cons e x ih =>
    rw [List.foldl_cons, ih, surdValue_addTerm, surdValue_cons]
    ring

/-- The keys of a sum. -/
theorem surdBounded_addSurd {x y : Surd} (h : surdBounded x = true) (k : surdBounded y = true) :
    surdBounded (addSurd x y) = true := by
  unfold addSurd
  induction x generalizing y with
  | nil => exact k
  | cons e x ih =>
    rw [surdBounded_cons] at h
    exact ih h.2 (surdBounded_addTerm e.2 h.1 k)

end Sys2Proof.Machine
end

