-- ==== Sys2Proof/Laws/TableRows.lean ====
section
/-! SUPPORT. The shared operation of every row of every VLC table: what the row's length and value say it
does. One lemma per table, closed by evaluating the table. -/

namespace Sys2Proof.Machine

/-- The increments of table MBA (R320, R604). -/
theorem address_rows : ∀ r ∈ mbaTable, ∀ inc ∈ r.value, inc ≤ 33 →
    1 ≤ inc ∧ videoEffect (r.make false) = some (.address r.len inc) := by decide +kernel

/-- Tables MBT_I, MBT_P and MBT_B (R321, R606). -/
theorem type_rows : ∀ T ∈ [mbtITable, mbtPTable, mbtBTable], ∀ r ∈ T, ∀ t ∈ r.value,
    t < 32 ∧ videoEffect (r.make false) = some (.type r.len (BitVec.ofNat 5 t)) := by decide +kernel

/-- Table CBP (R322, R610). -/
theorem pattern_rows : ∀ r ∈ cbpTable, ∀ p ∈ r.value,
    1 ≤ p ∧ p < 64 ∧ videoEffect (r.make false) = some (.pattern r.len (BitVec.ofNat 6 p)) := by
  decide +kernel

/-- Table MOTION (R323, R802). -/
theorem motion_rows : ∀ r ∈ motionTable, ∀ m ∈ r.value, ∀ sign, m ≤ 16 ∧
    videoEffect (r.make sign) = some (if m = 0 then .motionZero r.len else .motion r.len m sign) := by
  decide +kernel

/-- Tables DCT_DC_Y and DCT_DC_C (R324, R701). -/
theorem dcSize_rows : ∀ T ∈ [dcYTable, dcCTable], ∀ r ∈ T, ∀ z ∈ r.value,
    z ≤ 8 ∧ videoEffect (r.make false) = some (.dcSize r.len z) := by decide +kernel

/-- The coefficients of both forms of table DCT (R325, R707). -/
theorem coefficient_rows : ∀ T ∈ [dctFirstTable, dctNextTable], ∀ r ∈ T, r.signed = true →
    ∀ packed ∈ r.value, ∀ sign, videoEffect (r.make sign) =
      some (.coefficient r.len (packed / 256) (packed % 256) sign) := by decide +kernel

/-- The reserved prefixes of every table (R326). -/
theorem reserved_rows : ∀ T ∈ [mbaTable, mbtITable, mbtPTable, mbtBTable, cbpTable, motionTable,
      dcYTable, dcCTable, dctFirstTable, dctNextTable],
    ∀ r ∈ T, r.value = none → videoEffect (r.make false) = some (.reserved r.len) := by
  decide +kernel

end Sys2Proof.Machine
end

