-- ==== Sys2Proof/Tests/Slice0.lean ====
section
/-! SUPPORT. The model's own tests: the checks of WellFormed, the decoding of every row from a word written
out of its encoding in 30_encoding.md, small single steps whose expected values stand in
95_test_vectors.md, and a witness for the hypotheses of each statement. -/

open Sys2Proof Sys2Proof.Machine

namespace Sys2Proof.Tests

set_option Elab.async false

/-! ### Helpers -/

/-- The bits of a number after its leading 1. -/
def bitsAfterOne (n : Nat) : List Bool := bitsOfNat n.log2 n

/-- At a syntax position each word, written after a leading 1, decodes to its row with no bit left. -/
def decodesAll (p : SyntaxPosition) (l : List (Nat × Instr)) : Bool :=
  l.all fun e => (decode p (bitsAfterOne e.1)).toOption == some (e.2, [])

/-- A reader with its cursor at a bit of a store. -/
def readerAt (bytes : List Byte) (bit : Nat) : BitReader :=
  { BitReader.reset with bytes := bytes, bitIndex := bit }

/-- The block after reset with the VDE before an element at the start of a store. -/
def videoAt (pos : VideoPos) (bytes : List Byte) : State :=
  { State.reset with v := { Video.reset with br := readerAt bytes 0, pos := pos } }

/-- The block after reset with the ADE before a header at the start of a store. -/
def audioAt (bytes : List Byte) : State :=
  { State.reset with a := { Audio.reset with br := readerAt bytes 0, pos := .header } }

/-- What a field of the next state is. -/
def after (r : Result) (f : State → α) : Option α :=
  match r with
  | .next t => some (f t)
  | .fault _ => none
  | .refused _ => none

/-- The VDE sized for a picture of `w` by `h` macroblocks. -/
def sized (w h : Nat) (v : Video) : Video :=
  { v with
      mbWidth := BitVec.ofNat 9 w
      mbHeight := BitVec.ofNat 9 h
      mbSize := BitVec.ofNat 17 (w * h)
      lumaWidth := BitVec.ofNat 13 (16 * w)
      lumaHeight := BitVec.ofNat 13 (16 * h)
      chromaWidth := BitVec.ofNat 12 (8 * w)
      chromaHeight := BitVec.ofNat 12 (8 * h) }

/-- The number of samples a plane lists. -/
def listed (s : State) (f : Fin 3) (p : Plane) : Nat := ((s.v.frame f).plane p).length

/-! ### WellFormed: each check refuses an ill-formed term -/

theorem test_wf_slice_zero : (Instr.sliceStart 0x00).wellFormed = false := by decide

theorem test_wf_slice_beyond : (Instr.sliceStart 0xB0).wellFormed = false := by decide

theorem test_wf_stream_id : (Instr.streamIdStart 0xBB).wellFormed = false := by decide

theorem test_wf_intra_matrix :
    (Instr.sequenceHeader ⟨16, 16, 1, 5, 0, false, 0, false, some (List.replicate 63 8), none⟩).wellFormed
      = false := by decide

theorem test_wf_non_intra_matrix :
    (Instr.sequenceHeader ⟨16, 16, 1, 5, 0, false, 0, false, none, some (List.replicate 65 8)⟩).wellFormed
      = false := by decide

theorem test_wf_missing_forward : (Instr.pictureHeader ⟨0, 2, 0, none, none⟩).wellFormed = false := by decide

theorem test_wf_extra_forward :
    (Instr.pictureHeader ⟨0, 1, 0, some ⟨false, 1⟩, none⟩).wellFormed = false := by decide

theorem test_wf_missing_backward :
    (Instr.pictureHeader ⟨0, 3, 0, some ⟨false, 1⟩, none⟩).wellFormed = false := by decide

theorem test_wf_missing_crc :
    (Instr.mp2Header ⟨false, 1, 1, false, false, 3, 0, false, false, 0, none⟩).wellFormed = false := by
  decide

theorem test_wf_extra_crc :
    (Instr.mp2Header ⟨true, 1, 1, false, false, 3, 0, false, false, 0, some 0⟩).wellFormed = false := by
  decide

theorem test_wf_accepted_version : (Instr.mp2SyncOther ⟨3, 2, true, 0⟩).wellFormed = false := by decide

theorem test_wf_escape_levels :
    (Instr.dctEscapeShort 0 0x00).wellFormed = false ∧ (Instr.dctEscapeShort 0 0x80).wellFormed = false := by
  decide

/-! ### Decoding: one word for every row -/

/-- The twelve command codes of R1163. -/
theorem test_decode_host :
    ([(⟨0x01, [7], 0, 0⟩, .vwrite [7]), (⟨0x02, [], 0, 0⟩, .vsignalEnd), (⟨0x03, [], 0, 0⟩, .vdecode),
      (⟨0x04, [], 0, 0⟩, .vrewind), (⟨0x05, [], 1, 9⟩, .vframeRead 1 9), (⟨0x11, [7], 0, 0⟩, .awrite [7]),
      (⟨0x12, [], 0, 0⟩, .asignalEnd), (⟨0x13, [], 0, 0⟩, .adecode), (⟨0x14, [], 0, 0⟩, .arewind),
      (⟨0x15, [], 9, 0⟩, .asamplesRead 9), (⟨0x20, [], 2, 0⟩, .csrRead 2),
      (⟨0x21, [], 2, 5⟩, .csrWrite 2 5)] : List (HostCommand × Instr)).all
        (fun e => (decodeHost e.1).toOption == some e.2) = true := by decide +kernel

theorem test_decode_host_unassigned : (decodeHost ⟨0x06, [], 0, 0⟩).toOption = none := by decide +kernel

/-- The fifteen start codes of R302, the ranges at both ends. -/
theorem test_decode_start_codes :
    ([(0x100, .pictureStart), (0x101, .sliceStart 0x01), (0x1AF, .sliceStart 0xAF), (0x1B0, .reservedB0),
      (0x1B1, .reservedB1), (0x1B2, .userDataStart), (0x1B3, .sequenceHeaderStart), (0x1B4, .sequenceError),
      (0x1B5, .extensionStart), (0x1B6, .reservedB6), (0x1B7, .sequenceEnd), (0x1B8, .groupStart),
      (0x1B9, .iso11172End), (0x1BA, .packStart), (0x1BB, .systemHeaderStart), (0x1BC, .streamIdStart 0xBC),
      (0x1FF, .streamIdStart 0xFF)] : List (Nat × Instr)).all
        (fun e => (decode .startCode (bitsOfNat 32 e.1)).toOption == some (e.2, [])) = true := by
  decide +kernel

/-- The header of W10: 0A 00 78 15 FF FF E0 00. -/
theorem test_decode_sequence_header :
    (decode .sequenceHeader (bitsOfNat 64 0x0A007815FFFFE000)).toOption =
      some (.sequenceHeader ⟨160, 120, 1, 5, 0x3FFFF, true, 0, false, none, none⟩, []) := by
  decide +kernel

/-- A B picture: `u10:5 u3:3 u16:0xFFFF u1:0 u3:2 u1:1 u3:3` (R311). -/
theorem test_decode_picture_header :
    (decode .pictureHeader (bitsOfNat 37 0b0000000101_011_1111111111111111_0_010_1_011)).toOption =
      some (.pictureHeader ⟨5, 3, 0xFFFF, some ⟨false, 2⟩, some ⟨true, 3⟩⟩, []) := by decide +kernel

/-- A scale of 8, one extra byte, the end (R312). -/
theorem test_decode_slice_header :
    (decode .sliceHeader (bitsOfNat 15 0b01000_1_11111111_0)).toOption =
      some (.sliceHeader ⟨8, [0xFF]⟩, []) := by decide +kernel

/-- `FF FD 14 C0` and, with a CRC word, `FF FC 14 C0` (95_test_vectors.md section 2.8). -/
theorem test_decode_mp2_header :
    (decode .mp2Header (bitsOfNat 32 0xFFFD14C0)).toOption =
        some (.mp2Header ⟨true, 1, 1, false, false, 3, 0, false, false, 0, none⟩, []) ∧
      (decode .mp2Header (bitsOfNat 48 0xFFFC14C0ABCD)).toOption =
        some (.mp2Header ⟨false, 1, 1, false, false, 3, 0, false, false, 0, some 0xABCD⟩, []) := by
  decide +kernel

/-- `FF FB 14 C0`, layer 1, and `FF F5 14 C0`, version 2. -/
theorem test_decode_mp2_other :
    (decode .mp2Header (bitsOfNat 32 0xFFFB14C0)).toOption = some (.mp2SyncOther ⟨3, 1, true, 0x14C0⟩, []) ∧
      (decode .mp2Header (bitsOfNat 32 0xFFF514C0)).toOption =
        some (.mp2SyncOther ⟨2, 2, true, 0x14C0⟩, []) := by decide +kernel

/-- The three completed escapes (95_test_vectors.md section 2.2). -/
theorem test_decode_escapes : decodesAll .nextCoefficient [
    (0b1_000001_000011_00000101, .dctEscapeShort 3 5), (0b1_000001_000000_10000001, .dctEscapeShort 0 0x81),
    (0b1_000001_000000_00000000_11001000, .dctEscapeLongPos 0 200),
    (0b1_000001_000000_10000000_00111000, .dctEscapeLongNeg 0 56)] = true := by decide +kernel

theorem test_decode_mba : decodesAll .addressIncrement [
    (0b11, .mba1), (0b1011, .mba2), (0b1010, .mba3), (0b10011, .mba4), (0b10010, .mba5),
    (0b100011, .mba6), (0b100010, .mba7), (0b10000111, .mba8), (0b10000110, .mba9),
    (0b100001011, .mba10), (0b100001010, .mba11), (0b100001001, .mba12), (0b100001000, .mba13),
    (0b100000111, .mba14), (0b100000110, .mba15), (0b10000010111, .mba16), (0b10000010110, .mba17),
    (0b10000010101, .mba18), (0b10000010100, .mba19), (0b10000010011, .mba20), (0b10000010010, .mba21),
    (0b100000100011, .mba22), (0b100000100010, .mba23), (0b100000100001, .mba24),
    (0b100000100000, .mba25), (0b100000011111, .mba26), (0b100000011110, .mba27),
    (0b100000011101, .mba28), (0b100000011100, .mba29), (0b100000011011, .mba30),
    (0b100000011010, .mba31), (0b100000011001, .mba32), (0b100000011000, .mba33),
    (0b100000001111, .mbaStuffing), (0b100000001000, .mbaEscape), (0b100000000, .mbaReserved1),
    (0b100000001001, .mbaReserved2), (0b10000000101, .mbaReserved3), (0b10000000110, .mbaReserved4),
    (0b100000001110, .mbaReserved5), (0b100000010, .mbaReserved6)] = true := by
  decide +kernel

theorem test_decode_mbtI : decodesAll .typeI [
    (0b11, .mbtI01), (0b101, .mbtI11), (0b100, .mbtIReserved)] = true := by
  decide +kernel

theorem test_decode_mbtP : decodesAll .typeP [
    (0b11, .mbtP0A), (0b101, .mbtP02), (0b1001, .mbtP08), (0b100011, .mbtP01), (0b100010, .mbtP1A),
    (0b100001, .mbtP12), (0b1000001, .mbtP11), (0b1000000, .mbtPReserved)] = true := by
  decide +kernel

theorem test_decode_mbtB : decodesAll .typeB [
    (0b110, .mbtB0C), (0b111, .mbtB0E), (0b1010, .mbtB04), (0b1011, .mbtB06), (0b10010, .mbtB08),
    (0b10011, .mbtB0A), (0b100011, .mbtB01), (0b100010, .mbtB1E), (0b1000011, .mbtB1A),
    (0b1000010, .mbtB16), (0b1000001, .mbtB11), (0b1000000, .mbtBReserved)] = true := by
  decide +kernel

theorem test_decode_cbp_1 : decodesAll .codedBlockPattern [
    (0b1111, .cbp60), (0b11101, .cbp4), (0b11100, .cbp8), (0b11011, .cbp16), (0b11010, .cbp32),
    (0b110011, .cbp12), (0b110010, .cbp48), (0b110001, .cbp20), (0b110000, .cbp40), (0b101111, .cbp28),
    (0b101110, .cbp44), (0b101101, .cbp52), (0b101100, .cbp56), (0b101011, .cbp1), (0b101010, .cbp61),
    (0b101001, .cbp2), (0b101000, .cbp62), (0b1001111, .cbp24), (0b1001110, .cbp36),
    (0b1001101, .cbp3), (0b1001100, .cbp63), (0b10010111, .cbp5), (0b10010110, .cbp9),
    (0b10010101, .cbp17), (0b10010100, .cbp33), (0b10010011, .cbp6), (0b10010010, .cbp10),
    (0b10010001, .cbp18), (0b10010000, .cbp34), (0b100011111, .cbp7), (0b100011110, .cbp11),
    (0b100011101, .cbp19), (0b100011100, .cbp35), (0b100011011, .cbp13), (0b100011010, .cbp49),
    (0b100011001, .cbp21), (0b100011000, .cbp41), (0b100010111, .cbp14), (0b100010110, .cbp50),
    (0b100010101, .cbp22), (0b100010100, .cbp42), (0b100010011, .cbp15), (0b100010010, .cbp51),
    (0b100010001, .cbp23), (0b100010000, .cbp43), (0b100001111, .cbp25), (0b100001110, .cbp37),
    (0b100001101, .cbp26), (0b100001100, .cbp38), (0b100001011, .cbp29), (0b100001010, .cbp45),
    (0b100001001, .cbp53), (0b100001000, .cbp57), (0b100000111, .cbp30), (0b100000110, .cbp46),
    (0b100000101, .cbp54), (0b100000100, .cbp58), (0b1000000111, .cbp31), (0b1000000110, .cbp47),
    (0b1000000101, .cbp55)] = true := by
  decide +kernel

theorem test_decode_cbp_2 : decodesAll .codedBlockPattern [
    (0b1000000100, .cbp59), (0b1000000011, .cbp27), (0b1000000010, .cbp39), (0b100000000, .cbpReserved)] = true := by
  decide +kernel

theorem test_decode_motion : decodesAll .motionCode [
    (0b11, .motion0), (0b1010, .motion1 false), (0b1011, .motion1 true), (0b10010, .motion2 false),
    (0b10011, .motion2 true), (0b100010, .motion3 false), (0b100011, .motion3 true),
    (0b10000110, .motion4 false), (0b10000111, .motion4 true), (0b100001010, .motion5 false),
    (0b100001011, .motion5 true), (0b100001000, .motion6 false), (0b100001001, .motion6 true),
    (0b100000110, .motion7 false), (0b100000111, .motion7 true), (0b10000010110, .motion8 false),
    (0b10000010111, .motion8 true), (0b10000010100, .motion9 false), (0b10000010101, .motion9 true),
    (0b10000010010, .motion10 false), (0b10000010011, .motion10 true),
    (0b100000100010, .motion11 false), (0b100000100011, .motion11 true),
    (0b100000100000, .motion12 false), (0b100000100001, .motion12 true),
    (0b100000011110, .motion13 false), (0b100000011111, .motion13 true),
    (0b100000011100, .motion14 false), (0b100000011101, .motion14 true),
    (0b100000011010, .motion15 false), (0b100000011011, .motion15 true),
    (0b100000011000, .motion16 false), (0b100000011001, .motion16 true),
    (0b10000000, .motionReserved1), (0b100000010, .motionReserved2)] = true := by
  decide +kernel

theorem test_decode_dcSizeY : decodesAll .dcSizeY [
    (0b1100, .dcSizeY0), (0b100, .dcSizeY1), (0b101, .dcSizeY2), (0b1101, .dcSizeY3),
    (0b1110, .dcSizeY4), (0b11110, .dcSizeY5), (0b111110, .dcSizeY6), (0b1111110, .dcSizeY7),
    (0b11111110, .dcSizeY8), (0b11111111, .dctDcYReserved)] = true := by
  decide +kernel

theorem test_decode_dcSizeC : decodesAll .dcSizeC [
    (0b100, .dcSizeC0), (0b101, .dcSizeC1), (0b110, .dcSizeC2), (0b1110, .dcSizeC3),
    (0b11110, .dcSizeC4), (0b111110, .dcSizeC5), (0b1111110, .dcSizeC6), (0b11111110, .dcSizeC7),
    (0b111111110, .dcSizeC8), (0b111111111, .dctDcCReserved)] = true := by
  decide +kernel

theorem test_decode_dct_1 : decodesAll .nextCoefficient [
    (0b110, .dctEob), (0b1110, .dctNextR0L1 false), (0b1111, .dctNextR0L1 true),
    (0b1000001, .dctEscape), (0b10110, .dctR1L1 false), (0b10111, .dctR1L1 true),
    (0b101000, .dctR0L2 false), (0b101001, .dctR0L2 true), (0b101010, .dctR2L1 false),
    (0b101011, .dctR2L1 true), (0b1001010, .dctR0L3 false), (0b1001011, .dctR0L3 true),
    (0b1001110, .dctR3L1 false), (0b1001111, .dctR3L1 true), (0b1001100, .dctR4L1 false),
    (0b1001101, .dctR4L1 true), (0b10001100, .dctR1L2 false), (0b10001101, .dctR1L2 true),
    (0b10001110, .dctR5L1 false), (0b10001111, .dctR5L1 true), (0b10001010, .dctR6L1 false),
    (0b10001011, .dctR6L1 true), (0b10001000, .dctR7L1 false), (0b10001001, .dctR7L1 true),
    (0b100001100, .dctR0L4 false), (0b100001101, .dctR0L4 true), (0b100001000, .dctR2L2 false),
    (0b100001001, .dctR2L2 true), (0b100001110, .dctR8L1 false), (0b100001111, .dctR8L1 true),
    (0b100001010, .dctR9L1 false), (0b100001011, .dctR9L1 true), (0b1001001100, .dctR0L5 false),
    (0b1001001101, .dctR0L5 true), (0b1001000010, .dctR0L6 false), (0b1001000011, .dctR0L6 true),
    (0b1001001010, .dctR1L3 false), (0b1001001011, .dctR1L3 true), (0b1001001000, .dctR3L2 false),
    (0b1001001001, .dctR3L2 true), (0b1001001110, .dctR10L1 false), (0b1001001111, .dctR10L1 true),
    (0b1001000110, .dctR11L1 false), (0b1001000111, .dctR11L1 true), (0b1001000100, .dctR12L1 false),
    (0b1001000101, .dctR12L1 true), (0b1001000000, .dctR13L1 false), (0b1001000001, .dctR13L1 true),
    (0b100000010100, .dctR0L7 false), (0b100000010101, .dctR0L7 true),
    (0b100000011000, .dctR1L4 false), (0b100000011001, .dctR1L4 true),
    (0b100000010110, .dctR2L3 false), (0b100000010111, .dctR2L3 true),
    (0b100000011110, .dctR4L2 false), (0b100000011111, .dctR4L2 true),
    (0b100000010010, .dctR5L2 false), (0b100000010011, .dctR5L2 true),
    (0b100000011100, .dctR14L1 false), (0b100000011101, .dctR14L1 true)] = true := by
  decide +kernel

theorem test_decode_dct_2 : decodesAll .nextCoefficient [
    (0b100000011010, .dctR15L1 false), (0b100000011011, .dctR15L1 true),
    (0b100000010000, .dctR16L1 false), (0b100000010001, .dctR16L1 true),
    (0b10000000111010, .dctR0L8 false), (0b10000000111011, .dctR0L8 true),
    (0b10000000110000, .dctR0L9 false), (0b10000000110001, .dctR0L9 true),
    (0b10000000100110, .dctR0L10 false), (0b10000000100111, .dctR0L10 true),
    (0b10000000100000, .dctR0L11 false), (0b10000000100001, .dctR0L11 true),
    (0b10000000110110, .dctR1L5 false), (0b10000000110111, .dctR1L5 true),
    (0b10000000101000, .dctR2L4 false), (0b10000000101001, .dctR2L4 true),
    (0b10000000111000, .dctR3L3 false), (0b10000000111001, .dctR3L3 true),
    (0b10000000100100, .dctR4L3 false), (0b10000000100101, .dctR4L3 true),
    (0b10000000111100, .dctR6L2 false), (0b10000000111101, .dctR6L2 true),
    (0b10000000101010, .dctR7L2 false), (0b10000000101011, .dctR7L2 true),
    (0b10000000100010, .dctR8L2 false), (0b10000000100011, .dctR8L2 true),
    (0b10000000111110, .dctR17L1 false), (0b10000000111111, .dctR17L1 true),
    (0b10000000110100, .dctR18L1 false), (0b10000000110101, .dctR18L1 true),
    (0b10000000110010, .dctR19L1 false), (0b10000000110011, .dctR19L1 true),
    (0b10000000101110, .dctR20L1 false), (0b10000000101111, .dctR20L1 true),
    (0b10000000101100, .dctR21L1 false), (0b10000000101101, .dctR21L1 true),
    (0b100000000110100, .dctR0L12 false), (0b100000000110101, .dctR0L12 true),
    (0b100000000110010, .dctR0L13 false), (0b100000000110011, .dctR0L13 true),
    (0b100000000110000, .dctR0L14 false), (0b100000000110001, .dctR0L14 true),
    (0b100000000101110, .dctR0L15 false), (0b100000000101111, .dctR0L15 true),
    (0b100000000101100, .dctR1L6 false), (0b100000000101101, .dctR1L6 true),
    (0b100000000101010, .dctR1L7 false), (0b100000000101011, .dctR1L7 true),
    (0b100000000101000, .dctR2L5 false), (0b100000000101001, .dctR2L5 true),
    (0b100000000100110, .dctR3L4 false), (0b100000000100111, .dctR3L4 true),
    (0b100000000100100, .dctR5L3 false), (0b100000000100101, .dctR5L3 true),
    (0b100000000100010, .dctR9L2 false), (0b100000000100011, .dctR9L2 true),
    (0b100000000100000, .dctR10L2 false), (0b100000000100001, .dctR10L2 true),
    (0b100000000111110, .dctR22L1 false), (0b100000000111111, .dctR22L1 true)] = true := by
  decide +kernel

theorem test_decode_dct_3 : decodesAll .nextCoefficient [
    (0b100000000111100, .dctR23L1 false), (0b100000000111101, .dctR23L1 true),
    (0b100000000111010, .dctR24L1 false), (0b100000000111011, .dctR24L1 true),
    (0b100000000111000, .dctR25L1 false), (0b100000000111001, .dctR25L1 true),
    (0b100000000110110, .dctR26L1 false), (0b100000000110111, .dctR26L1 true),
    (0b1000000000111110, .dctR0L16 false), (0b1000000000111111, .dctR0L16 true),
    (0b1000000000111100, .dctR0L17 false), (0b1000000000111101, .dctR0L17 true),
    (0b1000000000111010, .dctR0L18 false), (0b1000000000111011, .dctR0L18 true),
    (0b1000000000111000, .dctR0L19 false), (0b1000000000111001, .dctR0L19 true),
    (0b1000000000110110, .dctR0L20 false), (0b1000000000110111, .dctR0L20 true),
    (0b1000000000110100, .dctR0L21 false), (0b1000000000110101, .dctR0L21 true),
    (0b1000000000110010, .dctR0L22 false), (0b1000000000110011, .dctR0L22 true),
    (0b1000000000110000, .dctR0L23 false), (0b1000000000110001, .dctR0L23 true),
    (0b1000000000101110, .dctR0L24 false), (0b1000000000101111, .dctR0L24 true),
    (0b1000000000101100, .dctR0L25 false), (0b1000000000101101, .dctR0L25 true),
    (0b1000000000101010, .dctR0L26 false), (0b1000000000101011, .dctR0L26 true),
    (0b1000000000101000, .dctR0L27 false), (0b1000000000101001, .dctR0L27 true),
    (0b1000000000100110, .dctR0L28 false), (0b1000000000100111, .dctR0L28 true),
    (0b1000000000100100, .dctR0L29 false), (0b1000000000100101, .dctR0L29 true),
    (0b1000000000100010, .dctR0L30 false), (0b1000000000100011, .dctR0L30 true),
    (0b1000000000100000, .dctR0L31 false), (0b1000000000100001, .dctR0L31 true),
    (0b10000000000110000, .dctR0L32 false), (0b10000000000110001, .dctR0L32 true),
    (0b10000000000101110, .dctR0L33 false), (0b10000000000101111, .dctR0L33 true),
    (0b10000000000101100, .dctR0L34 false), (0b10000000000101101, .dctR0L34 true),
    (0b10000000000101010, .dctR0L35 false), (0b10000000000101011, .dctR0L35 true),
    (0b10000000000101000, .dctR0L36 false), (0b10000000000101001, .dctR0L36 true),
    (0b10000000000100110, .dctR0L37 false), (0b10000000000100111, .dctR0L37 true),
    (0b10000000000100100, .dctR0L38 false), (0b10000000000100101, .dctR0L38 true),
    (0b10000000000100010, .dctR0L39 false), (0b10000000000100011, .dctR0L39 true),
    (0b10000000000100000, .dctR0L40 false), (0b10000000000100001, .dctR0L40 true),
    (0b10000000000111110, .dctR1L8 false), (0b10000000000111111, .dctR1L8 true)] = true := by
  decide +kernel

theorem test_decode_dct_4 : decodesAll .nextCoefficient [
    (0b10000000000111100, .dctR1L9 false), (0b10000000000111101, .dctR1L9 true),
    (0b10000000000111010, .dctR1L10 false), (0b10000000000111011, .dctR1L10 true),
    (0b10000000000111000, .dctR1L11 false), (0b10000000000111001, .dctR1L11 true),
    (0b10000000000110110, .dctR1L12 false), (0b10000000000110111, .dctR1L12 true),
    (0b10000000000110100, .dctR1L13 false), (0b10000000000110101, .dctR1L13 true),
    (0b10000000000110010, .dctR1L14 false), (0b10000000000110011, .dctR1L14 true),
    (0b100000000000100110, .dctR1L15 false), (0b100000000000100111, .dctR1L15 true),
    (0b100000000000100100, .dctR1L16 false), (0b100000000000100101, .dctR1L16 true),
    (0b100000000000100010, .dctR1L17 false), (0b100000000000100011, .dctR1L17 true),
    (0b100000000000100000, .dctR1L18 false), (0b100000000000100001, .dctR1L18 true),
    (0b100000000000101000, .dctR6L3 false), (0b100000000000101001, .dctR6L3 true),
    (0b100000000000110100, .dctR11L2 false), (0b100000000000110101, .dctR11L2 true),
    (0b100000000000110010, .dctR12L2 false), (0b100000000000110011, .dctR12L2 true),
    (0b100000000000110000, .dctR13L2 false), (0b100000000000110001, .dctR13L2 true),
    (0b100000000000101110, .dctR14L2 false), (0b100000000000101111, .dctR14L2 true),
    (0b100000000000101100, .dctR15L2 false), (0b100000000000101101, .dctR15L2 true),
    (0b100000000000101010, .dctR16L2 false), (0b100000000000101011, .dctR16L2 true),
    (0b100000000000111110, .dctR27L1 false), (0b100000000000111111, .dctR27L1 true),
    (0b100000000000111100, .dctR28L1 false), (0b100000000000111101, .dctR28L1 true),
    (0b100000000000111010, .dctR29L1 false), (0b100000000000111011, .dctR29L1 true),
    (0b100000000000111000, .dctR30L1 false), (0b100000000000111001, .dctR30L1 true),
    (0b100000000000110110, .dctR31L1 false), (0b100000000000110111, .dctR31L1 true),
    (0b1000000000000, .dctReserved)] = true := by
  decide +kernel

theorem test_decode_dctFirst : decodesAll .firstCoefficient [
    (0b110, .dctFirstR0L1 false), (0b111, .dctFirstR0L1 true)] = true := by
  decide +kernel

/-- The numbers of the opcode table decode, host codes first; bit 0 is the last of a stream word. -/
theorem test_decode_table_word :
    decodeTableWord 8 0x03 = some .vdecode ∧ decodeTableWord 32 0x000001B3 = some .sequenceHeaderStart ∧
      decodeTableWord 32 0xFFFD14C0 =
        some (.mp2Header ⟨true, 1, 1, false, false, 3, 0, false, false, 0, none⟩) := by decide +kernel

/-! ### Single steps, with the expected values of 95_test_vectors.md -/

/-- Section 2.1, steps 1, 2 and 5 to 7. -/
theorem test_reader :
    let b := readerAt [0xA5, 0, 0, 1, 0x47, 0, 0, 1]
    ((b 0).read 3).1 = 5 ∧ ((b 3).read 5).1 = 5 ∧ (b 8).nextStartCode = (some 0x47, b 40) ∧
      (b 40).nextStartCode.1 = none ∧ (b 40).nextStartCode.2.bitIndex = 40 ∧
      ((b 40).read 32).1 = 0 ∧ ((b 40).read 32).2.underrun = true := by decide +kernel

/-- Section 2.1, steps 10 to 12. -/
theorem test_reader_peek :
    let b := readerAt [0xA5, 0, 0, 1, 0x47, 0, 0, 1] 40
    (b.peekNonzero 23).1 = false ∧ (b.peekNonzero 24).1 = true ∧ (b.skipBytes 0).1 = 2 ∧
      (b.skipBytes 0).2.bitIndex = 56 := by decide +kernel

/-- Section 2.1: the start code in the last four bytes, and the two frame-sync searches. -/
theorem test_reader_searches :
    (readerAt [0, 0, 1, 0xB7] 0).nextStartCode.1 = none ∧
      (readerAt [0, 0, 1, 0xB7, 0] 0).nextStartCode.1 = some 0xB7 ∧
      (readerAt [0x12, 0xFF, 0xFD, 0x14] 0).findFrameSync = (true, readerAt [0x12, 0xFF, 0xFD, 0x14] 19) ∧
      (readerAt [0x12, 0xFF, 0xFB, 0x14, 0xFF] 0).findFrameSync =
        (false, readerAt [0x12, 0xFF, 0xFB, 0x14, 0xFF] 32) := by decide +kernel

/-- Section 2.11: commands right after reset. -/
theorem test_reset_decodes :
    after (exec .vdecode .reset) (·.response) = some (some 0x02) ∧
      after (exec .adecode .reset) (·.response) = some (some 0x02) := by decide +kernel

theorem test_reset_reads :
    after (exec (.csrRead 0x00) .reset) (·.response) = some (some 0x2) ∧
      after (exec (.csrRead 0x10) .reset) (·.response) = some (some 0x4) ∧
      after (exec (.csrRead 0x13) .reset) (·.response) = some (some 0x00080000) ∧
      after (exec (.csrRead 0x30) .reset) (·.response) = some (some 0) ∧
      after (exec (.vframeRead 0 0) .reset) (·.response) = some (some 0) ∧
      after (exec (.asamplesRead 0) .reset) (·.response) = some (some 0) := by decide +kernel

theorem test_csr_write_clears :
    after (exec (.csrWrite 0x02 1) { State.reset with v.verr := 9 }) (·.v.verr) = some 8 ∧
      after (exec (.csrWrite 0x08 0) { State.reset with v.verrcnt := 5 }) (·.v.verrcnt) = some 0 := by
  decide +kernel

theorem test_csr_write_format :
    after (exec (.csrWrite 0x10 3) .reset) (fun t => (t.a.format, t.a.br.discardRead)) = some (3, false) := by
  decide +kernel

/-- W10: VSIZE, VMB and the picture-rate field of VSEQ after the header of the reference clip. -/
theorem test_sequence_header_csrs :
    let s := { videoAt .sequenceHeader [0x0A, 0, 0x78, 0x15, 0xFF, 0xFF, 0xE0, 0] with
      v.startCode := some 0xB3 }
    let h : SequenceHeader := ⟨160, 120, 1, 5, 0x3FFFF, true, 0, false, none, none⟩
    after (exec (.sequenceHeader h) s) (fun t =>
      (csrValue t.v t.a 0x03, csrValue t.v t.a 0x05, (csrValue t.v t.a 0x04).extractLsb' 4 4, t.v.br.bitIndex)) =
      some (0x007800A0, 0x0008000A, 5, 64) := by decide +kernel

/-- Section 2.3: `w 17, h 1, pr 1`, and the place of matrix entry 2. -/
theorem test_sequence_header_matrix :
    let m := (List.range 64).map (BitVec.ofNat 8)
    after (exec (.sequenceHeader ⟨17, 1, 1, 1, 0, false, 0, false, some m, none⟩) (videoAt .sequenceHeader []))
      (fun t => (t.v.mbWidth, t.v.mbHeight, t.v.lumaWidth, t.v.intraQuantMatrix.getD 8 0)) =
        some (2, 1, 32, 2) := by decide +kernel

/-- Section 2.3: a width of 0 raises VERR bit 0. -/
theorem test_sequence_header_rejected :
    after (exec (.sequenceHeader ⟨0, 16, 1, 5, 0, false, 0, false, none, none⟩) (videoAt .sequenceHeader []))
      (fun t => (t.v.verr, t.v.hasSequenceHeader, t.v.startCode, t.response)) =
        some (1, false, none, some 0xA) := by decide +kernel

/-- Section 2.3: `u1:1 u3:7`, and the rotation of a P picture (section 2.3, P1). -/
theorem test_picture_header_p :
    let s := videoAt .pictureHeader [0, 0x17, 0xFF, 0xFB, 0xC0]
    after (exec (.pictureHeader ⟨0, 2, 0xFFFF, some ⟨true, 7⟩, none⟩)
        { s with v.cur := 1, v.fwd := 2, v.bwd := 0 })
      (fun t => (t.v.mf.fullPx, t.v.mf.rSize, t.v.cur, t.v.fwd, t.v.bwd, t.v.temp)) =
        some (true, 6, 1, 0, 0, 2) := by decide +kernel

/-- Section 2.3: a picture of type 4 is dropped with VERR bit 1, and f_code 0 with bit 2. -/
theorem test_picture_header_dropped :
    after (exec (.pictureHeader ⟨0, 4, 0, none, none⟩) (videoAt .pictureHeader []))
        (fun t => (t.v.verr, t.v.pos)) = some (2, .pictureSearch) ∧
      after (exec (.pictureHeader ⟨0, 2, 0, some ⟨false, 0⟩, none⟩) (videoAt .pictureHeader []))
        (fun t => (t.v.verr, t.v.startCode)) = some (4, none) := by decide +kernel

/-- Section 2.3, row P1: the picture goes to FB[1], and FB[0] is emitted. -/
theorem test_end_of_picture :
    let s := videoAt .sliceSearch [0, 0, 1, 0xB7]
    after (exec .sequenceEnd { s with
        v.pictureType := 2, v.cur := 1, v.fwd := 0, v.bwd := 0, v.temp := 2, v.hasReferenceFrame := true })
      (fun t => (t.v.cur, t.v.fwd, t.v.bwd, t.v.outFrame, t.v.pos)) = some (2, 0, 1, some 0, .idle) := by
  decide +kernel

/-- W16: slice 0x08 in a picture ten macroblocks wide. -/
theorem test_slice_start :
    let s := videoAt .bodySearch [0, 0, 1, 0x08]
    after (exec (.sliceStart 8) { s with v := sized 10 8 s.v }) (fun t => (t.v.macroblockAddress, t.v.pos)) =
      some (69, .sliceHeader) := by decide +kernel

/-- W16: with increment 10 the first macroblock stands at row 7, column 9; one further is out of range. -/
theorem test_first_increment :
    let s := videoAt .addressIncrement [0x09, 0]
    let s := { s with v := { sized 10 8 s.v with sliceBegin := true, macroblockAddress := 69 } }
    after (exec .mba10 s) (fun t => (t.v.mbRow, t.v.mbCol, t.v.macroblockAddress)) = some (7, 9, 79) ∧
      after (exec .mba11 s) (fun t => (t.v.verr, t.v.pos)) = some (0x10, .sliceSearch) := by decide +kernel

/-- R605, R204: an address beyond the address register is beyond the picture. -/
theorem test_address_beyond_register :
    let s := videoAt .addressIncrement [0x80]
    let s := { s with v := { sized 10 8 s.v with
      sliceBegin := true, macroblockAddress := 69, increment := 2 ^ 31 } }
    after (exec .mba1 s) (fun t => (t.v.verr, t.v.pos)) = some (0x10, .sliceSearch) := by decide +kernel

/-- Section 2.4: increments 1 and 2 code the macroblocks 0 and 2; macroblock 1 is predicted. -/
theorem test_skipped_macroblock :
    let s := videoAt .addressIncrement [0x60]
    let s := { s with v := { sized 3 1 s.v with macroblockAddress := 0, pictureType := 2, dcPredictor := [1, 2, 3] } }
    after (exec .mba2 s) (fun t => (t.v.macroblockAddress, t.v.mbCol, t.v.dcPredictor, listed t 0 .y)) =
      some (2, 2, [128, 128, 128], 256) := by decide +kernel

/-- Section 2.4: an escape adds 33, stuffing nothing. -/
theorem test_escape_and_stuffing :
    after (exec .mbaEscape (videoAt .addressIncrement [0x01, 0])) (fun t => (t.v.increment, t.v.br.bitIndex)) =
        some (33, 11) ∧
      after (exec .mbaStuffing (videoAt .addressIncrement [0x01, 0xE0]))
        (fun t => (t.v.increment, t.v.br.bitIndex)) = some (0, 11) := by decide +kernel

/-- Section 2.4: an I macroblock of type 0x11 reads five bits of scale, and every block is coded. -/
theorem test_type_intra :
    after (exec .mbtI11 { videoAt .macroblockType [0b01010110, 0] with v.pictureType := 1 })
      (fun t => (t.v.quantizerScale, t.v.cbp, t.v.br.bitIndex, t.v.pos)) =
        some (0b01011, 0x3F, 7, .dcSize) := by decide +kernel

/-- Section 2.4: P type 0x02 resets the vector, B type 0x04 keeps the forward one. -/
theorem test_type_inter :
    after (exec .mbtP02 { videoAt .macroblockType [0x40] with v := { sized 3 1 (videoAt .macroblockType [0x40]).v with
        pictureType := 2, mf.h := 5 } }) (fun t => (t.v.mf.h, t.v.pos)) = some (0, .codedBlockPattern) ∧
      after (exec .mbtB04 { videoAt .macroblockType [0x40] with v.pictureType := 3, v.mf.h := 5 })
        (fun t => (t.v.mf.h, t.v.pos)) = some (5, .motion true false) := by decide +kernel

/-- Section 2.4: pattern 60 begins with block 0, pattern 1 with block 5. -/
theorem test_patterns :
    after (exec .cbp60 (videoAt .codedBlockPattern [0xE0])) (fun t => (t.v.block, t.v.pos)) =
        some (0, .coefficient) ∧
      after (exec .cbp1 (videoAt .codedBlockPattern [0x58])) (fun t => (t.v.block, t.v.br.bitIndex)) =
        some (5, 5) := by decide +kernel

/-- Section 2.5: size 4 and bits `0101` give -10; size 0 gives 0. -/
theorem test_dc_sizes :
    after (exec .dcSizeY4 { videoAt .dcSize [0b11001010] with v.block := 0 })
        (fun t => (t.v.dcPredictor, t.v.blockData.getD 0 0)) = some ([118, 128, 128], 118 * 256) ∧
      after (exec .dcSizeC0 { videoAt .dcSize [0] with v.block := 5 })
        (fun t => (t.v.dcPredictor, t.v.br.bitIndex)) = some ([128, 128, 128], 2) := by decide +kernel

/-- Section 2.6: the dequantizer. -/
theorem test_dequantize :
    dequantize true 1 16 1 = 1 ∧ dequantize true 3 19 5 = 35 ∧ dequantize true 3 19 (-5) = -35 ∧
      dequantize false 8 16 2 = 39 ∧ dequantize true 1 16 0 = 1 ∧ dequantize true 31 83 255 = 2047 ∧
      dequantize true 31 83 (-255) = -2048 ∧ dequantize false 1 16 (-1) = -3 := by decide +kernel

/-- Section 2.6: the inverse transform. -/
theorem test_inverse_transform :
    inverseTransform (220 :: List.replicate 63 0) = List.replicate 64 1 ∧
      inverseTransform (0 :: 220 :: List.replicate 62 0) =
        (List.replicate 8 [1, 1, 0, 0, 0, 0, -1, -1]).flatten ∧
      inverseTransform (25600 :: -308 :: List.replicate 62 0) =
        (List.replicate 8 [99, 99, 99, 100, 100, 101, 101, 101]).flatten := by decide +kernel

/-- W8: row 0 of the transform of 800 at position 63. -/
theorem test_inverse_transform_last :
    (inverseTransform (List.replicate 63 0 ++ [800])).take 8 = [3, -9, 13, -16, 16, -13, 9, -3] := by
  decide +kernel

/-- Section 2.2: a coefficient at n = 0 stands at index 0 as 23 * 32 (section 2.6). -/
theorem test_first_coefficient :
    let s := videoAt .coefficient [0x80]
    after (exec (.dctFirstR0L1 false)
        { s with v.quantizerScale := 8, v.nonIntraQuantMatrix := List.replicate 64 16 })
      (fun t => (t.v.blockData.getD 0 0, t.v.coefficientPos, t.v.br.bitIndex)) = some (736, 1, 2) := by
  decide +kernel

/-- Section 2.2: run 4 at n = 60 is beyond the block. -/
theorem test_escape_range :
    after (exec (.dctEscapeShort 4 1) { videoAt .coefficient [4, 0x40, 0x10] with v.coefficientPos := 60 })
      (fun t => (t.v.verr, t.v.pos, t.v.br.bitIndex)) = some (0x20, .sliceSearch, 20) := by decide +kernel

/-- Section 2.6: a DC of 136 fills block 0 with 136; block 3 of a macroblock at row 1, column 2 of a
picture 48 x 32 starts at 1192. -/
theorem test_end_of_block :
    let s := videoAt .coefficient [0x80]
    let s := { s with v := { sized 3 2 s.v with
      mbRow := 1, mbCol := 2, block := 3, macroblockIntra := true, coefficientPos := 1
      blockData := 34816 :: List.replicate 63 0 } }
    after (exec .dctEob s) (fun t => (t.v.planeRead 0 .y 1192, listed t 0 .y, listed t 0 .cb)) =
      some (136, 64, 0) := by decide +kernel

/-- Section 2.7: MVC. -/
theorem test_motion_component :
    let m := fun (r : BitVec 3) (h : Int) (bytes : List Byte) =>
      { videoAt (.motion false false) bytes with v.mf.rSize := r, v.mf.h := h }
    after (exec (.motion3 false) (m 0 14 [0x10])) (fun t => (t.v.mf.h, t.v.br.bitIndex)) = some (-15, 5) ∧
      after (exec (.motion2 true) (m 1 5 [0x30])) (fun t => (t.v.mf.h, t.v.br.bitIndex)) = some (2, 5) ∧
      after (exec (.motion16 false) (m 2 60 [0x03, 0x18])) (fun t => (t.v.mf.h, t.v.br.bitIndex)) =
        some (-4, 13) ∧
      after (exec .motion0 (m 3 7 [0x80])) (fun t => (t.v.mf.h, t.v.br.bitIndex)) = some (7, 1) := by
  decide +kernel

/-- Section 2.7: interpolation of 10, 21, 30 and 41. -/
theorem test_interpolate :
    let s := fun (x y : Int) => if y = 0 then (if x = 0 then 10 else 21) else (if x = 0 then 30 else 41)
    interpolate s false false 0 0 = 10 ∧ interpolate s true false 0 0 = 16 ∧
      interpolate s false true 0 0 = 20 ∧ interpolate s true true 0 0 = 26 := by decide +kernel

/-- Section 2.7: the range check on 48 x 16, and W15: chroma halving. -/
theorem test_prediction_range :
    let v := sized 3 1 Video.reset
    v.predictionInRange .y 1 0 16 = true ∧ v.predictionInRange .y (-1) 0 16 = false ∧
      v.predictionInRange .y 0 1 16 = false ∧ v.predictionInRange .y 64 0 16 = true ∧
      halveVector (-3) = -1 ∧ halveVector (-1) = 0 ∧ halveVector 5 = 2 := by decide +kernel

/-- A reserved prefix: VlcInvalid is VERR bit 3. -/
theorem test_reserved :
    after (exec .mbaReserved2 (videoAt .addressIncrement [0x01, 0x20]))
      (fun t => (t.v.verr, t.v.verrcnt, t.v.br.bitIndex, t.v.pos)) = some (8, 1, 11, .sliceSearch) := by
  decide +kernel

/-- W14: body sizes. -/
theorem test_body_size :
    bodySize 1 1 false false = 92 ∧ bodySize 1 1 false true = 90 ∧ bodySize 8 0 false false = 413 ∧
      bodySize 8 0 true true = 412 ∧ bodySize 14 2 true false = 1725 := by decide +kernel

/-- Section 2.8: `FF FD 80 70` without its body: the latch, and NEED_DATA. -/
theorem test_mp2_header :
    after (exec (.mp2Header ⟨true, 8, 0, false, false, 1, 3, false, false, 0, none⟩)
        (audioAt [0xFF, 0xFD, 0x80, 0x70]))
      (fun t => (t.a.bound, t.a.nextFrameDataSize, t.a.channels, t.a.pos, t.response)) =
        some (16, 413, 2, .idle, some 2) := by decide +kernel

/-- Section 2.8: AudioBitrate is AERR bit 2, AudioVersionLayer bit 1. -/
theorem test_mp2_rejected :
    after (exec (.mp2Header ⟨true, 0, 1, false, false, 3, 0, false, false, 0, none⟩)
        (audioAt [0xFF, 0xFD, 0x04, 0xC0])) (fun t => (t.a.aerr, t.a.hasHeader, t.a.br.bitIndex)) =
        some (4, false, 20) ∧
      after (exec (.mp2SyncOther ⟨3, 1, true, 0x14C0⟩) (audioAt [0xFF, 0xFB, 0x14, 0xC0]))
        (fun t => (t.a.aerr, t.response)) = some (2, some 8) := by decide +kernel

/-- Section 2.8: garbage before a header whose body is not stored: the cursor goes back to bit 8. -/
theorem test_resync :
    after (step (audioAt [0x12, 0xFF, 0xFD, 0x14, 0xC0])) (fun t => (t.a.aerr, t.a.br.bitIndex, t.a.pos)) =
      some (1, 8, .idle) := by decide +kernel

/-- Section 2.8: two stuffing bytes are skipped, and the header behind them is accepted, with no bit stored
beyond it. -/
theorem test_header_behind_stuffing :
    after (exec .adecode { State.reset with a.br := readerAt [0, 0, 0xFF, 0xFD, 0x14, 0xC0] 0 })
      (fun t => (t.a.aerr, t.a.hasHeader, t.a.br.bitIndex, t.a.nextFrameDataSize, t.response)) =
      some (0, true, 48, 92, some 2) := by decide +kernel

/-- R1162: a header cut short behind stuffing is not parsed, and NEED_DATA is reported; with the rest written
it is the one of the bytes in one piece: mode 3, of which no bit was stored at first. -/
theorem test_split_header_behind_stuffing :
    let s : State := { State.reset with a.br := readerAt [0, 0, 0, 0xFF, 0xFD, 0x14] 0 }
    let next := fun (f : State → Result) (r : Result) =>
      match r with
      | .next t => f t
      | r => r
    after (exec .adecode s)
        (fun t => (t.a.aerr, t.a.hasHeader, t.a.br.underrun, t.a.br.bitIndex, t.response)) =
        some (0, false, false, 24, some 2) ∧
      after (next (exec .adecode) (next (exec (.awrite [0xC0, 0, 0])) (exec .adecode s)))
        (fun t => (t.a.hasHeader, t.a.mode, t.a.nextFrameDataSize)) = some (true, 3, 92) := by decide +kernel

/-- Section 2.8: a header of version 2 behind stuffing is rejected on the 16 bits R904 reads; one with CRC waits
for its CRC word (R907). -/
theorem test_headers_behind_stuffing :
    after (exec .adecode { State.reset with a.br := readerAt [0, 0, 0, 0, 0xFF, 0xF5] 0 })
        (fun t => (t.a.aerr, t.a.hasHeader, t.a.br.bitIndex)) = some (2, false, 48) ∧
      after (exec .adecode { State.reset with a.br := readerAt [0, 0xFF, 0xFC, 0x14, 0xC0, 0] 0 })
        (fun t => (t.a.aerr, t.a.hasHeader, t.a.br.bitIndex)) = some (0, false, 8) ∧
      after (exec .adecode { State.reset with a.br := readerAt [0, 0xFF, 0xFC, 0x14, 0xC0, 0, 0] 0 })
        (fun t => (t.a.hasHeader, t.a.br.bitIndex, t.a.nextFrameDataSize)) = some (true, 56, 90) := by
  decide +kernel

/-- Section 2.9: grouped codes. -/
theorem test_grouped_codes :
    let a := { Audio.reset with br := readerAt [0xD8] 0 }
    (a.readCodes .q3).1 = [0, 0, 3] ∧ (a.readCodes .q3).2.aerr = 0x40 := by decide +kernel

/-- Section 2.9: scalefactor patterns. -/
theorem test_scalefactors :
    let b := readerAt [0x29, 0x47, 0x80] 0
    (readFactors 0 b).1 = [10, 20, 30] ∧ (readFactors 1 b).1 = [10, 10, 20] ∧
      (readFactors 2 b).1 = [10, 10, 10] ∧ (readFactors 3 b).1 = [10, 20, 20] := by decide +kernel

/-- Section 2.9: requantization with SCF[3] = 1. -/
theorem test_requantize :
    requantize .q3 3 0 = [(0, -2 / 3)] ∧ requantize .q3 3 1 = [] ∧ requantize .q5 3 4 = [(0, 4 / 5)] ∧
      requantize .q7 3 6 = [(0, 6 / 7)] ∧ requantize .q7 63 6 = [] := by decide +kernel

/-- Section 2.10: the delay-line offset moves back by 64. -/
theorem test_matrixing_offset : (Audio.reset.matrixing 0).vPos = 960 := by decide +kernel

/-- Entries of table ASPECT (R331), and its reserved codes. -/
theorem test_pelAspect :
    pelAspect 1 = some 1 ∧ pelAspect 2 = some (6735 / 10000) ∧ pelAspect 14 = some (12015 / 10000) ∧
      pelAspect 0 = none ∧ pelAspect 15 = none := by decide +kernel

/-- R1102 with a window whose entries 0 and 2 are 1 and 3: `1 * 1/2 + 3 * 1/4` of the same unit; and
`cos (pi / 4)` and `2 ^ (1 / 3)` in 16 fraction bits, by hand from 0.70710678 and 1.25992105. -/
theorem test_sampleNumber :
    windowSurd (fun n => if n = 0 then 1 else 3) [(0, [(5, 1 / 2)]), (2, [(5, 1 / 4)])] = [(5, 5 / 4)] ∧
      fixedCosine 16 7 16 = 46340 ∧ fixedCubeRoot 16 1 = 82570 ∧ surdRational [(0, -1 / 3)] = -1 / 3 := by
  decide +kernel

/-- Section 2.10: sample conversion. -/
theorem test_float32 :
    float32 (1 / 2) = 0x3F000000 ∧ float32 (-1) = 0xBF800000 ∧ float32 (1 / 3) = 0x3EAAAAAB ∧
      float32 (1 / 3 * 2147418112) = 0x4E2AA955 ∧ float32 (-2147418112) = 0xCEFFFE00 := by decide +kernel

/-- The block's own fetch: a row placed under the cursor runs, and a queued command runs. -/
theorem test_step_runs_row :
    after (step (State.reset.withFetchWord 8 0x03)) (·.response) = some (some 0x02) ∧
      after (step (State.reset.withFetchWord 32 0x000001B3)) (fun t => (t.v.startCode, t.v.pos)) =
        some (some 0xB3, .sequenceHeader) := by decide +kernel

/-! ### Witnesses: for each statement with hypotheses, states and operands that meet them together -/

/-- DecodeEncodeRoundTrip: the boundary operands are well-formed, and a bare escape has fewer than 14 bits
behind it. -/
theorem witness_DecodeEncodeRoundTrip :
    (Instr.sliceStart 0x01).wellFormed = true ∧ (Instr.sliceStart 0xAF).wellFormed = true ∧
      (Instr.streamIdStart 0xBC).wellFormed = true ∧ (Instr.streamIdStart 0xFF).wellFormed = true ∧
      (Instr.dctEscapeShort 63 0x7F).wellFormed = true ∧ (Instr.dctEscapeShort 0 0x81).wellFormed = true ∧
      (Instr.pictureHeader ⟨0, 3, 0, some ⟨false, 0⟩, some ⟨true, 7⟩⟩).wellFormed = true ∧
      (Instr.mp2SyncOther ⟨3, 1, true, 0⟩).wellFormed = true ∧ Instr.dctEscape.wellFormed = true ∧
      SyntaxPosition.nextCoefficient ∈ Instr.dctEscape.positions ∧ (List.replicate 13 true).length < 14 := by
  decide +kernel

/-- DecodedRowsAreWellFormed. -/
theorem witness_DecodedRowsAreWellFormed :
    decode .addressIncrement [true, false, true] = .ok (.mba1, [false, true]) ∧
      decode .nextCoefficient [] = .ok (.dctReserved, []) := ⟨rfl, rfl⟩

/-- StepRunsTheDecodedInstruction, the video rows: a codeword, and a start code behind a search. -/
theorem witness_StepRuns_video :
    let s := videoAt .addressIncrement [0x80]
    let t := videoAt .sequenceSearch [0x05, 0, 0, 1, 0xB3, 0]
    s.v.syntaxPosition = some .addressIncrement ∧
      (decode .addressIncrement (s.v.br.upcoming (windowSize .addressIncrement s.v.br))).toOption =
        some (.mba1, List.replicate 7 false) ∧
      t.v.syntaxPosition = some .startCode ∧
      t.v.br.seekStartCode = (some 0xB3, readerAt [0x05, 0, 0, 1, 0xB3, 0] 8) := by decide +kernel

/-- StepRunsTheDecodedInstruction: an MP2 header behind stuffing, and a queued command. -/
theorem witness_StepRuns_audio_and_host :
    let s := audioAt [0, 0, 0xFF, 0xFD, 0x14, 0xC0]
    let b := (s.a.br.skipBytes 0x00).2
    let h : Mp2Header := ⟨true, 1, 1, false, false, 3, 0, false, false, 0, none⟩
    s.v.pos = .idle ∧ s.a.pos = .header ∧ (b.read 11).1 = 0x7FF ∧
      (decode .mp2Header (b.upcoming 48)).toOption = some (.mp2Header h, []) ∧
      b.bitIndex + s.a.headerReads (.mp2Header h) ≤ 8 * b.bytes.length ∧
      State.reset.v.pos = .idle ∧ State.reset.a.pos = .idle ∧
      ({ State.reset with host := [⟨0x03, [], 0, 0⟩] } : State).host = [⟨0x03, [], 0, 0⟩] ∧
      (decodeHost ⟨0x03, [], 0, 0⟩).toOption = some .vdecode := by decide +kernel

/-- StepRunsTheDecodedInstruction: a queued command with an unassigned code, and an empty queue. -/
theorem witness_StepRuns_unassigned :
    ({ State.reset with host := [⟨0x06, [], 0, 0⟩] } : State).host = [⟨0x06, [], 0, 0⟩] ∧
      (0x06 : Byte).toNat ∉
        [0x01, 0x02, 0x03, 0x04, 0x05, 0x11, 0x12, 0x13, 0x14, 0x15, 0x20, 0x21] ∧
      State.reset.host = [] := by decide

/-- VdecodeIsItsSteps, VdecodeEnds, AdecodeEnds, SignalEndAndRewindRules, CsrRules: both engines idle. -/
theorem witness_idle : State.reset.v.pos = .idle ∧ State.reset.a.pos = .idle := by decide

/-- HasPeekAndReadRules, AlignSkipAndSyncRules, StartCodeSearchRules: the cursor at both ends of a store,
and the widths at theirs. -/
theorem witness_readers :
    (readerAt [0xA5, 0x5A] 0).cursorInStore = true ∧ (readerAt [0xA5, 0x5A] 16).cursorInStore = true ∧
      (readerAt [] 0).cursorInStore = true ∧ (readerAt [0xA5] 8).bitIndex % 8 = 0 ∧
      1 ≤ 1 ∧ 1 ≤ 32 ∧ 32 ≤ 32 := by decide

/-- StartCodeSearchRules: a first start code at the cursor's byte, and a store with none. -/
theorem witness_StartCodeSearchRules :
    let b := readerAt [0, 0, 1, 0xB3, 0] 0
    b.cursorInStore = true ∧ 0 + 5 ≤ b.bytes.length ∧ b.bytes.getD 0 0 = 0 ∧ b.bytes.getD 1 0 = 0 ∧
      b.bytes.getD 2 0 = 1 ∧ (readerAt [] 0).bytes.length < 0 + 5 := by decide

/-- AlignSkipAndSyncRules: a syncword at the cursor's byte, and a store with none. -/
theorem witness_AlignSkipAndSyncRules :
    let b := readerAt [0xFF, 0xFD] 0
    b.cursorInStore = true ∧ 0 + 1 < b.bytes.length ∧ b.bytes.getD 0 0 = 0xFF ∧
      b.bytes.getD 1 0 &&& 0xFE = 0xFC ∧ ¬ 0 + 1 < (readerAt [0xFF] 8).bytes.length := by decide

/-- WriteRule: a write of nothing and of the smallest capacity fits; one byte more than the capacity does
not; the known end is 0, or as far as the bytes that compaction takes. -/
theorem witness_WriteRule :
    State.reset.v.pos = .idle ∧ State.reset.a.pos = .idle ∧
      State.reset.v.br.bytes.length + (List.replicate Config.minimumCapacity (0 : Byte)).length ≤
        Config.bitstoreCapacity ∧
      State.reset.v.br.totalSize = 0 ∧
      Config.bitstoreCapacity <
        State.reset.v.br.bytes.length - 0 +
          (List.replicate (Config.bitstoreCapacity + 1) (0 : Byte)).length := by
  refine ⟨rfl, rfl, ?_, rfl, ?_⟩
  · simp [State.reset, Video.reset, BitReader.reset, Config.bitstoreCapacity]
  · simp [State.reset, Video.reset, BitReader.reset]

/-- VframeReadRule: an output frame, with the last index inside plane Cb and the first outside it. -/
theorem witness_VframeReadRule :
    let s := { State.reset with v := { sized 1 1 Video.reset with outFrame := some 2 } }
    (1, Plane.cb) ∈ [(0, Plane.y), (1, Plane.cb), (2, Plane.cr)] ∧ s.v.pos = .idle ∧
      s.v.outFrame = some 2 ∧ 63 < s.v.chromaWidth.toNat * s.v.chromaHeight.toNat ∧
      s.v.chromaWidth.toNat * s.v.chromaHeight.toNat ≤ 64 ∧ State.reset.v.outFrame = none := by decide

/-- AsamplesReadRule: output with the last element, and without. -/
theorem witness_AsamplesReadRule :
    let s := { State.reset with a.outValid := true }
    s.a.pos = .idle ∧ s.a.outValid = true ∧ 2303 < 2304 ∧ 2304 ≤ 2304 ∧ State.reset.a.outValid = false := by
  decide

/-- OverlappingCommandsFault: each engine inside a command, with the first and last register of each. -/
theorem witness_OverlappingCommandsFault :
    (videoAt .coefficient []).v.pos ≠ .idle ∧ (audioAt []).a.pos ≠ .idle ∧ 0x08 ≤ 0x08 ∧ 0x10 ≤ 0x10 ∧
      0x15 ≤ 0x15 := by decide

/-- TheBlockNeverStops has no hypothesis. StepKeepsWellFormed: a legal state inside a slice, and its step. -/
theorem witness_StepKeepsWellFormed :
    (videoAt .addressIncrement [0x80]).wf = true ∧ (after (step (videoAt .addressIncrement [0x80])) (·.wf)).isSome := by
  decide +kernel

/-- StepKeepsFrameIndicesAndVectors: inside a P picture, and in an idle block. -/
theorem witness_StepKeepsFrameIndicesAndVectors_indices :
    let s := { videoAt .sliceSearch [] with v.pictureType := 2, v.cur := 0, v.fwd := 2, v.bwd := 2, v.temp := 1 }
    s.v.indicesLegal = true ∧ (after (step s) (·.v.indicesLegal)).isSome ∧
      State.reset.v.indicesLegal = true := by decide +kernel

/-- StepKeepsFrameIndicesAndVectors: both bounds of a component. -/
theorem witness_StepKeepsFrameIndicesAndVectors_vectors :
    let s := { videoAt (.motion false false) [0x80] with v.mf.h := 15, v.mf.v := -16 }
    s.v.vectorsInRange = true ∧ s.v.pos.inSlice = true ∧ (after (step s) (·.v.vectorsInRange)).isSome := by
  decide +kernel

/-- StepKeepsSamplesInPlanes: before the first macroblock of a picture of 10 by 8, at its last macroblock, and
before a sequence header; a vector of half a sample at the first macroblock, with the last sample read. -/
theorem witness_StepKeepsSamplesInPlanes :
    let at_ := fun (pos : VideoPos) (address : Word) (begin : Bool) =>
      { videoAt pos [0x80] with
          v := { sized 10 8 (videoAt pos [0x80]).v with
            hasSequenceHeader := true, sliceBegin := begin, macroblockAddress := address } }
    let first := at_ .addressIncrement (-1) true
    let last := { at_ .coefficient 79 false with v.mbRow := 7, v.mbCol := 9 }
    first.v.insidePlanes = true ∧ (after (step first) (·.v.insidePlanes)) = some true ∧
      last.v.insidePlanes = true ∧ (after (step last) (·.v.insidePlanes)) = some true ∧
      (videoAt .sequenceSearch []).v.insidePlanes = true ∧
      first.v.predictionInRange .y 1 0 16 = true ∧ 16 < 16 + ((1 : Int) % 2).toNat ∧
      15 < 16 + ((0 : Int) % 2).toNat := by decide +kernel

/-- EnginesAreIndependent, BitStoresKeepTheirBytes, WhatNoInstructionClears: an instruction of each kind
answers a next state. -/
theorem witness_exec_next :
    (after (exec .vsignalEnd .reset) (·.response)).isSome ∧ actsOnVideo .vsignalEnd = true ∧
      (after (exec .asignalEnd .reset) (·.response)).isSome ∧ actsOnAudio .asignalEnd = true ∧
      (after (exec (.csrRead 0) .reset) (·.response)).isSome ∧ onlyReads (.csrRead 0) = true ∧
      ({ State.reset with v.hasSequenceHeader := true, a.hasHeader := true } : State).v.hasSequenceHeader = true := by
  decide +kernel

/-- StartCodesPassedOverAndSlices: both searches with a neighbour of their own code, and the scan with both codes. -/
theorem witness_StartCodesPassedOverAndSlices :
    (videoAt .sequenceSearch []).v.pos = .sequenceSearch ∧ (0xB4 : Byte) ≠ 0xB3 ∧
      (videoAt .pictureSearch []).v.pos = .pictureSearch ∧ (0x01 : Byte) ≠ 0x00 ∧
      (videoAt .bodySearch []).v.pos = .bodySearch := by decide

/-- StartCodesPassedOverAndSlices: both ends of the slice range, at both searches. -/
theorem witness_StartCodesPassedOverAndSlices_slices :
    1 ≤ (0x01 : Byte).toNat ∧ (0xAF : Byte).toNat ≤ 0xAF ∧ (videoAt .bodySearch []).v.pos = .bodySearch ∧
      (videoAt .sliceSearch []).v.pos = .sliceSearch := by decide

/-- SearchedStartCodes: a next picture stored, none and a known end, none and no end; and the same for the
1088 bits of a header. -/
theorem witness_SearchedStartCodes :
    let p := fun (bytes : List Byte) => (readerAt bytes 0).take 32
    ((p [0, 0, 1, 0, 0, 0, 1, 0, 0]).hasStartCode 0x00).1 ≠ none ∧
      ((p [0, 0, 1, 0]).hasStartCode 0x00).1 = none ∧ ((p [0, 0, 1, 0]).hasStartCode 0x00).2.ended = false ∧
      ({ p [0, 0, 1, 0] with totalSize := 4 }.hasStartCode 0x00).2.ended = true ∧
      ((p [0, 0, 1, 0xB3]).has 1088).1 = false ∧ ((p [0, 0, 1, 0xB3]).has 1088).2.ended = false ∧
      ((p (List.replicate 140 0)).has 1088).1 = true := by decide +kernel

/-- OtherStartCodesEndThePicture: 0x00, and the first code above the slices, at each search. -/
theorem witness_OtherStartCodesEndThePicture :
    0xAF < (0xB0 : Byte).toNat ∧ (0xB0 : Byte) ≠ 0xB2 ∧ (0xB0 : Byte) ≠ 0xB5 ∧
      (videoAt .sliceSearch []).v.pos = .sliceSearch ∧ (videoAt .bodySearch []).v.pos = .bodySearch := by decide

/-- SequenceHeaderAccepted: the smallest and the largest sizes and rates, with and without matrices. -/
theorem witness_SequenceHeaderAccepted :
    let g : SequenceHeader := ⟨1, 1, 1, 1, 0, false, 0, false, none, none⟩
    let h : SequenceHeader :=
      ⟨4095, 4095, 1, 8, 0, false, 0, false, some (List.replicate 64 8), some (List.replicate 64 8)⟩
    g.wellFormed = true ∧ g.horizontalSize ≠ 0 ∧ g.verticalSize ≠ 0 ∧ 1 ≤ g.pictureRate.toNat ∧
      h.wellFormed = true ∧ h.horizontalSize ≠ 0 ∧ h.verticalSize ≠ 0 ∧ h.pictureRate.toNat ≤ 8 ∧
      ({ videoAt .sequenceHeader [] with v.startCode := some 0xB3 } : State).v.startCode = some 0xB3 := by
  decide +kernel

/-- RejectedHeaders: each ground. -/
theorem witness_RejectedHeaders :
    (⟨0, 1, 1, 1, 0, false, 0, false, none, none⟩ : SequenceHeader).horizontalSize = 0 ∧
      8 < (9 : BitVec 4).toNat ∧ (4 : BitVec 3) ≠ 1 ∧ (4 : BitVec 3) ≠ 2 ∧ (4 : BitVec 3) ≠ 3 ∧
      (⟨false, 0⟩ : VectorCode).fCode = 0 ∧ (⟨false, 1⟩ : VectorCode).fCode ≠ 0 := by decide

/-- PictureHeaderAccepted: the smallest and the largest code. -/
theorem witness_PictureHeaderAccepted :
    (⟨false, 1⟩ : VectorCode).fCode ≠ 0 ∧ (⟨true, 7⟩ : VectorCode).fCode ≠ 0 := by decide

/-- AddressIncrements: both ends of the table; the ends of the ranges, and of the largest picture; in a picture
of 80 macroblocks the last address, and the first beyond it. -/
theorem witness_AddressIncrements :
    let s := { videoAt .addressIncrement [0x80] with v := { sized 10 8 Video.reset with macroblockAddress := 78 } }
    let t := { s with v.macroblockAddress := 79 }
    (mbaTable.any fun r => r.value == some 1) = true ∧ (mbaTable.any fun r => r.value == some 33) = true ∧
      -2 ^ 31 ≤ (-2 ^ 31 : Int) ∧ (2 ^ 31 - 1 : Int) < 2 ^ 31 ∧ 0 < 256 * 256 ∧ 65535 < 256 * 256 ∧
      s.v.sliceBegin = false ∧
      s.v.macroblockAddress.toInt + (s.v.increment + 1 : Nat) < (s.v.mbSize.toNat : Int) ∧
      ¬ t.v.macroblockAddress.toInt + (t.v.increment + 1 : Nat) < (t.v.mbSize.toNat : Int) := by decide +kernel

/-- IntraMacroblockTypes and NonIntraMacroblockTypes: rows of every table and kind. -/
theorem witness_MacroblockTypes :
    ([mbtITable, mbtPTable, mbtBTable].all fun T =>
        T.any fun r => r.value.any fun t => t.testBit 0 && t.testBit 4) = true ∧
      ([mbtPTable, mbtBTable].all fun T =>
        T.any fun r => r.value.any fun t => !t.testBit 0 && t.testBit 3) = true ∧
      (mbtBTable.any fun r => r.value.any fun t => !t.testBit 0 && !t.testBit 3 && t.testBit 2) = true ∧
      (mbtPTable.any fun r => r.value.any fun t => !t.testBit 0 && !t.testBit 3) = true ∧
      ({ State.reset with v.pictureType := 2 } : State).v.pictureType = 2 ∧
      ({ State.reset with v.pictureType := 3 } : State).v.pictureType = 3 := by decide +kernel

/-- CodedBlockPatternsAndLoop: the patterns 1 and 63. -/
theorem witness_CodedBlockPatternsAndLoop :
    (cbpTable.any fun r => r.value == some 1) = true ∧ (cbpTable.any fun r => r.value == some 63) = true := by
  decide +kernel

/-- CodedBlockPatternsAndLoop: the last block coded, and no block left, before and at the last macroblock. -/
theorem witness_CodedBlockPatternsAndLoop_loop :
    let v := { sized 2 1 Video.reset with cbp := 1 }
    v.cbp.getLsbD (5 - 5) = true ∧ (∀ k, k < 5 → v.cbp.getLsbD (5 - k) = false) ∧
      (∀ j, j < 6 → Video.reset.cbp.getLsbD (5 - j) = false) ∧
      v.macroblockAddress.toInt < (v.mbSize.toNat : Int) - 1 := by decide

/-- MotionCodes: the rows 0 and 16, before each component. -/
theorem witness_MotionCodes :
    (motionTable.any fun r => r.value == some 0) = true ∧ (motionTable.any fun r => r.value == some 16) = true ∧
      (videoAt (.motion true false) []).v.pos = .motion true false ∧
      (videoAt (.motion false true) []).v.macroblockIntra = false := by decide +kernel

/-- PlanePrediction: another frame than the current one; a rectangle that ends at the plane's edge, and one
that passes it. -/
theorem witness_PlanePrediction :
    let v := sized 2 1 Video.reset
    (1 : Fin 3) ≠ v.cur ∧ 0 + 16 + 16 - 1 + 0 < (v.planeWidth .y : Int) ∧
      ¬ 0 + 16 + 16 - 1 + 1 < (v.planeWidth .y : Int) ∧ v.predictionInRange .y 32 0 16 = true ∧
      v.predictionInRange .y 33 0 16 = false := by decide +kernel

/-- PredictMacroblockRules: a picture that is not B; a B picture with each set of directions, the last with
a doubled vector of which both rectangles lie in the planes, to the last sample of a block. -/
theorem witness_PredictMacroblockRules :
    let v := { sized 3 1 Video.reset with
      pictureType := 3, mbCol := 1, mf.isSet := true, mb.isSet := true, mf.fullPx := true, mf.h := 8, mb.h := -3 }
    Video.reset.pictureType ≠ 3 ∧ v.pictureType = 3 ∧ v.mf.isSet = true ∧ v.mb.isSet = true ∧
      Video.reset.mf.isSet = false ∧ Video.reset.mb.isSet = false ∧ v.cur ≠ v.fwd ∧ v.cur ≠ v.bwd ∧
      (∀ e ∈ [(Plane.y, 16, (16 : Int), (-3 : Int)), (.cb, 8, 8, -1), (.cr, 8, 8, -1)],
        v.predictionInRange e.1 e.2.2.1 0 e.2.1 = true ∧ v.predictionInRange e.1 e.2.2.2 0 e.2.1 = true) ∧
      15 < 16 ∧ 7 < 8 := by decide +kernel

/-- DcSizes: the sizes 0 and 8 of both tables. -/
theorem witness_DcSizes :
    ([dcYTable, dcCTable].all fun T =>
      (T.any fun r => r.value == some 0) && (T.any fun r => r.value == some 8)) = true := by decide +kernel

/-- Coefficients: a row of each form of the table, and both sides of position 63. -/
theorem witness_Coefficients :
    ([dctFirstTable, dctNextTable].all fun T =>
        T.any fun r => r.signed && (r.value == some 1)) = true ∧
      (0x7F : Byte) ≠ 0 ∧ (0x7F : Byte) ≠ 128 ∧
      ({ State.reset with v.coefficientPos := 0 } : State).v.coefficientPos + 63 < 64 ∧
      64 ≤ ({ State.reset with v.coefficientPos := 1 } : State).v.coefficientPos + 63 := by decide +kernel

/-- EndOfBlock: the first and the last block. -/
theorem witness_EndOfBlock :
    let s := { State.reset with v := sized 1 1 Video.reset }
    s.v.block < 6 ∧ ({ s with v.block := 5 } : State).v.block < 6 ∧ 8 ≤ s.v.lumaWidth.toNat ∧
      8 ≤ s.v.chromaWidth.toNat := by decide

/-- FailedSearches: an exhausted search at each position; the three conditions of the flush and the lack of
each. -/
theorem witness_FailedSearches :
    let s := { videoAt .pictureSearch [0, 0] with v.hasReferenceFrame := true, v.br.totalSize := 2 }
    ([VideoPos.sequenceSearch, .pictureSearch, .bodySearch, .sliceSearch].all fun p =>
        (videoAt p [0, 0]).v.syntaxPosition == some .startCode) = true ∧
      s.v.br.seekStartCode.1 = none ∧ s.v.br.seekStartCode.2.ended = true ∧ s.v.hasReferenceFrame = true ∧
      s.v.noDelay = false ∧ ({ s with v.noDelay := true } : State).v.noDelay = true ∧
      Video.reset.hasReferenceFrame = false ∧
      (videoAt .pictureSearch [0, 0]).v.br.seekStartCode.2.ended = false := by decide +kernel

/-- InverseTransformRules: the corners of a block. -/
theorem witness_InverseTransformRules : 0 < 8 ∧ 7 < 8 := by decide

/-- ReservedPrefixes: every table has one. -/
theorem witness_ReservedPrefixes :
    ([mbaTable, mbtITable, mbtPTable, mbtBTable, cbpTable, motionTable, dcYTable, dcCTable, dctFirstTable,
      dctNextTable].all fun T => T.any fun r => r.value.isNone) = true := by decide +kernel

/-- AudioHeaderAccepted: the first and the last accepted rate, against an equal latched header; the body
stored to its last bit, and one bit short. -/
theorem witness_AudioHeaderAccepted :
    let h : Mp2Header := ⟨true, 1, 1, false, false, 3, 0, false, false, 0, none⟩
    let s := { audioAt (List.replicate 96 0xFF) with
      a.hasHeader := true, a.bitrateIndex := 1, a.samplerateIndex := 1, a.mode := 3 }
    let b := s.a.br.takeFields [11, 2, 2, 1, 4, 2, 1, 1, 2, 2, 4]
    h.bitrateIndex ≠ 0 ∧ (14 : BitVec 4) ≠ 15 ∧ h.bitrateIndex ≠ 15 ∧ h.samplingFrequency ≠ 3 ∧
      s.a.hasHeader = true ∧ h.bitrateIndex = s.a.bitrateIndex ∧ h.samplingFrequency = s.a.samplerateIndex ∧
      h.mode = s.a.mode ∧ b.bitIndex + 8 * 92 ≤ 8 * b.bytes.length ∧
      8 * b.bytes.length < { b with bitIndex := b.bitIndex + 1 }.bitIndex + 8 * 92 := by decide +kernel

/-- RejectedHeaders: each audio ground, in order. -/
theorem witness_RejectedHeaders_audio :
    let h : Mp2Header := ⟨true, 14, 2, false, false, 0, 0, false, false, 0, none⟩
    let s := { audioAt [] with a.hasHeader := true }
    (0 : BitVec 4) = 0 ∧ (15 : BitVec 4) = 15 ∧ h.bitrateIndex ≠ 0 ∧ h.bitrateIndex ≠ 15 ∧
      (3 : BitVec 2) = 3 ∧ h.samplingFrequency ≠ 3 ∧ s.a.hasHeader = true ∧
      h.bitrateIndex ≠ s.a.bitrateIndex := by decide +kernel

/-- AdecodePaths: a header row found; a header pending with its body stored to the last bit, and one bit
short; none pending, with 47 bits; garbage with nothing behind it, with a header of which 36 bits follow the
syncword, and with one of which 37 do. -/
theorem witness_AdecodePaths :
    let at_ := fun (bytes : List Byte) (size : BitVec 16) =>
      { State.reset with a.br := readerAt bytes 0, a.nextFrameDataSize := size }
    let found := fun bytes => ((readerAt bytes 0).take 11).findFrameSync
    (match fetchAudio (audioAt [0xFF, 0xFD, 0x14, 0xC0, 0, 0]).a with
      | .row _ _ => true
      | _ => false) = true ∧
    (at_ [] 5).a.pos = .idle ∧ (at_ [] 5).a.nextFrameDataSize ≠ 0 ∧
      (at_ [1, 2, 3, 4, 5] 5).a.br.bitIndex + 8 * 5 ≤ 8 * (at_ [1, 2, 3, 4, 5] 5).a.br.bytes.length ∧
      8 * (readerAt [1, 2, 3, 4, 5] 1).bytes.length < (readerAt [1, 2, 3, 4, 5] 1).bitIndex + 8 * 5 ∧
      8 * (readerAt [1, 2, 3, 4, 5, 6] 1).bytes.length < (readerAt [1, 2, 3, 4, 5, 6] 1).bitIndex + 48 ∧
      ((readerAt [1, 2, 3, 4, 5, 6] 0).read 11).1 ≠ 0x7FF ∧ (found [1, 2, 3, 4, 5, 6]).1 = false ∧
      (found [1, 0xFF, 0xFD, 4, 5, 6]).1 = true ∧
      8 * 6 < (found [1, 0xFF, 0xFD, 4, 5, 6]).2.bitIndex + 37 ∧
      (found [1, 0xFF, 0xFD, 4, 5, 6, 7]).1 = true ∧
      (found [1, 0xFF, 0xFD, 4, 5, 6, 7]).2.bitIndex + 37 ≤ 8 * 7 := by decide +kernel

/-- AdecodePaths, a header behind stuffing: each check that ends it, and its end without CRC and with it, the
bits it reads stored to the last one, and a byte short. -/
theorem witness_AdecodePaths_stuffing :
    let s := { State.reset with a.hasHeader := true, a.bitrateIndex := 1, a.samplerateIndex := 1, a.mode := 3 }
    let b := fun bytes => ((readerAt (0 :: bytes) 0).skipBytes 0).2
    let reads := fun bytes =>
      match decode .mp2Header ((b bytes).upcoming 48) with
      | .ok (i, _) => some (s.a.headerReads i)
      | .error _ => none
    ((b [0xFF, 0xFD, 0x14, 0xC0]).read 11).1 = 0x7FF ∧ (b [0xFF, 0xFD, 0x14, 0xC0]).bitIndex = 8 ∧
      reads [0xFF, 0xFD, 0x14, 0xC0] = some 32 ∧ 8 + 32 ≤ 8 * 5 ∧
      reads [0xFF, 0xFD, 0x14] = some 26 ∧ 8 * 4 < 8 + 26 ∧ reads [0xFF, 0xF5] = some 16 ∧
      reads [0xFF, 0xFD, 0x04] = some 20 ∧ reads [0xFF, 0xFD, 0x1C] = some 22 ∧
      reads [0xFF, 0xFD, 0x14, 0x00] = some 26 ∧ reads [0xFF, 0xFC, 0x14, 0xC0, 0, 0] = some 48 ∧
      8 + 48 ≤ 8 * 7 ∧ reads [0xFF, 0xFC, 0x14, 0xC0, 0] = some 48 ∧ 8 * 6 < 8 + 48 := by decide +kernel

/-- AdecodePaths, an ADECODE that waits, with compaction off: for a body that is one bit short, for 48 bits of
which 47 are stored, for a header behind stuffing with 24 bits stored and 24 to come. -/
theorem witness_AdecodePaths_waiting :
    let at_ := fun (bytes : List Byte) (bit : Nat) (size : BitVec 16) =>
      { State.reset with
          a.br := { readerAt bytes bit with discardRead := false }, a.nextFrameDataSize := size }
    let p := at_ [1, 2, 3, 4, 5] 1 5
    let q := at_ [1, 2, 3, 4, 5, 6] 1 0
    let r := at_ [0, 0, 0, 0xFF, 0xFD, 0x14] 0 0
    let b := (r.a.br.skipBytes 0x00).2
    p.a.pos = .idle ∧ p.a.br.discardRead = false ∧ p.a.nextFrameDataSize ≠ 0 ∧
      8 * p.a.br.bytes.length < p.a.br.bitIndex + 8 * p.a.nextFrameDataSize.toNat ∧
      q.a.pos = .idle ∧ q.a.br.discardRead = false ∧ q.a.nextFrameDataSize = 0 ∧
      8 * q.a.br.bytes.length < q.a.br.bitIndex + 48 ∧
      r.a.pos = .idle ∧ r.a.br.discardRead = false ∧ r.a.nextFrameDataSize = 0 ∧
      (b.read 11).1 = 0x7FF ∧ b.bitIndex + 48 ≤ 8 * (b.bytes.length + 3) ∧
      (decode .mp2Header (b.upcoming 48)).toOption =
        some (.mp2Header ⟨true, 1, 1, false, false, 0, 0, false, false, 0, none⟩, []) ∧
      8 * b.bytes.length < b.bitIndex + 32 := by decide +kernel

/-- FrameBodyTables, GranuleRule: one channel and two, register files of their sizes, the last granule. -/
theorem witness_FrameBody :
    ({ Audio.reset with channels := 1 } : Audio).channels = 1 ∧ Audio.reset.channels = 2 ∧
      Audio.reset.allocation.length = 64 ∧ Audio.reset.scfsi.length = 64 ∧
      Audio.reset.scalefactor.length = 192 ∧ Audio.reset.sample.length = 192 ∧
      Audio.reset.delay.length = 2048 ∧ Audio.reset.out.length = 2304 ∧ 2 < 3 ∧ 3 < 4 := by decide +kernel

/-- SampleTriples: the last subband, without an allocation, with a grouped class, and with a direct one. -/
theorem witness_SampleTriples :
    let a := fun q => { Audio.reset with allocation := List.replicate 64 (some q) }
    Audio.reset.allocation.getD (32 * 1 + 31) none = none ∧ Audio.reset.allocation.getD 31 none = none ∧
      (a .q9).allocation.getD (32 * 1 + 31) none = some .q9 ∧ QuantClass.q9.levels = 9 ∧
      (a .q65535).allocation.getD (32 * 0 + 31) none = some .q65535 ∧ Audio.reset.sample.length = 192 := by
  decide +kernel

/-- Float32IsNearest: both sides of the largest number that rounds to a finite value, and a midpoint. -/
theorem witness_Float32IsNearest :
    |(2 ^ 128 - 2 ^ 103 - 1 : Rat)| < 2 ^ 128 - 2 ^ 103 ∧ (2 : Rat) ^ 128 - 2 ^ 103 ≤ |(2 ^ 128 - 2 ^ 103 : Rat)| ∧
      (0x7F7FFFFF : Word).toNat / 2 ^ 23 % 256 ≠ 255 ∧
      float32 (16777217) = 0x4B800000 ∧ float32 (16777219) = 0x4B800002 := by decide +kernel

/-- SampleNumbersAreExact: a number with an irrational part, and one without. -/
theorem witness_SampleNumbersAreExact :
    (([(3, [(95, 1 / 3)])] : WindowSum).all fun e => surdBounded e.2) = true ∧
      surdBounded [(0, 1 / 3), (95, 2)] = true ∧ (∀ e ∈ ([(0, 1 / 3)] : Surd), e.1 = 0) := by decide +kernel

/-- FilterBankIsLinear: a legal engine all of whose words are 0, the last step of a frame; and three legal
engines with samples 1, 1 and 2 in subband 0, where 2 = 1 * 1 + 1 * 1, at different offsets. -/
theorem witness_FilterBankIsLinear :
    let a := fun (q : Rat) (vPos : BitVec 10) =>
      { Audio.reset with sample := (List.replicate 192 []).set 2 [(0, q)], vPos := vPos }
    ([a 1 0, a 1 64, a 2 960, Audio.reset].all fun a =>
        a.sample.length == 192 && a.delay.length == 2048 && a.out.length == 2304 && a.vPos.toNat % 64 == 0 &&
          a.sample.all (fun x => surdBounded x) && a.delay.all (fun x => x.isEmpty)) = true ∧
      (Audio.reset.sample.all fun x => x.isEmpty) = true ∧
      (a 2 960).sample.getD 2 [] = addSurd ((a 1 0).sample.getD 2 []) ((a 1 64).sample.getD 2 []) ∧
      2 < 3 ∧ 3 < 4 := by decide +kernel

/-- MatrixingIsExact: a nonzero sample, with the delay line at both ends of its range, and the last step. -/
theorem witness_MatrixingIsExact :
    let a := { Audio.reset with sample := (List.replicate 192 []).set 5 [(2, 1 / 3)], vPos := 960 }
    2 < 3 ∧ a.delay.length = 2048 ∧ a.sample.length = 192 ∧ a.vPos.toNat % 64 = 0 ∧
      (a.sample.all fun x => surdBounded x) = true ∧ Audio.reset.vPos.toNat % 64 = 0 := by decide +kernel

/-- WindowingIsExact: the last output of a channel. -/
theorem witness_WindowingIsExact : 31 < 32 := by decide

/-- MonoChannelsAreEqual. -/
theorem witness_MonoChannelsAreEqual :
    let a := { Audio.reset with channels := 1 }
    a.channels = 1 ∧ a.sample.length = 192 ∧ a.delay.length = 2048 ∧ a.out.length = 2304 ∧
      a.vPos.toNat % 64 = 0 ∧ a.delay.take 1024 = a.delay.drop 1024 := by decide +kernel

end Sys2Proof.Tests
end

section
/-! Bits as numbers, what the start-code search and the table walk find. -/

namespace Sys2Proof

/-! ### Bits as numbers (R8, R300) -/

/-- The number a fold goes on from stands above the bits that follow. -/
theorem foldl_bits (bits : List Bool) (a : Nat) :
    bits.foldl (fun a b => 2 * a + b.toNat) a = a * 2 ^ bits.length + natOfBits bits := by
  unfold natOfBits
  induction bits generalizing a with
  | nil => simp
  | cons b bits ih =>
    rw [List.foldl_cons, List.foldl_cons, ih, ih (2 * 0 + b.toNat), List.length_cons]
    ring

theorem natOfBits_append (l m : List Bool) :
    natOfBits (l ++ m) = natOfBits l * 2 ^ m.length + natOfBits m := by
  rw [natOfBits, List.foldl_append, foldl_bits m, ← natOfBits]

theorem natOfBits_cons (b : Bool) (bits : List Bool) :
    natOfBits (b :: bits) = b.toNat * 2 ^ bits.length + natOfBits bits := by
  rw [natOfBits, List.foldl_cons, foldl_bits]
  simp

@[simp] theorem bitsOfNat_length (n v : Nat) : (bitsOfNat n v).length = n := by
  induction n with
  | zero => rfl
  | succ n ih => simp [bitsOfNat, ih]

/-- The low `n` bits of a number stand for its remainder (R300). -/
theorem natOfBits_bitsOfNat (n v : Nat) : natOfBits (bitsOfNat n v) = v % 2 ^ n := by
  induction n with
  | zero => simp [bitsOfNat, natOfBits, Nat.mod_one]
  | succ n ih =>
    rw [bitsOfNat, natOfBits_cons, ih, bitsOfNat_length, Nat.toNat_testBit, Nat.mod_pow_succ]
    ring

@[simp] theorem bitsOf_length {n : Nat} (x : BitVec n) : (bitsOf x).length = n := bitsOfNat_length n _

/-- A field at the front of the bits (R403). -/
theorem takeField_append {n : Nat} {l : List Bool} (h : l.length = n) (rest : List Bool) :
    takeField n (l ++ rest) = (natOfBits l, rest) := by
  subst h
  simp [takeField]

/-- A field of a register's width at the front of the bits is the register (R300). -/
theorem takeBits_bitsOf {n : Nat} (x : BitVec n) (rest : List Bool) :
    takeBits n (bitsOf x ++ rest) = (x, rest) := by
  rw [takeBits, takeField_append (bitsOf_length x), bitsOf, natOfBits_bitsOfNat,
    Nat.mod_eq_of_lt x.isLt]
  simp

/-- The four bytes of a start code decode to its row (R302). -/
theorem decode_startCodeBits (x : Byte) (rest : List Bool) :
    decode .startCode (startCodeBits x ++ rest) = .ok (startCodeInstr x, rest) := by
  have lead := takeField_append (bitsOfNat_length 24 1) (bitsOf x ++ rest)
  rw [natOfBits_bitsOfNat] at lead
  rw [decode, decodeStartCode, startCodeBits, List.append_assoc, lead]
  simp [takeBits_bitsOf]

/-! ### Every table has a row for any bits (R304, R326) -/

/-- One bit more of the bits, a 0 past their end. -/
theorem natOfBits_padTake_succ (n : Nat) (bits : List Bool) :
    ∃ b : Bool, natOfBits (padTake (n + 1) bits) = 2 * natOfBits (padTake n bits) + b.toNat := by
  suffices ∃ b, padTake (n + 1) bits = padTake n bits ++ [b] by
    obtain ⟨b, h⟩ := this
    exact ⟨b, by rw [h, natOfBits_append, natOfBits_cons]; simp [natOfBits, Nat.mul_comm]⟩
  induction n generalizing bits with
  | zero => cases bits <;> exact ⟨_, rfl⟩
  | succ n ih =>
    cases bits with
    | nil =>
      obtain ⟨b, h⟩ := ih []
      exact ⟨b, congrArg (false :: ·) h⟩
    | cons x bits =>
      obtain ⟨b, h⟩ := ih bits
      exact ⟨b, congrArg (x :: ·) h⟩

/-- Every extension of the `len` bits of value `code` by at most `depth` bits meets a row of the table. -/
def covered (T : List VlcRow) : Nat → Nat → Nat → Bool
  | 0, len, code => T.any fun r => r.len == len && r.code == code
  | depth + 1, len, code =>
    (T.any fun r => r.len == len && r.code == code) ||
      (covered T depth (len + 1) (2 * code) && covered T depth (len + 1) (2 * code + 1))

/-- Where a table covers the bits read so far, one of its rows stands at the front. -/
theorem exists_atFront_of_covered {T : List VlcRow} {depth len code : Nat} {bits : List Bool}
    (h : covered T depth len code = true) (e : natOfBits (padTake len bits) = code) :
    ∃ r ∈ T, r.atFront bits = true := by
  have found : ∀ {len code : Nat}, natOfBits (padTake len bits) = code →
      (T.any fun r => r.len == len && r.code == code) = true → ∃ r ∈ T, r.atFront bits = true := by
    intro len code e h
    obtain ⟨r, hr, hc⟩ := List.any_eq_true.1 h
    obtain ⟨rfl, rfl⟩ : r.len = len ∧ r.code = code := by simpa using hc
    exact ⟨r, hr, by simp [VlcRow.atFront, e]⟩
  induction depth generalizing len code with
  | zero => exact found e h
  | succ depth ih =>
    rw [covered, Bool.or_eq_true, Bool.and_eq_true] at h
    rcases h with h | ⟨h0, h1⟩
    · exact found e h
    · obtain ⟨b, hb⟩ := natOfBits_padTake_succ len bits
      rw [e] at hb
      cases b with
      | false => exact ih h0 hb
      | true => exact ih h1 hb

/-- The ten tables (R320-R326). -/
def vlcTables : List (List VlcRow) :=
  [mbaTable, mbtITable, mbtPTable, mbtBTable, cbpTable, motionTable, dcYTable, dcCTable, dctFirstTable,
    dctNextTable]

theorem vlcTables_covered : ∀ T ∈ vlcTables, covered T 16 0 0 = true := by decide +kernel

/-- A walk of a table ends on one of its rows, whatever the bits (R304, R409). -/
theorem decodeVlc_row {T : List VlcRow} (h : T ∈ vlcTables) (bits : List Bool) :
    ∃ r ∈ T, ∃ sign rest, decodeVlc T bits = .ok (r.make sign, rest) := by
  obtain ⟨q, hq, front⟩ := exists_atFront_of_covered (bits := bits) (vlcTables_covered T h) rfl
  obtain ⟨r, hr⟩ := Option.isSome_iff_exists.1 ((List.find?_isSome (p := (·.atFront bits))).2 ⟨q, hq, front⟩)
  refine ⟨r, List.mem_of_find?_eq_some hr, ?_⟩
  rw [decodeVlc, hr]
  dsimp only
  split <;> exact ⟨_, _, rfl⟩

end Sys2Proof

namespace Sys2Proof.Machine

/-! ### A start code under the cursor (R302, R407) -/

theorem BitReader.bitsFrom_add (b : BitReader) (k m n : Nat) :
    b.bitsFrom k (m + n) = b.bitsFrom k m ++ b.bitsFrom (k + m) n := by
  induction m generalizing k with
  | zero => simp [BitReader.bitsFrom]
  | succ m ih => simp [Nat.succ_add, BitReader.bitsFrom, ih, Nat.add_assoc]

/-- The bits of a stored byte, first bit first (R201). -/
theorem BitReader.bitsFrom_byte (b : BitReader) (i : Nat) : b.bitsFrom (8 * i) 8 = bitsOf (b.byteAt i) := by
  have bit : ∀ j < 8, b.bitAt (8 * i + j) = (b.byteAt i).toNat.testBit (7 - j) := by
    intro j hj
    rw [BitReader.bitAt, show (8 * i + j) / 8 = i by omega, show (8 * i + j) % 8 = j by omega,
      BitVec.testBit_toNat]
  have first := bit 0 (by omega)
  simp only [BitReader.bitsFrom, bitsOf, bitsOfNat, Nat.add_assoc, Nat.reduceAdd]
  rw [bit 1 (by omega), bit 2 (by omega), bit 3 (by omega), bit 4 (by omega), bit 5 (by omega),
    bit 6 (by omega), bit 7 (by omega)]
  rw [Nat.add_zero] at first
  rw [first]

/-- Four bytes `00 00 01 x` at the cursor are the bits of a start code (R302). -/
theorem BitReader.upcoming_startCode {b : BitReader} (aligned : 8 ∣ b.bitIndex) (stored : 32 ≤ b.avail)
    (code : b.startCodeAt (b.bitIndex / 8) = true) :
    b.upcoming 32 = startCodeBits (b.byteAt (b.bitIndex / 8 + 3)) := by
  obtain ⟨i, e⟩ := aligned
  rw [e, Nat.mul_div_cancel_left i (by omega)] at code ⊢
  simp only [BitReader.startCodeAt, Bool.and_eq_true, beq_iff_eq] at code
  obtain ⟨⟨zero, zero'⟩, one⟩ := code
  rw [BitReader.upcoming, Nat.min_eq_left stored, e, show 32 = 8 + (8 + (8 + 8)) by rfl, b.bitsFrom_add,
    b.bitsFrom_add, b.bitsFrom_add, b.bitsFrom_byte, show 8 * i + 8 = 8 * (i + 1) by ring, b.bitsFrom_byte,
    show 8 * (i + 1) + 8 = 8 * (i + 2) by ring, b.bitsFrom_byte,
    show 8 * (i + 2) + 8 = 8 * (i + 3) by ring, b.bitsFrom_byte, zero, zero', one]
  rfl

/-- A search stops at a byte boundary, before a start code of the value it answers (R407). -/
theorem BitReader.seek_found_at {k : Nat} {b c : BitReader} {x : Byte} (aligned : 8 ∣ b.bitIndex)
    (h : BitReader.seek k b = (some x, c)) :
    8 ∣ c.bitIndex ∧ c.startCodeAt (c.bitIndex / 8) = true ∧ x = c.byteAt (c.bitIndex / 8 + 3) := by
  induction k generalizing b with
  | zero => simp [BitReader.seek] at h
  | succ k ih =>
    rw [BitReader.seek] at h
    dsimp only at h
    split at h
    · simp at h
    · split at h
      · obtain ⟨e, rfl⟩ := Prod.mk.inj h
        exact ⟨aligned, ‹_›, (Option.some.inj e).symm⟩
      · exact ih (b := { b with bitIndex := b.bitIndex + 8 }) (by dsimp only; omega) h

/-- The bits at the cursor after a search that has met a start code are that start code (R302, R407). -/
theorem BitReader.decode_seekStartCode {b c : BitReader} {x : Byte} (h : b.seekStartCode = (some x, c)) :
    decode .startCode (c.upcoming 32) = .ok (startCodeInstr x, []) := by
  obtain ⟨aligned, code, rfl⟩ := seek_found_at (b := b.align) (by simp) h
  have stored := seek_found h
  rw [upcoming_startCode aligned (by omega) code, ← List.append_nil (startCodeBits _),
    decode_startCodeBits]

end Sys2Proof.Machine
end

section
/-! What a step runs: the row that an engine fetches, or the first command of the queue. -/

namespace Sys2Proof.Machine

/-! ### Fetching (R304, R407, R902) -/

/-- Away from a search the row is the one the bits at the cursor decode to (R304). -/
theorem fetchVideo_of_decode {v : Video} {p : SyntaxPosition} {i : Instr} {rest : List Bool}
    (stands : v.syntaxPosition = some p) (h : p ≠ .startCode)
    (d : decode p (v.br.upcoming (windowSize p v.br)) = .ok (i, rest)) : fetchVideo v = .row i v := by
  rw [fetchVideo, stands]
  cases p with
  | startCode => exact absurd rfl h
  | _ => simp only [window, d]

/-- In a search the row is that of the next start code, the cursor on it (R407). -/
theorem fetchVideo_of_found {v : Video} {x : Byte} {br : BitReader}
    (stands : v.syntaxPosition = some .startCode) (h : v.br.seekStartCode = (some x, br)) :
    fetchVideo v = .row (startCodeInstr x) { v with br := br } := by
  rw [fetchVideo, stands]
  simp only [h]

/-- A search that meets no start code is exhausted (R407). -/
theorem fetchVideo_of_none {v : Video} {br : BitReader}
    (stands : v.syntaxPosition = some .startCode) (h : v.br.seekStartCode = (none, br)) :
    fetchVideo v = .exhausted { v with br := br } := by
  rw [fetchVideo, stands]
  simp only [h]

/-- The row of a header is the one the bits at the cursor decode to (R904). -/
theorem headerAt_of_decode {a : Audio} {i : Instr} {rest : List Bool}
    (d : decode .mp2Header (a.br.upcoming 48) = .ok (i, rest)) : headerAt a = .row i a := by
  rw [headerAt, window, windowSize, d]

/-! ### One step (R13, R1150) -/

/-- Inside a VDECODE a step runs the row that the VDE fetches. -/
theorem step_of_video_row {s : State} {i : Instr} {v : Video} (busy : s.v.pos ≠ .idle)
    (h : fetchVideo s.v = .row i v) : step s = exec i { s with v := v } := by
  rw [step, if_pos busy, h]

/-- Inside a VDECODE a step ends a search that meets no start code. -/
theorem step_of_video_exhausted {s : State} {v : Video} (busy : s.v.pos ≠ .idle)
    (h : fetchVideo s.v = .exhausted v) : step s = videoExhausted v s := by
  rw [step, if_pos busy, h]

/-- Inside an ADECODE a step runs the header that the ADE fetches. -/
theorem step_of_audio_row {s : State} {i : Instr} {a : Audio} (idle : s.v.pos = .idle)
    (busy : s.a.pos ≠ .idle) (h : fetchAudio s.a = .row i a) : step s = exec i { s with a := a } := by
  rw [step, if_neg (not_not.2 idle), if_pos busy, h]

/-- With both engines idle and no command queued a step changes nothing (R1211). -/
theorem step_of_no_command {s : State} (video : s.v.pos = .idle) (audio : s.a.pos = .idle)
    (queue : s.host = []) : step s = .next s := by
  rw [step, if_neg (not_not.2 video), if_neg (not_not.2 audio), queue]

/-- With both engines idle a step runs the first queued command (R1150). -/
theorem step_of_command {s : State} {c : HostCommand} {rest : List HostCommand} {i : Instr}
    (video : s.v.pos = .idle) (audio : s.a.pos = .idle) (queue : s.host = c :: rest)
    (d : decodeHost c = .ok i) : step s = exec i { s with host := rest } := by
  rw [step, if_neg (not_not.2 video), if_neg (not_not.2 audio), queue]
  simp only [d]

/-- A queued command that the decoder refuses is dropped (R1163). -/
theorem step_of_refused_command {s : State} {c : HostCommand} {rest : List HostCommand} {e : DecodeError}
    (video : s.v.pos = .idle) (audio : s.a.pos = .idle) (queue : s.host = c :: rest)
    (d : decodeHost c = .error e) : step s = .next { s with host := rest, response := none } := by
  rw [step, if_neg (not_not.2 video), if_neg (not_not.2 audio), queue]
  simp only [d]

/-- A command whose code is not in the table of R1163 is refused by the decoder. -/
theorem decodeHost_of_unassigned {c : HostCommand}
    (h : c.code.toNat ∉ [0x01, 0x02, 0x03, 0x04, 0x05, 0x11, 0x12, 0x13, 0x14, 0x15, 0x20, 0x21]) :
    decodeHost c = .error .unassignedCommand := by
  simp only [List.mem_cons, List.not_mem_nil, or_false, not_or] at h
  simp [decodeHost, BitVec.toNat_eq, h]

/-- Where the engine stands before a row it is inside a command. -/
theorem Video.busy_of_syntaxPosition {v : Video} {p : SyntaxPosition} (h : v.syntaxPosition = some p) :
    v.pos ≠ .idle := by
  intro idle
  simp [Video.syntaxPosition, idle] at h

/-- Settles O5: each clause is one branch of `step`, with the fetch of its engine. -/
theorem stepRunsTheDecodedInstruction : Obligations.StepRunsTheDecodedInstruction := by
  refine ⟨?row, ?startCode, ?header, ?command, ?unassigned, ?empty⟩
  case row =>
    intro s p i rest stands other d
    exact step_of_video_row (Video.busy_of_syntaxPosition stands) (fetchVideo_of_decode stands other d)
  case startCode =>
    intro s x br stands found
    exact ⟨BitReader.decode_seekStartCode found,
      step_of_video_row (Video.busy_of_syntaxPosition stands) (fetchVideo_of_found stands found)⟩
  case header =>
    intro s i rest idle pos b sync d stored
    refine step_of_audio_row idle (by simp [pos]) (fetchAudio_of_stored pos sync (headerAt_of_decode d) ?_)
    exact Nat.le_sub_of_add_le' stored
  case command =>
    intro s c rest i video audio queue d
    exact step_of_command video audio queue d
  case unassigned =>
    intro s c rest video audio queue code
    exact step_of_refused_command video audio queue (decodeHost_of_unassigned code)
  case empty =>
    intro s video audio queue
    exact step_of_no_command video audio queue

end Sys2Proof.Machine
end

section
/-! Where each operation of the video engine leaves it standing: before which element, and in a picture of which
type. -/

namespace Sys2Proof.Machine

/-- The engine works on the same picture: a slice error, too, leaves it inside. -/
def Video.StaysInPicture (v w : Video) : Prop := w.pos.inPicture = true ∧ w.pictureType = v.pictureType

/-- `w` stays where a state of the picture of `v` stays. -/
theorem Video.StaysInPicture.of_type {u v w : Video} (h : u.StaysInPicture w)
    (type : u.pictureType = v.pictureType) : v.StaysInPicture w := ⟨h.1, h.2.trans type⟩

/-! ### Macroblocks and blocks (R603-R612, R700-R713) -/

theorem Video.sliceError_staysInPicture (c : VideoCause) (v : Video) : v.StaysInPicture (v.sliceError c) :=
  ⟨rfl, rfl⟩

theorem Video.endMacroblock_staysInPicture (v : Video) : v.StaysInPicture v.endMacroblock := by
  unfold Video.endMacroblock
  split
  · dsimp only
    split <;> exact ⟨rfl, rfl⟩
  · exact ⟨rfl, rfl⟩

theorem Video.beginBlock_staysInPicture (i : Nat) (v : Video) : v.StaysInPicture (v.beginBlock i) := by
  refine ⟨?_, rfl⟩
  unfold Video.beginBlock
  dsimp only
  split <;> rfl

theorem Video.blocksFrom_staysInPicture (i : Nat) (v : Video) : v.StaysInPicture (v.blocksFrom i) := by
  unfold Video.blocksFrom
  split
  · exact v.beginBlock_staysInPicture _
  · exact v.endMacroblock_staysInPicture

theorem Video.patternStage_staysInPicture (v : Video) : v.StaysInPicture v.patternStage := by
  unfold Video.patternStage
  split
  · exact ⟨rfl, rfl⟩
  · exact (blocksFrom_staysInPicture 0 _).of_type rfl

theorem Video.endBlock_staysInPicture (v : Video) : v.StaysInPicture v.endBlock :=
  (blocksFrom_staysInPicture _ _).of_type v.reconstruct_pictureType

theorem Video.placeCoefficient_staysInPicture (run : Nat) (level : Int) (v : Video) :
    v.StaysInPicture (v.placeCoefficient run level) := by
  unfold Video.placeCoefficient
  dsimp only
  split
  · exact v.sliceError_staysInPicture _
  · exact ⟨rfl, rfl⟩

/-! ### Addresses (R605) -/

theorem Video.skipMacroblocks_pictureType (n : Nat) (v : Video) :
    (v.skipMacroblocks n).pictureType = v.pictureType := by
  induction n generalizing v with
  | zero => rfl
  | succ n ih => rw [Video.skipMacroblocks, ih, Video.predictMacroblock_pictureType, Video.locate_pictureType]

theorem Video.resetForSkip_pictureType (v : Video) : v.resetForSkip.pictureType = v.pictureType := by
  unfold Video.resetForSkip
  dsimp only
  split <;> rfl

theorem Video.updateAddress_staysInPicture (v : Video) : v.StaysInPicture v.updateAddress := by
  unfold Video.updateAddress
  dsimp only
  split
  · split <;> exact ⟨rfl, rfl⟩
  · split
    · exact v.sliceError_staysInPicture _
    · refine ⟨rfl, (skipMacroblocks_pictureType _ _).trans ?_⟩
      split
      · exact v.resetForSkip_pictureType
      · rfl

/-! ### Motion vectors and macroblock types (R606-R609, R801) -/

theorem Video.endMotion_staysInPicture (v : Video) : v.StaysInPicture v.endMotion :=
  (patternStage_staysInPicture _).of_type v.predictMacroblock_pictureType

theorem Video.backwardMotion_staysInPicture (v : Video) : v.StaysInPicture v.backwardMotion := by
  unfold Video.backwardMotion
  split
  · exact ⟨rfl, rfl⟩
  · exact v.endMotion_staysInPicture

theorem Video.beginMotion_staysInPicture (v : Video) : v.StaysInPicture v.beginMotion := by
  unfold Video.beginMotion
  split
  · exact ⟨rfl, rfl⟩
  · split
    · exact (backwardMotion_staysInPicture _).of_type rfl
    · exact v.backwardMotion_staysInPicture

theorem Video.motionElement_staysInPicture (code : Int) (v : Video) :
    v.StaysInPicture (v.motionElement code) := by
  unfold Video.motionElement
  obtain ⟨backward, vertical⟩ := v.motionTarget
  dsimp only
  generalize MotionState.update vertical code (if backward then v.mb else v.mf) v.br = u
  obtain ⟨m, br⟩ := u
  cases backward <;> cases vertical
  · exact ⟨rfl, rfl⟩
  · exact (backwardMotion_staysInPicture _).of_type rfl
  · exact ⟨rfl, rfl⟩
  · exact (endMotion_staysInPicture _).of_type rfl

theorem Video.macroblockHeader_staysInPicture (t : BitVec 5) (v : Video) :
    v.StaysInPicture (v.macroblockHeader t) := by
  unfold Video.macroblockHeader
  dsimp only
  split
  · refine (patternStage_staysInPicture _).of_type ?_
    dsimp only
    split <;> rfl
  · refine (beginMotion_staysInPicture _).of_type ?_
    dsimp only
    split <;> rfl

/-! ### The end of a command and the picture loop (R501, R506-R511) -/

theorem Video.beginPicture_pos (v : Video) : v.beginPicture.pos ∈ [.finished, .pictureHeader] := by
  unfold Video.beginPicture
  dsimp only
  split <;> simp [Video.returnNone]

theorem Video.pictureLoop_pos (v : Video) :
    v.pictureLoop.pos ∈ [.finished, .pictureHeader, .pictureSearch] := by
  unfold Video.pictureLoop
  split
  · exact List.mem_append_left [.pictureSearch] v.beginPicture_pos
  · simp

/-- With no start code found the picture loop searches (R501 step 3a). -/
theorem Video.pictureLoop_pos_of_none {v : Video} (h : v.startCode = none) :
    v.pictureLoop.pos = .pictureSearch := by
  simp [Video.pictureLoop, h]

theorem Video.endOfPictures_pos (v : Video) : v.endOfPictures.pos = .finished := by
  unfold Video.endOfPictures
  dsimp only
  split <;> rfl

theorem Video.dropPicture_pos (c : VideoCause) (v : Video) : (v.dropPicture c).pos = .pictureSearch :=
  pictureLoop_pos_of_none rfl

theorem Video.postRotate_startCode (v : Video) : v.postRotate.startCode = v.startCode := by
  unfold Video.postRotate
  split <;> rfl

/-- A picture that ends returns a frame, or the picture loop goes on with the start code found (R507, R501). -/
theorem Video.endPicture_cases (v : Video) :
    v.endPicture.pos = .finished ∨ ∃ u : Video, u.startCode = v.startCode ∧ v.endPicture = u.pictureLoop := by
  rw [Video.endPicture, Video.selectOutput]
  split
  · exact .inl rfl
  · split
    · exact .inl rfl
    · split
      · exact .inl rfl
      · exact .inr ⟨{ v.postRotate with hasReferenceFrame := true }, v.postRotate_startCode, rfl⟩

theorem Video.endPicture_pos (v : Video) :
    v.endPicture.pos ∈ [.finished, .pictureHeader, .pictureSearch] := by
  rcases v.endPicture_cases with h | ⟨u, -, e⟩
  · simp [h]
  · rw [e]
    exact u.pictureLoop_pos

theorem Video.endPicture_pos_of_none {v : Video} (h : v.startCode = none) :
    v.endPicture.pos ∈ [.finished, .pictureSearch] := by
  rcases v.endPicture_cases with f | ⟨u, c, e⟩
  · simp [f]
  · rw [e, pictureLoop_pos_of_none (c.trans h)]
    simp

/-! ### Sequence and picture headers (R502, R503) -/

theorem Video.beginSequenceHeader_pos (v : Video) :
    v.beginSequenceHeader.pos ∈ [.finished, .sequenceHeader] := by
  unfold Video.beginSequenceHeader
  dsimp only
  split <;> simp [Video.returnNone]

theorem Video.sequenceLoop_pos (v : Video) :
    v.sequenceLoop.pos ∈ [.finished, .sequenceHeader, .sequenceSearch] := by
  unfold Video.sequenceLoop
  split
  · exact List.mem_append_left [.sequenceSearch] v.beginSequenceHeader_pos
  · simp

theorem Video.sequenceHeaderRow_pos (h : SequenceHeader) (v : Video) :
    (v.sequenceHeaderRow h).pos ∈ [.finished, .pictureHeader, .pictureSearch] := by
  unfold Video.sequenceHeaderRow
  dsimp only
  split
  · exact pictureLoop_pos _
  · simp [Video.returnNone]

/-- A VDECODE starts before a picture or before the sequence header, or it ends at once (R501, R502). -/
theorem Video.beginDecode_pos (v : Video) :
    v.beginDecode.pos ∈
      [.finished, .pictureHeader, .pictureSearch, .sequenceHeader, .sequenceSearch] := by
  unfold Video.beginDecode
  dsimp only
  split
  · exact List.mem_append_left [.sequenceHeader, .sequenceSearch] (pictureLoop_pos _)
  · have h := sequenceLoop_pos { v with outFrame := none, raised := false, br.needData := false }
    simp only [List.mem_cons, List.not_mem_nil, or_false] at h ⊢
    tauto

theorem Video.preRotate_pictureType (v : Video) : v.preRotate.pictureType = v.pictureType := by
  unfold Video.preRotate
  dsimp only
  split <;> rfl

theorem Video.beginBody_staysInPicture (v : Video) : v.StaysInPicture v.beginBody :=
  ⟨rfl, v.preRotate_pictureType⟩

theorem Video.backwardCode_cases (c : VectorCode) (v : Video) :
    (v.backwardCode c).pos = .pictureSearch ∨
      ((v.backwardCode c).pos = .bodySearch ∧ (v.backwardCode c).pictureType = v.pictureType) := by
  unfold Video.backwardCode
  dsimp only
  split
  · exact .inl (dropPicture_pos _ _)
  · exact .inr ⟨rfl, (beginBody_staysInPicture _).2⟩

theorem Video.vectorCodes_cases (h : PictureHeader) (v : Video) :
    (v.vectorCodes h).pos = .pictureSearch ∨
      ((v.vectorCodes h).pos = .bodySearch ∧ (v.vectorCodes h).pictureType = v.pictureType) := by
  unfold Video.vectorCodes
  dsimp only
  split
  · exact .inl (dropPicture_pos _ _)
  · split
    · exact backwardCode_cases _ _
    · exact .inr ⟨rfl, (beginBody_staysInPicture _).2⟩

/-- A picture header drops its picture, or the body of a picture of type 1, 2 or 3 follows (R503, R511). -/
theorem Video.pictureHeaderRow_cases (h : PictureHeader) (v : Video) :
    (v.pictureHeaderRow h).pos = .pictureSearch ∨
      ((v.pictureHeaderRow h).pos = .bodySearch ∧ (v.pictureHeaderRow h).pictureType ∈ [1, 2, 3]) := by
  unfold Video.pictureHeaderRow
  dsimp only
  split
  · rename_i i
    refine .inr ⟨rfl, ?_⟩
    rw [(beginBody_staysInPicture _).2]
    simp [i]
  · split
    · rename_i pb
      refine (vectorCodes_cases h _).imp_right (And.imp_right fun e => ?_)
      rw [e]
      rcases pb with p | b
      · simp [p]
      · simp [b]
    · exact .inl (dropPicture_pos _ _)

/-! ### Every codeword -/

/-- The length of the codeword that a shared operation starts with, the sign bit of a motion code with it; 0 for a
start code or a header. -/
def VideoEffect.codeLength : VideoEffect → Nat
  | .startCode _ => 0
  | .sequenceHeader _ => 0
  | .pictureHeader _ => 0
  | .sliceHeader _ => 0
  | .address len _ => len
  | .stuffing len => len
  | .addressEscape len => len
  | .type len _ => len
  | .pattern len _ => len
  | .motionZero len => len
  | .motion len _ _ => len + 1
  | .dcSize len _ => len
  | .endOfBlock len => len
  | .coefficient len _ _ _ => len
  | .escape len => len
  | .completedEscape len _ _ _ => len
  | .reserved len => len

/-- A codeword leaves the engine inside the picture. -/
theorem VideoEffect.apply_staysInPicture {e : VideoEffect} (h : 0 < e.codeLength) (v : Video) :
    v.StaysInPicture (e.apply v) := by
  cases e with
  | startCode x => cases h
  | sequenceHeader s => cases h
  | pictureHeader p => cases h
  | sliceHeader s => cases h
  | address len t => exact (Video.updateAddress_staysInPicture _).of_type rfl
  | stuffing len => exact ⟨rfl, rfl⟩
  | addressEscape len => exact ⟨rfl, rfl⟩
  | type len t => exact (Video.macroblockHeader_staysInPicture t _).of_type rfl
  | pattern len p => exact (Video.blocksFrom_staysInPicture 0 _).of_type rfl
  | motionZero len => exact (Video.motionElement_staysInPicture 0 _).of_type rfl
  | motion len m sign => exact (Video.motionElement_staysInPicture _ _).of_type rfl
  | dcSize len z => exact ⟨rfl, rfl⟩
  | endOfBlock len => exact (Video.endBlock_staysInPicture _).of_type rfl
  | coefficient len run level sign => exact (Video.placeCoefficient_staysInPicture _ _ _).of_type rfl
  | escape len => exact (Video.placeCoefficient_staysInPicture _ _ _).of_type rfl
  | completedEscape len widths run level => exact (Video.placeCoefficient_staysInPicture _ _ _).of_type rfl
  | reserved len => exact (Video.sliceError_staysInPicture _ _).of_type rfl

/-- A codeword is consumed first; what its row does follows (R409). -/
theorem VideoEffect.apply_advances_codeword (e : VideoEffect) (v : Video) :
    (v.takeCodeword e.codeLength).Advances (e.apply v) := by
  cases e with
  | startCode x => exact v.startCodeRow_advances x
  | sequenceHeader h => exact v.sequenceHeaderRow_advances h
  | pictureHeader h => exact v.pictureHeaderRow_advances h
  | sliceHeader h => exact v.sliceHeaderRow_advances h
  | address len t => exact .trans (by exact .same rfl rfl rfl rfl rfl) (Video.updateAddress_advances _)
  | stuffing len => exact .same rfl rfl rfl rfl rfl
  | addressEscape len => exact .same rfl rfl rfl rfl rfl
  | type len t => exact Video.macroblockHeader_advances t _
  | pattern len p => exact .trans (by exact .same rfl rfl rfl rfl rfl) (Video.blocksFrom_advances 0 _)
  | motionZero len => exact Video.motionElement_advances 0 _
  | motion len m sign => exact Video.motionElement_advances _ _
  | dcSize len z => exact .of_reader (readDcDifferential_follows z _) rfl rfl rfl rfl
  | endOfBlock len => exact Video.endBlock_advances _
  | coefficient len run level sign =>
    exact .trans (by exact .of_reader (BitReader.take_follows 1 _) rfl rfl rfl rfl)
      (Video.placeCoefficient_advances run (signedLevel sign level)
        { v with br := (v.br.takeOnes len).take 1 })
  | escape len =>
    have reader := ((v.br.takeOnes len).read_follows 6).trans (readEscapeLevel_follows _)
    exact .trans (by exact .of_reader reader rfl rfl rfl rfl)
      (Video.placeCoefficient_advances ((v.br.takeOnes len).read 6).1
        (readEscapeLevel ((v.br.takeOnes len).read 6).2).1
        { v with br := (readEscapeLevel ((v.br.takeOnes len).read 6).2).2 })
  | completedEscape len widths run level =>
    exact .trans (by exact .of_reader (BitReader.takeFields_follows widths _) rfl rfl rfl rfl)
      (Video.placeCoefficient_advances run.toNat level
        { v with br := (v.br.takeOnes len).takeFields widths })
  | reserved len => exact Video.sliceError_advances _ _

end Sys2Proof.Machine
end

section
/-! Why a VDECODE ends: every element consumes a bit of the store or brings the engine nearer to the end of the
command, and inside a command there always is an element to run. -/

namespace Sys2Proof.Machine

/-! ### Bits left in the store (R400) -/

theorem BitReader.Follows.avail_le {b c : BitReader} (h : b.Follows c) : c.avail ≤ b.avail := by
  have cursor := h.cursor
  simp only [BitReader.avail, BitReader.length, h.bytes]
  omega

/-- A codeword of at least one bit consumes one where one is left (R409). -/
theorem BitReader.takeOnes_avail_lt {n : Nat} {b : BitReader} (pos : 0 < n) (left : 0 < b.avail) :
    (b.takeOnes n).avail < b.avail := by
  obtain ⟨n, rfl⟩ := Nat.exists_eq_succ_of_ne_zero pos.ne'
  have rest := ((b.take 1).takeOnes_follows n).avail_le
  have first : (b.take 1).avail = b.avail - 1 := by
    rw [take_of_le left]
    simp only [BitReader.avail, BitReader.length]
    omega
  rw [BitReader.takeOnes]
  omega

/-- Past the end of the store there are no bits to decode. -/
theorem BitReader.upcoming_of_avail_zero {b : BitReader} (h : b.avail = 0) (n : Nat) : b.upcoming n = [] := by
  rw [BitReader.upcoming, h, Nat.min_zero, BitReader.bitsFrom]

/-! ### Positions that a codeword stands at (R304, R313, R314) -/

/-- The positions of the VLC tables. -/
def isCodewordPosition : SyntaxPosition → Bool
  | .startCode => false
  | .sequenceHeader => false
  | .pictureHeader => false
  | .sliceHeader => false
  | .mp2Header => false
  | _ => true

/-- Every row of every table is a row of the video stream with a codeword of at least one bit. -/
theorem vlc_rows : ∀ T ∈ vlcTables, ∀ r ∈ T, ∀ sign,
    ∃ e ∈ videoEffect (r.make sign), 0 < e.codeLength := by decide +kernel

theorem decodeVlc_effect {T : List VlcRow} (h : T ∈ vlcTables) (bits : List Bool) :
    ∃ i rest e, decodeVlc T bits = .ok (i, rest) ∧ videoEffect i = some e ∧ 0 < e.codeLength := by
  obtain ⟨r, hr, sign, rest, d⟩ := decodeVlc_row h bits
  obtain ⟨e, he, pos⟩ := vlc_rows T h r hr sign
  exact ⟨_, rest, e, d, he, pos⟩

/-- An escape, completed or bare, has the codeword of 6 bits (R315, R325). -/
theorem completeEscape_effect (bits : List Bool) :
    ∃ i rest e, completeEscape bits = (i, rest) ∧ videoEffect i = some e ∧ 0 < e.codeLength := by
  unfold completeEscape
  dsimp only
  split
  · exact ⟨_, _, .escape 6, rfl, rfl, by decide⟩
  · split
    · split
      · exact ⟨_, _, .escape 6, rfl, rfl, by decide⟩
      · split <;> exact ⟨_, _, .completedEscape 6 _ _ _, rfl, rfl, Nat.succ_pos 5⟩
    · exact ⟨_, _, .completedEscape 6 _ _ _, rfl, rfl, Nat.succ_pos 5⟩

theorem decodeCoefficient_effect {T : List VlcRow} (h : T ∈ vlcTables) (bits : List Bool) :
    ∃ i rest e, decodeCoefficient T bits = .ok (i, rest) ∧ videoEffect i = some e ∧ 0 < e.codeLength := by
  obtain ⟨i, rest, e, d, he, pos⟩ := decodeVlc_effect h bits
  unfold decodeCoefficient
  split
  · rename_i rest' _
    obtain ⟨j, tail, f, c, hf, pos⟩ := completeEscape_effect rest'
    exact ⟨j, tail, f, by rw [c], hf, pos⟩
  · exact ⟨i, rest, e, d, he, pos⟩

/-- Whatever the bits, a codeword stands at a position of a table (R304, R409). -/
theorem decode_codeword {p : SyntaxPosition} (h : isCodewordPosition p = true) (bits : List Bool) :
    ∃ i rest e, decode p bits = .ok (i, rest) ∧ videoEffect i = some e ∧ 0 < e.codeLength := by
  cases p with
  | startCode => cases h
  | sequenceHeader => cases h
  | pictureHeader => cases h
  | sliceHeader => cases h
  | mp2Header => cases h
  | addressIncrement => exact decodeVlc_effect (by simp [vlcTables]) bits
  | typeI => exact decodeVlc_effect (by simp [vlcTables]) bits
  | typeP => exact decodeVlc_effect (by simp [vlcTables]) bits
  | typeB => exact decodeVlc_effect (by simp [vlcTables]) bits
  | codedBlockPattern => exact decodeVlc_effect (by simp [vlcTables]) bits
  | motionCode => exact decodeVlc_effect (by simp [vlcTables]) bits
  | dcSizeY => exact decodeVlc_effect (by simp [vlcTables]) bits
  | dcSizeC => exact decodeVlc_effect (by simp [vlcTables]) bits
  | firstCoefficient => exact decodeCoefficient_effect (by simp [vlcTables]) bits
  | nextCoefficient => exact decodeCoefficient_effect (by simp [vlcTables]) bits

/-- Where the row of the codeword leaves the engine past the end of the store, where every bit reads as 0 (R404):
a DC size stands there in tables DCT_DC_Y and DCT_DC_C, reserved bits (R326) in every other table. -/
def positionPastEnd : SyntaxPosition → VideoPos
  | .dcSizeY => .coefficient
  | .dcSizeC => .coefficient
  | _ => .sliceSearch

theorem decode_past_end {p : SyntaxPosition} (h : isCodewordPosition p = true) {i : Instr}
    {rest : List Bool} {e : VideoEffect} (d : decode p [] = .ok (i, rest)) (he : videoEffect i = some e)
    (v : Video) : (e.apply v).pos = positionPastEnd p := by
  cases p with
  | startCode => cases h
  | sequenceHeader => cases h
  | pictureHeader => cases h
  | sliceHeader => cases h
  | mp2Header => cases h
  | _ => cases d; cases he; rfl

/-! ### How near the end of its command the engine is (R501) -/

/-- How many elements that consume no bit can follow one another from a position to the end of the command, at
most. -/
def VideoPos.rank : VideoPos → Nat
  | .idle => 0
  | .finished => 0
  | .sequenceSearch => 1
  | .pictureSearch => 1
  | .bodySearch => 2
  | .sliceSearch => 2
  | .sequenceHeader => 4
  | .sliceHeader => 4
  | .dcSize => 4
  | _ => 3

theorem VideoPos.rank_le (p : VideoPos) : p.rank ≤ 4 := by
  unfold VideoPos.rank
  split <;> omega

/-- A bound on the elements left: a bit consumed outweighs every position (log entry 4). -/
def Video.remaining (v : Video) : Nat := 16 * v.br.avail + v.pos.rank

/-- An element that consumes a bit leaves fewer to run. -/
theorem Video.remaining_lt_of_avail {v w : Video} (h : w.br.avail < v.br.avail) :
    w.remaining < v.remaining := by
  have := w.pos.rank_le
  unfold Video.remaining
  omega

/-- An element that moves the engine nearer to the end leaves fewer to run. -/
theorem Video.remaining_lt_of_rank {v w : Video} (h : w.br.avail ≤ v.br.avail)
    (k : w.pos.rank < v.pos.rank) : w.remaining < v.remaining := by
  unfold Video.remaining
  omega

/-- The engine is inside a command, or at its end, and in a picture of a type that the macroblock tables know
(R503, R606). -/
structure Video.OnCourse (v : Video) : Prop where
  busy : v.pos ≠ .idle
  type : v.pos.inPicture = true → v.pictureType ∈ [1, 2, 3]

theorem Video.OnCourse.of_outside {v : Video} (h : v.pos ≠ .idle) (k : v.pos.inPicture = false) :
    v.OnCourse := ⟨h, by simp [k]⟩

/-- Before a picture or a sequence header, in their searches and at the end of the command, no picture type
matters. -/
theorem Video.OnCourse.of_mem {v : Video}
    (h : v.pos ∈ [.finished, .pictureHeader, .pictureSearch, .sequenceHeader, .sequenceSearch]) :
    v.OnCourse :=
  have outside : ∀ p ∈ ([.finished, .pictureHeader, .pictureSearch, .sequenceHeader, .sequenceSearch] :
      List VideoPos), p ≠ .idle ∧ p.inPicture = false := by decide
  .of_outside (outside _ h).1 (outside _ h).2

theorem Video.OnCourse.of_staysInPicture {v w : Video} (h : v.StaysInPicture w)
    (type : v.pictureType ∈ [1, 2, 3]) : w.OnCourse :=
  ⟨fun idle => by simp [StaysInPicture, idle, VideoPos.inPicture] at h, fun _ => h.2 ▸ type⟩

/-- What the engine stands before inside a command (R313, R314). -/
inductive Video.StandsBefore (v : Video) : Prop
  /-- A start-code search. -/
  | search (stands : v.syntaxPosition = some .startCode)
      (pos : v.pos ∈ [.sequenceSearch, .pictureSearch, .bodySearch, .sliceSearch])
  /-- The fields of a sequence header. -/
  | sequenceHeader (pos : v.pos = .sequenceHeader)
  /-- The fields of a picture header. -/
  | pictureHeader (pos : v.pos = .pictureHeader)
  /-- The fields of a slice header. -/
  | sliceHeader (pos : v.pos = .sliceHeader)
  /-- A codeword inside a picture; the zeros past the end of the store lead nearer to the end of the command. -/
  | codeword (p : SyntaxPosition) (stands : v.syntaxPosition = some p) (table : isCodewordPosition p = true)
      (inside : v.pos.inPicture = true) (lower : (positionPastEnd p).rank < v.pos.rank)

/-- Inside a command the engine stands before an element. -/
theorem Video.OnCourse.standsBefore {v : Video} (c : v.OnCourse) (running : v.pos ≠ .finished) :
    v.StandsBefore := by
  have codeword : ∀ p, v.syntaxPosition = some p → isCodewordPosition p = true → v.pos.inPicture = true →
      (positionPastEnd p).rank < v.pos.rank → v.StandsBefore := .codeword
  cases pos : v.pos with
  | idle => exact absurd pos c.busy
  | finished => exact absurd pos running
  | sequenceSearch => exact .search (by simp [Video.syntaxPosition, pos]) (by simp [pos])
  | pictureSearch => exact .search (by simp [Video.syntaxPosition, pos]) (by simp [pos])
  | bodySearch => exact .search (by simp [Video.syntaxPosition, pos]) (by simp [pos])
  | sliceSearch => exact .search (by simp [Video.syntaxPosition, pos]) (by simp [pos])
  | sequenceHeader => exact .sequenceHeader pos
  | pictureHeader => exact .pictureHeader pos
  | sliceHeader => exact .sliceHeader pos
  | addressIncrement =>
    rw [pos] at codeword
    exact codeword .addressIncrement (by simp [Video.syntaxPosition, pos]) rfl rfl (by decide)
  | macroblockType =>
    have type := c.type (by rw [pos]; rfl)
    rw [pos] at codeword
    simp only [List.mem_cons, List.not_mem_nil, or_false] at type
    rcases type with i | p | b
    · exact codeword .typeI (by simp [Video.syntaxPosition, pos, i]) rfl rfl (by decide)
    · exact codeword .typeP (by simp [Video.syntaxPosition, pos, p]) rfl rfl (by decide)
    · exact codeword .typeB (by simp [Video.syntaxPosition, pos, b]) rfl rfl (by decide)
  | motion backward vertical =>
    rw [pos] at codeword
    exact codeword .motionCode (by simp [Video.syntaxPosition, pos]) rfl rfl (Nat.lt_succ_self 2)
  | codedBlockPattern =>
    rw [pos] at codeword
    exact codeword .codedBlockPattern (by simp [Video.syntaxPosition, pos]) rfl rfl (by decide)
  | dcSize =>
    rw [pos] at codeword
    by_cases luma : dcPlane v.block = 0
    · exact codeword .dcSizeY (by simp [Video.syntaxPosition, pos, luma]) rfl rfl (by decide)
    · exact codeword .dcSizeC (by simp [Video.syntaxPosition, pos, luma]) rfl rfl (by decide)
  | coefficient =>
    rw [pos] at codeword
    by_cases first : v.coefficientPos = 0
    · exact codeword .firstCoefficient (by simp [Video.syntaxPosition, pos, first]) rfl rfl (by decide)
    · exact codeword .nextCoefficient (by simp [Video.syntaxPosition, pos, first]) rfl rfl (by decide)

/-- An element takes the engine nearer to the end of its command. -/
structure Video.Nearer (v w : Video) : Prop where
  onCourse : w.OnCourse
  remaining : w.remaining < v.remaining

/-! ### Searches (R407, R408, R504) -/

theorem Video.startCodeArrived_onCourse (x : Byte) {v : Video} (h : v.OnCourse) :
    (v.startCodeArrived x).OnCourse := by
  have after : v.pos.inPicture = true → (v.afterSlice x).OnCourse := by
    intro inside
    unfold Video.afterSlice
    dsimp only
    split
    · exact .of_staysInPicture (v := v) ⟨rfl, rfl⟩ (h.type inside)
    · exact .of_mem (List.mem_append_left [.sequenceHeader, .sequenceSearch] (endPicture_pos _))
  unfold Video.startCodeArrived
  split
  · split
    · refine .of_mem ?_
      have := beginSequenceHeader_pos { v with startCode := some x }
      simp only [List.mem_cons, List.not_mem_nil, or_false] at this ⊢
      tauto
    · exact h
  · split
    · exact .of_mem (List.mem_append_left [.pictureSearch, .sequenceHeader, .sequenceSearch]
        (beginPicture_pos _))
    · exact h
  · rename_i stands
    split
    · exact ⟨h.busy, h.type⟩
    · exact after (by rw [stands]; rfl)
  · rename_i stands
    exact after (by rw [stands]; rfl)
  · exact h

/-- A start code found has consumed its four bytes. -/
theorem Video.startCodeRow_nearer {v : Video} (h : v.OnCourse) {x : Byte} {br : BitReader}
    (found : v.br.seekStartCode = (some x, br)) :
    v.Nearer (VideoEffect.apply (.startCode x) { v with br := br }) := by
  have follows : br.avail ≤ v.br.avail := by
    have := v.br.seekStartCode_follows.avail_le
    rwa [found] at this
  have stored := BitReader.seek_found found
  refine ⟨startCodeArrived_onCourse x ⟨h.busy, h.type⟩, remaining_lt_of_avail ?_⟩
  have rest := (startCodeArrived_advances x { v with br := br.take 32 }).reader.avail_le
  have taken : (br.take 32).avail = br.avail - 32 := by
    rw [BitReader.take_of_le (by omega)]
    simp only [BitReader.avail, BitReader.length]
    omega
  exact rest.trans_lt (by dsimp only; omega)

/-- A search that meets no start code ends the command, or the search for the next picture follows. -/
theorem Video.startCodeExhausted_pos {v : Video}
    (h : v.pos ∈ [.sequenceSearch, .pictureSearch, .bodySearch, .sliceSearch]) :
    v.startCodeExhausted.pos ∈ [.finished, .pictureSearch] ∧
      v.startCodeExhausted.pos.rank < v.pos.rank := by
  have picture : ∀ {w : Video}, w.startCode = none →
      w.endPicture.pos ∈ [.finished, .pictureSearch] ∧ w.endPicture.pos.rank < 2 := by
    intro w none
    have low : ∀ p ∈ ([.finished, .pictureSearch] : List VideoPos), p.rank < 2 := by decide
    exact ⟨endPicture_pos_of_none none, low _ (endPicture_pos_of_none none)⟩
  simp only [List.mem_cons, List.not_mem_nil, or_false] at h
  rcases h with pos | pos | pos | pos <;> simp only [Video.startCodeExhausted, pos]
  · exact ⟨by simp [Video.returnNone], Nat.one_pos⟩
  · rw [v.endOfPictures_pos]
    exact ⟨by simp, Nat.one_pos⟩
  · exact picture rfl
  · exact picture rfl

theorem Video.startCodeExhausted_nearer {v : Video} {br : BitReader}
    (h : v.pos ∈ [.sequenceSearch, .pictureSearch, .bodySearch, .sliceSearch])
    (none : v.br.seekStartCode = (none, br)) :
    v.Nearer (Video.startCodeExhausted { v with br := br }) := by
  have follows : br.avail ≤ v.br.avail := by
    have := v.br.seekStartCode_follows.avail_le
    rwa [none] at this
  obtain ⟨pos, rank⟩ := startCodeExhausted_pos (v := { v with br := br }) h
  have rest := (startCodeExhausted_advances { v with br := br }).reader.avail_le
  refine ⟨.of_mem ?_, remaining_lt_of_rank (rest.trans follows) rank⟩
  simp only [List.mem_cons, List.not_mem_nil, or_false] at pos ⊢
  tauto

/-! ### Headers (R502, R503, R601) -/

theorem Video.sequenceHeaderRow_nearer {v : Video} (stands : v.pos = .sequenceHeader) (h : SequenceHeader) :
    v.Nearer (VideoEffect.apply (.sequenceHeader h) v) := by
  have pos := v.sequenceHeaderRow_pos h
  have low : ∀ p ∈ ([.finished, .pictureHeader, .pictureSearch] : List VideoPos), p.rank ≤ 3 := by decide
  refine ⟨.of_mem (List.mem_append_left [VideoPos.sequenceHeader, VideoPos.sequenceSearch] pos),
    remaining_lt_of_rank (v.sequenceHeaderRow_advances h).reader.avail_le ?_⟩
  rw [stands]
  exact (low _ pos).trans_lt (by decide)

theorem Video.pictureHeaderRow_nearer {v : Video} (stands : v.pos = .pictureHeader) (h : PictureHeader) :
    v.Nearer (VideoEffect.apply (.pictureHeader h) v) := by
  have reader := (v.pictureHeaderRow_advances h).reader.avail_le
  rw [VideoEffect.apply]
  rcases v.pictureHeaderRow_cases h with drop | ⟨body, type⟩
  · exact ⟨.of_mem (by simp [drop]), remaining_lt_of_rank reader (by rw [stands, drop]; decide)⟩
  · exact ⟨⟨by simp [body], fun _ => type⟩, remaining_lt_of_rank reader (by rw [stands, body]; decide)⟩

theorem Video.sliceHeaderRow_nearer {v : Video} (c : v.OnCourse) (stands : v.pos = .sliceHeader)
    (h : SliceHeader) : v.Nearer (VideoEffect.apply (.sliceHeader h) v) :=
  ⟨.of_staysInPicture (v := v) ⟨rfl, rfl⟩ (c.type (by rw [stands]; rfl)),
    remaining_lt_of_rank (v.sliceHeaderRow_advances h).reader.avail_le
      (by rw [stands]; exact (by decide : VideoPos.addressIncrement.rank < VideoPos.sliceHeader.rank))⟩

/-! ### Codewords (R409) -/

theorem VideoEffect.apply_nearer {v : Video} (c : v.OnCourse) {p : SyntaxPosition} {i : Instr}
    {rest : List Bool} {e : VideoEffect} (table : isCodewordPosition p = true)
    (inside : v.pos.inPicture = true) (lower : (positionPastEnd p).rank < v.pos.rank)
    (d : decode p (window p v.br) = .ok (i, rest)) (he : videoEffect i = some e) (pos : 0 < e.codeLength) :
    v.Nearer (e.apply v) := by
  refine ⟨.of_staysInPicture (e.apply_staysInPicture pos v) (c.type inside), ?_⟩
  rcases Nat.eq_zero_or_pos v.br.avail with none | left
  · rw [window, BitReader.upcoming_of_avail_zero none] at d
    refine Video.remaining_lt_of_rank (e.apply_advances v).reader.avail_le ?_
    rwa [decode_past_end table d he]
  · have after := (e.apply_advances_codeword v).reader.avail_le
    exact Video.remaining_lt_of_avail (after.trans_lt (BitReader.takeOnes_avail_lt pos left))

/-! ### One element (R501) -/

theorem decode_sequenceHeader (bits : List Bool) :
    decode .sequenceHeader bits =
      .ok (.sequenceHeader (decodeSequenceHeader bits).1, (decodeSequenceHeader bits).2) := by
  rw [decode]

theorem decode_pictureHeader (bits : List Bool) :
    decode .pictureHeader bits =
      .ok (.pictureHeader (decodePictureHeader bits).1, (decodePictureHeader bits).2) := by
  rw [decode]

theorem decode_sliceHeader (bits : List Bool) :
    decode .sliceHeader bits =
      .ok (.sliceHeader (decodeSliceHeader bits).1, (decodeSliceHeader bits).2) := by
  rw [decode]

/-- What an element makes of the VDE, the delivery of a response word left out. -/
inductive Video.Element (v w : Video) : Prop
  | row (i : Instr) (e : VideoEffect) (u : Video) (fetched : fetchVideo v = .row i u)
      (effect : videoEffect i = some e) (result : w = e.apply u)
  | exhausted (u : Video) (fetched : fetchVideo v = .exhausted u) (result : w = u.startCodeExhausted)

/-- Inside a command there is an element, and it takes the engine nearer to the end of the command. -/
theorem Video.OnCourse.element {v : Video} (c : v.OnCourse) (running : v.pos ≠ .finished) :
    ∃ w, v.Element w ∧ v.Nearer w := by
  have layout : ∀ {p : SyntaxPosition} {i : Instr} {rest : List Bool} {e : VideoEffect},
      v.syntaxPosition = some p → p ≠ .startCode → decode p (window p v.br) = .ok (i, rest) →
      videoEffect i = some e → v.Element (e.apply v) :=
    fun stands other d he => .row _ _ v (fetchVideo_of_decode stands other d) he rfl
  cases c.standsBefore running with
  | search stands pos =>
    rcases h : v.br.seekStartCode with ⟨_ | x, br⟩
    · exact ⟨_, .exhausted _ (fetchVideo_of_none stands h) rfl, startCodeExhausted_nearer pos h⟩
    · exact ⟨_, .row _ _ _ (fetchVideo_of_found stands h) (videoEffect_startCodeInstr x) rfl,
        startCodeRow_nearer c h⟩
  | sequenceHeader pos =>
    exact ⟨_, layout (by simp [Video.syntaxPosition, pos]) (by decide) (decode_sequenceHeader _)
      (e := .sequenceHeader _) rfl,
      sequenceHeaderRow_nearer pos _⟩
  | pictureHeader pos =>
    exact ⟨_, layout (by simp [Video.syntaxPosition, pos]) (by decide) (decode_pictureHeader _)
      (e := .pictureHeader _) rfl,
      pictureHeaderRow_nearer pos _⟩
  | sliceHeader pos =>
    exact ⟨_, layout (by simp [Video.syntaxPosition, pos]) (by decide) (decode_sliceHeader _)
      (e := .sliceHeader _) rfl,
      sliceHeaderRow_nearer c pos _⟩
  | codeword p stands table inside lower =>
    obtain ⟨i, rest, e, d, he, pos⟩ := decode_codeword table (window p v.br)
    exact ⟨_, layout stands (by rintro rfl; cases table) d he,
      VideoEffect.apply_nearer c table inside lower d he pos⟩

/-- An element inside a VDECODE (R501). -/
theorem videoElement_eq {s : State} {w : Video} (h : s.v.Element w) :
    videoElement s = .next (deliverVideo { s with v := w }) := by
  cases h with
  | row i e u fetched effect result =>
    rw [videoElement, fetched, result]
    exact runRow_eq_videoRow effect _
  | exhausted u fetched result =>
    rw [videoElement, fetched, result]
    rfl

/-- A single step does the same as the element (log entry 4). -/
theorem step_eq_element {s : State} {w : Video} (busy : s.v.pos ≠ .idle) (h : s.v.Element w) :
    step s = .next (deliverVideo { s with v := w }) := by
  cases h with
  | row i e u fetched effect result =>
    rw [step_of_video_row busy fetched, exec_videoRow_next effect, result]
  | exhausted u fetched result =>
    rw [step_of_video_exhausted busy fetched, result]
    rfl

/-! ### A whole VDECODE (R501, R1155) -/

/-- A command that has ended leaves the engine idle; any other goes on with the state it has reached. -/
theorem deliverVideo_cases (s : State) (w : Video) :
    (deliverVideo { s with v := w }).v.pos = .idle ∨
      (deliverVideo { s with v := w } = { s with v := w } ∧ w.pos ≠ .finished) := by
  by_cases f : w.pos = .finished
  · exact .inl (by rw [deliverVideo_of_finished s f]; rfl)
  · exact .inr ⟨deliverVideo_of_unfinished f, f⟩

theorem runVideo_of_idle {s : State} (h : s.v.pos = .idle) (k : Nat) : runVideo k s = .next s := by
  cases k with
  | zero => rfl
  | succ k => rw [runVideo, if_pos h]

theorem runVideo_of_element {s : State} {w : Video} (busy : s.v.pos ≠ .idle) (h : s.v.Element w) (k : Nat) :
    runVideo (k + 1) s = runVideo k (deliverVideo { s with v := w }) := by
  rw [runVideo, if_neg busy, videoElement_eq h]

/-- A run begins with its first step. -/
theorem run_of_step {s t : State} (h : step s = .next t) (n : Nat) :
    Host.Core.run core (n + 1) s = Host.Core.run core n t := by
  have first : core.step s = .next t := h
  simp only [Host.Core.run, first]

/-- With room for the elements left, a run of elements ends its command, and single steps reach the state it
answers. -/
theorem runVideo_ends {k : Nat} (s : State) {v : Video} (c : v.OnCourse) (room : v.remaining ≤ k) :
    ∃ (n : Nat) (t : State), runVideo k (deliverVideo { s with v := v }) = .next t ∧ t.v.pos = .idle ∧
      Host.Core.run core n (deliverVideo { s with v := v }) = .next t := by
  induction k generalizing v with
  | zero =>
    rcases deliverVideo_cases s v with idle | ⟨-, running⟩
    · exact ⟨0, _, runVideo_of_idle idle 0, idle, rfl⟩
    · obtain ⟨w, -, near⟩ := c.element running
      exact absurd near.remaining (by omega)
  | succ k ih =>
    rcases deliverVideo_cases s v with idle | ⟨same, running⟩
    · exact ⟨0, _, runVideo_of_idle idle _, idle, rfl⟩
    · obtain ⟨w, element, near⟩ := c.element running
      obtain ⟨n, t, ends, idle, steps⟩ := ih near.onCourse (Nat.lt_succ_iff.1 (near.remaining.trans_le room))
      rw [same]
      refine ⟨n + 1, t, ?_, idle, ?_⟩
      · rw [runVideo_of_element (s := { s with v := v }) c.busy element]
        exact ends
      · rw [run_of_step (step_eq_element (s := { s with v := v }) c.busy element)]
        exact steps

/-- The budget of a VDECODE has room for all its elements (log entry 4). -/
theorem remaining_le_videoBudget (v : Video) : v.remaining ≤ videoBudget v := by
  have := v.pos.rank_le
  unfold Video.remaining videoBudget BitReader.avail
  omega

theorem deliverVideo_length (s : State) : (deliverVideo s).v.br.length = s.v.br.length := by
  unfold deliverVideo
  split <;> rfl

/-- Settles O6: the elements that VDECODE runs within its budget are the single steps from its beginning. -/
theorem vdecodeIsItsSteps : Obligations.VdecodeIsItsSteps := by
  intro s idle
  have room : s.v.beginDecode.remaining ≤
      videoBudget (deliverVideo { s with v := s.v.beginDecode, response := none }).v := by
    have := remaining_le_videoBudget s.v.beginDecode
    rwa [videoBudget, ← deliverVideo_length { s with v := s.v.beginDecode, response := none }] at this
  obtain ⟨n, t, ends, done, steps⟩ :=
    runVideo_ends { s with response := none } (.of_mem s.v.beginDecode_pos) room
  refine ⟨n, t, ?_, done, steps⟩
  have whole : exec .vdecode s = decodeVideo s := if_pos idle
  rw [whole]
  exact ends

end Sys2Proof.Machine
end

section
/-! What a step can do to each engine: one list of moves per engine, and every step is a run of such moves. An
invariant of an engine holds after every step once every move keeps it. -/

namespace Sys2Proof.Machine

/-! ### What stands at a position (R304, R313, R314) -/

/-- Away from a search, a header stands at its own position and a codeword inside a slice. -/
theorem Video.syntaxPosition_cases {v : Video} {p : SyntaxPosition} (h : v.syntaxPosition = some p) :
    p = .startCode ∨ (p = .sequenceHeader ∧ v.pos = .sequenceHeader) ∨ (p = .pictureHeader ∧ v.pos = .pictureHeader) ∨
      (p = .sliceHeader ∧ v.pos = .sliceHeader) ∨
      (isCodewordPosition p = true ∧ v.pos.inSlice = true) := by
  have codeword : ∀ q, some q = some p → isCodewordPosition q = true → v.pos.inSlice = true →
      isCodewordPosition p = true ∧ v.pos.inSlice = true := by
    rintro q ⟨⟩ table inside
    exact ⟨table, inside⟩
  unfold Video.syntaxPosition at h
  cases pos : v.pos <;> rw [pos] at h codeword <;> dsimp only at h
  case idle | finished => cases h
  case sequenceSearch | pictureSearch | bodySearch | sliceSearch => cases h; exact .inl rfl
  case sequenceHeader | pictureHeader | sliceHeader => cases h; simp
  case addressIncrement | motion | codedBlockPattern =>
    exact .inr (.inr (.inr (.inr (codeword _ h rfl rfl))))
  case macroblockType =>
    split at h
    · exact .inr (.inr (.inr (.inr (codeword _ h rfl rfl))))
    · split at h
      · exact .inr (.inr (.inr (.inr (codeword _ h rfl rfl))))
      · split at h
        · exact .inr (.inr (.inr (.inr (codeword _ h rfl rfl))))
        · cases h
  case dcSize => exact .inr (.inr (.inr (.inr (codeword _ h (by split <;> rfl) rfl))))
  case coefficient => exact .inr (.inr (.inr (.inr (codeword _ h (by split <;> rfl) rfl))))

/-- A motion code is at most 16 (R323). -/
theorem videoEffect_motion_le {i : Instr} {len m : Nat} {sign : Bool}
    (h : videoEffect i = some (.motion len m sign)) : m ≤ 16 := by
  cases i <;> cases h <;> decide

/-! ### Fetching (R407) -/

/-- A row that the VDE fetches: the start code that a search has met, or the row that the bits at the cursor
decode to. -/
theorem fetchVideo_row {v u : Video} {i : Instr} (h : fetchVideo v = .row i u) :
    (v.syntaxPosition = some .startCode ∧
      ∃ x br, v.br.seekStartCode = (some x, br) ∧ i = startCodeInstr x ∧ u = { v with br := br }) ∨
    ∃ p rest, v.syntaxPosition = some p ∧ p ≠ .startCode ∧ decode p (window p v.br) = .ok (i, rest) ∧ u = v := by
  unfold fetchVideo at h
  split at h
  · cases h
  · rename_i stands
    split at h
    · rename_i x br found
      cases h
      exact .inl ⟨stands, x, br, found, rfl, rfl⟩
    · cases h
  · rename_i p other stands
    split at h
    · rename_i rest d
      cases h
      exact .inr ⟨p, rest, stands, other, d, rfl⟩
    · cases h

/-- A search that the VDE has exhausted has met no start code (R407). -/
theorem fetchVideo_exhausted {v u : Video} (h : fetchVideo v = .exhausted u) :
    v.syntaxPosition = some .startCode ∧ ∃ br, v.br.seekStartCode = (none, br) ∧ u = { v with br := br } := by
  unfold fetchVideo at h
  split at h
  · cases h
  · rename_i stands
    split at h
    · cases h
    · rename_i br none
      cases h
      exact ⟨stands, br, none, rfl⟩
  · split at h <;> cases h

/-! ### An element of a VDECODE (R501) -/

/-- The engine after a search, with the reader it leaves and the start code it notes. -/
def Video.searched (br : BitReader) (code : Option Byte) (v : Video) : Video :=
  { v with br := br, startCode := code }

/-- What an element makes of the VDE, by the position it stands at; the delivery of a response word is left out. -/
inductive Video.Becomes (v : Video) : Video → Prop
  /-- A search goes on behind a start code (R408, R504). -/
  | passed (br : BitReader) (code : Option Byte) (reader : v.br.Follows br) (busy : v.pos ≠ .idle) :
      v.Becomes (v.searched br code)
  /-- A sequence start code has been met (R502). -/
  | sequenceFound (br : BitReader) (code : Option Byte) (reader : v.br.Follows br)
      (search : v.pos = .sequenceSearch) : v.Becomes (v.searched br code).beginSequenceHeader
  /-- A picture start code has been met (R501 step 3a). -/
  | pictureFound (br : BitReader) (code : Option Byte) (reader : v.br.Follows br)
      (search : v.pos = .pictureSearch) : v.Becomes (v.searched br code).beginPicture
  /-- A slice start code has been met (R504). -/
  | sliceFound (br : BitReader) (code : Option Byte) (x : Byte) (reader : v.br.Follows br)
      (search : v.pos = .bodySearch ∨ v.pos = .sliceSearch) : v.Becomes ((v.searched br code).beginSlice x)
  /-- Another start code, or none, ends the picture (R504). -/
  | pictureEnded (br : BitReader) (code : Option Byte) (reader : v.br.Follows br)
      (search : v.pos = .bodySearch ∨ v.pos = .sliceSearch) : v.Becomes (v.searched br code).endPicture
  /-- No sequence start code is there (R502). -/
  | noSequence (br : BitReader) (reader : v.br.Follows br) (search : v.pos = .sequenceSearch) :
      v.Becomes (v.searched br none).returnNone
  /-- No picture start code is there (R501 step 3a). -/
  | noPicture (br : BitReader) (reader : v.br.Follows br) (search : v.pos = .pictureSearch) :
      v.Becomes (v.searched br none).endOfPictures
  | sequenceHeader (h : SequenceHeader) (stands : v.pos = .sequenceHeader) : v.Becomes (v.sequenceHeaderRow h)
  | pictureHeader (h : PictureHeader) (stands : v.pos = .pictureHeader) : v.Becomes (v.pictureHeaderRow h)
  | sliceHeader (h : SliceHeader) (stands : v.pos = .sliceHeader) : v.Becomes (v.sliceHeaderRow h)
  | codeword (e : VideoEffect) (length : 0 < e.codeLength) (inside : v.pos.inSlice = true)
      (motion : ∀ len m sign, e = .motion len m sign → m ≤ 16) : v.Becomes (e.apply v)

/-- A start code met by a search. -/
theorem Video.startCodeRow_becomes {v : Video} {br : BitReader} (x : Byte) (reader : v.br.Follows br)
    (busy : v.pos ≠ .idle) : v.Becomes (Video.startCodeRow x { v with br := br }) := by
  have taken := reader.trans (br.take_follows 32)
  have after (search : v.pos = .bodySearch ∨ v.pos = .sliceSearch) :
      v.Becomes (Video.afterSlice x { v with br := br.take 32 }) := by
    unfold Video.afterSlice
    dsimp only
    split
    · exact .sliceFound (br.take 32) (some x) x taken search
    · exact .pictureEnded (br.take 32) (some x) taken search
  unfold Video.startCodeRow Video.startCodeArrived
  split
  · split
    · exact .sequenceFound (br.take 32) (some x) taken ‹_›
    · exact .passed (br.take 32) v.startCode taken busy
  · split
    · exact .pictureFound (br.take 32) (some x) taken ‹_›
    · exact .passed (br.take 32) v.startCode taken busy
  · split
    · exact .passed (br.take 32) (some x) taken busy
    · exact after (.inl ‹_›)
  · exact after (.inr ‹_›)
  · exact .passed (br.take 32) v.startCode taken busy

/-- A search that meets no start code. -/
theorem Video.startCodeExhausted_becomes {v : Video} {br : BitReader} (reader : v.br.Follows br)
    (busy : v.pos ≠ .idle) : v.Becomes (Video.startCodeExhausted { v with br := br }) := by
  unfold Video.startCodeExhausted
  split
  · exact .noSequence br reader ‹_›
  · exact .noPicture br reader ‹_›
  · exact .pictureEnded br none reader (.inl ‹_›)
  · exact .pictureEnded br none reader (.inr ‹_›)
  · exact .passed br v.startCode reader busy

/-- The row that the VDE fetches has a shared operation, and that is what the element does. -/
theorem Video.becomes_of_row {v u : Video} {i : Instr} (h : fetchVideo v = .row i u) :
    ∃ e, videoEffect i = some e ∧ v.Becomes (e.apply u) := by
  rcases fetchVideo_row h with ⟨stands, x, br, found, rfl, rfl⟩ | ⟨p, rest, stands, other, d, rfl⟩
  · have reader := v.br.seekStartCode_follows
    rw [found] at reader
    exact ⟨_, videoEffect_startCodeInstr x, startCodeRow_becomes x reader (busy_of_syntaxPosition stands)⟩
  · rcases Video.syntaxPosition_cases stands with rfl | ⟨rfl, pos⟩ | ⟨rfl, pos⟩ | ⟨rfl, pos⟩ | ⟨table, inside⟩
    · exact absurd rfl other
    · rw [decode_sequenceHeader] at d
      generalize decodeSequenceHeader (window .sequenceHeader u.br) = r at d
      cases d
      exact ⟨.sequenceHeader r.1, rfl, .sequenceHeader r.1 pos⟩
    · rw [decode_pictureHeader] at d
      generalize decodePictureHeader (window .pictureHeader u.br) = r at d
      cases d
      exact ⟨.pictureHeader r.1, rfl, .pictureHeader r.1 pos⟩
    · rw [decode_sliceHeader] at d
      generalize decodeSliceHeader (window .sliceHeader u.br) = r at d
      cases d
      exact ⟨.sliceHeader r.1, rfl, .sliceHeader r.1 pos⟩
    · obtain ⟨j, tail, e, d', he, length⟩ := decode_codeword table (window p u.br)
      obtain ⟨rfl, -⟩ := Prod.mk.inj (Except.ok.inj (d.symm.trans d'))
      exact ⟨e, he, .codeword e length inside fun len m sign k => videoEffect_motion_le (k ▸ he)⟩

/-- A search that the VDE has exhausted. -/
theorem Video.becomes_of_exhausted {v u : Video} (h : fetchVideo v = .exhausted u) :
    v.Becomes u.startCodeExhausted := by
  obtain ⟨stands, br, none, rfl⟩ := fetchVideo_exhausted h
  have reader := v.br.seekStartCode_follows
  rw [none] at reader
  exact startCodeExhausted_becomes reader (busy_of_syntaxPosition stands)

/-! ### The moves of an engine (R1151, R501, R901) -/

/-- The VDE after the delivery of a response word that is due (R1152, R1301). -/
def Video.delivered (v : Video) : Video :=
  if v.pos = .finished then { v with pos := .idle, raised := false, br.needData := false } else v

/-- The ADE after the delivery of a response word that is due (R1152, R1301). -/
def Audio.delivered (a : Audio) : Audio :=
  if a.pos = .finished then { a with pos := .idle, raised := false, br.needData := false } else a

@[simp] theorem deliverVideo_v (s : State) : (deliverVideo s).v = s.v.delivered := by
  unfold deliverVideo Video.delivered
  split <;> rfl

@[simp] theorem deliverVideo_a (s : State) : (deliverVideo s).a = s.a := by
  unfold deliverVideo
  split <;> rfl

@[simp] theorem deliverAudio_a (s : State) : (deliverAudio s).a = s.a.delivered := by
  unfold deliverAudio Audio.delivered
  split <;> rfl

@[simp] theorem deliverAudio_v (s : State) : (deliverAudio s).v = s.v := by
  unfold deliverAudio
  split <;> rfl

/-- One move of the VDE: an element, or what a host command does to the idle engine; a VDECODE is its beginning
and the elements that follow. -/
inductive Video.Moves (v : Video) : Video → Prop
  | element {w : Video} (h : v.Becomes w) : v.Moves w.delivered
  | decode (idle : v.pos = .idle) : v.Moves v.beginDecode.delivered
  | write (idle : v.pos = .idle) (bytes : List Byte) : v.Moves { v with br := v.br.write bytes }
  | signalEnd (idle : v.pos = .idle) : v.Moves { v with br := v.br.signalEnd }
  | rewind (idle : v.pos = .idle) : v.Moves v.rewind
  | csrWrite (idle : v.pos = .idle) (r : Nat) (x : Word) : v.Moves (writeVideoCsr r x v)

/-- What a header search and the header it finds make of the ADE, the delivery of a response word left out. -/
inductive Audio.Becomes (a : Audio) : Audio → Prop
  | header (h : Mp2Header) (b : Audio) (fetched : fetchAudio a = .row (.mp2Header h) b) :
      a.Becomes (b.headerRow h)
  | otherHeader (h : Mp2SyncOther) (b : Audio) (fetched : fetchAudio a = .row (.mp2SyncOther h) b) :
      a.Becomes (b.otherHeaderRow h)
  | ended (b : Audio) (fetched : fetchAudio a = .ended b) : a.Becomes b

/-- One move of the ADE: an element, or what a host command does to the idle engine; an ADECODE is its beginning
and at most one element. -/
inductive Audio.Moves (a : Audio) : Audio → Prop
  | element {b : Audio} (h : a.Becomes b) : a.Moves b.delivered
  | decode (idle : a.pos = .idle) : a.Moves a.beginDecode.delivered
  | write (idle : a.pos = .idle) (bytes : List Byte) : a.Moves { a with br := a.br.write bytes }
  | signalEnd (idle : a.pos = .idle) : a.Moves { a with br := a.br.signalEnd }
  | rewind (idle : a.pos = .idle) : a.Moves a.rewind
  | csrWrite (idle : a.pos = .idle) (r : Nat) (x : Word) : a.Moves (writeAudioCsr r x a)

/-- The two engines of `t` are reached from those of `s`, each by moves of its own. -/
def State.Reaches (s t : State) : Prop :=
  Relation.ReflTransGen Video.Moves s.v t.v ∧ Relation.ReflTransGen Audio.Moves s.a t.a

theorem State.Reaches.same {s t : State} (v : t.v = s.v) (a : t.a = s.a) : s.Reaches t := by
  rw [State.Reaches, v, a]
  exact ⟨.refl, .refl⟩

theorem State.Reaches.video {s t : State} (v : s.v.Moves t.v) (a : t.a = s.a) : s.Reaches t :=
  ⟨.single v, a ▸ .refl⟩

theorem State.Reaches.audio {s t : State} (v : t.v = s.v) (a : s.a.Moves t.a) : s.Reaches t :=
  ⟨v ▸ .refl, .single a⟩

theorem State.Reaches.trans {s t u : State} (h : s.Reaches t) (k : t.Reaches u) : s.Reaches u :=
  ⟨h.1.trans k.1, h.2.trans k.2⟩

/-! ### Elements and whole commands -/

/-- A video row, run by a step or inside a VDECODE, is a move of the VDE. -/
theorem videoRow_reaches {u : Video} {e : VideoEffect} {s t : State} (becomes : s.v.Becomes (e.apply u))
    (h : videoRow e.apply { s with v := u } = .next t) : s.Reaches t := by
  cases h
  exact .video (by simpa using .element becomes) (by simp)

/-- A search that ends without a start code is a move of the VDE. -/
theorem videoExhausted_reaches {u : Video} {s t : State} (fetched : fetchVideo s.v = .exhausted u)
    (h : videoExhausted u s = .next t) : s.Reaches t := by
  cases h
  exact .video (by simpa using .element (Video.becomes_of_exhausted fetched)) (by simp)

/-- One element of a VDECODE is at most one move of the VDE. -/
theorem videoElement_reaches {s t : State} (h : videoElement s = .next t) : s.Reaches t := by
  unfold videoElement at h
  split at h
  · obtain ⟨e, he, becomes⟩ := Video.becomes_of_row ‹_›
    exact videoRow_reaches becomes (runRow_eq_videoRow he _ ▸ h)
  · exact videoExhausted_reaches ‹_› h
  · cases h
    exact .same rfl rfl

/-- Elements of a VDECODE are moves of the VDE. -/
theorem runVideo_reaches {k : Nat} {s t : State} (h : runVideo k s = .next t) : s.Reaches t := by
  induction k generalizing s with
  | zero =>
    cases h
    exact .same rfl rfl
  | succ k ih =>
    rw [runVideo] at h
    split at h
    · cases h
      exact .same rfl rfl
    · split at h
      · rename_i u first
        exact (videoElement_reaches first).trans (ih h)
      · cases h
      · cases h

/-- A VDECODE is its beginning and its elements. -/
theorem decodeVideo_reaches {s t : State} (idle : s.v.pos = .idle) (h : decodeVideo s = .next t) :
    s.Reaches t := by
  refine .trans ?_ (runVideo_reaches h)
  exact .video (by simpa using .decode idle) (by simp)

/-- What the bits at a syncword decode to is one of the two header rows (R318). -/
theorem decodeMp2Header_ok {bits rest : List Bool} {i : Instr} (h : decodeMp2Header bits = .ok (i, rest)) :
    (∃ m, i = .mp2Header m) ∨ ∃ m, i = .mp2SyncOther m := by
  unfold decodeMp2Header at h
  dsimp only at h
  split at h
  · cases h
  · split at h
    · cases h
      exact .inl ⟨_, rfl⟩
    · cases h
      exact .inr ⟨_, rfl⟩

/-- The row that a header search finds is one of the two header rows (R318). -/
theorem fetchAudio_instr {a b : Audio} {i : Instr} (h : fetchAudio a = .row i b) :
    (∃ m, i = .mp2Header m) ∨ ∃ m, i = .mp2SyncOther m := by
  have at_ {c : Audio} (k : headerAt c = .row i b) : (∃ m, i = .mp2Header m) ∨ ∃ m, i = .mp2SyncOther m := by
    obtain ⟨-, rest, d⟩ := headerAt_row k
    exact decodeMp2Header_ok d
  rcases (fetchAudio_row h).2 with ⟨-, k⟩ | ⟨-, -, k⟩
  · obtain ⟨rfl, row, -⟩ := headerBehindStuffing_row k
    exact at_ row
  · obtain ⟨stored, rfl⟩ := headerBehindSearch_row k
    rw [headerBehindSearch_of_stored stored] at k
    exact at_ k

/-- The header row that the ADE fetches, run by a step or inside an ADECODE. -/
theorem audioRow_reaches {s t : State} {i : Instr} {a : Audio} (fetched : fetchAudio s.a = .row i a)
    (h : exec i { s with a := a } = .next t) : s.Reaches t := by
  rcases fetchAudio_instr fetched with ⟨m, rfl⟩ | ⟨m, rfl⟩
  · cases h
    exact .audio (by simp) (by simpa using .element (.header m a fetched))
  · cases h
    exact .audio (by simp) (by simpa using .element (.otherHeader m a fetched))

/-- A header search that ends the ADECODE. -/
theorem audioEnded_reaches {s t : State} {a : Audio} (fetched : fetchAudio s.a = .ended a)
    (h : audioEnded a s = .next t) : s.Reaches t := by
  cases h
  exact .audio (by simp) (by simpa using .element (.ended a fetched))

/-- One element of an ADECODE is at most one move of the ADE. -/
theorem audioElement_reaches {s t : State} (h : audioElement s = .next t) : s.Reaches t := by
  unfold audioElement at h
  split at h
  · rename_i i a fetched
    refine audioRow_reaches fetched ?_
    rwa [← runRow_eq_exec i (by rcases fetchAudio_instr fetched with ⟨m, rfl⟩ | ⟨m, rfl⟩ <;> simp [Instr.positions])]
  · exact audioEnded_reaches ‹_› h
  · cases h
    exact .same rfl rfl

/-- An ADECODE is its beginning and at most one element. -/
theorem decodeAudio_reaches {s t : State} (idle : s.a.pos = .idle) (h : decodeAudio s = .next t) :
    s.Reaches t := by
  refine .trans (t := deliverAudio { s with a := s.a.beginDecode, response := none })
    (.audio (by simp) (by simpa using .decode idle)) ?_
  unfold decodeAudio runAudio at h
  split at h
  · cases h
    exact .same rfl rfl
  · exact audioElement_reaches h

/-! ### A step -/

/-- The instructions of the host (R1151). -/
inductive Instr.OfHost : Instr → Prop
  | vwrite (b : List Byte) : OfHost (.vwrite b)
  | vsignalEnd : OfHost .vsignalEnd
  | vdecode : OfHost .vdecode
  | vrewind : OfHost .vrewind
  | vframeRead (p n : Nat) : OfHost (.vframeRead p n)
  | awrite (b : List Byte) : OfHost (.awrite b)
  | asignalEnd : OfHost .asignalEnd
  | adecode : OfHost .adecode
  | arewind : OfHost .arewind
  | asamplesRead (n : Nat) : OfHost (.asamplesRead n)
  | csrRead (r : Nat) : OfHost (.csrRead r)
  | csrWrite (r : Nat) (x : Word) : OfHost (.csrWrite r x)

/-- A queued command that the decoder accepts is an instruction of the host (R1163). -/
theorem decodeHost_ofHost {c : HostCommand} {i : Instr} (d : decodeHost c = .ok i) : Instr.OfHost i := by
  have next {p : Prop} [Decidable p] {j : Instr} {rest : Except DecodeError Instr}
      (d : (if p then .ok j else rest) = .ok i) (host : Instr.OfHost j)
      (other : rest = .ok i → Instr.OfHost i) : Instr.OfHost i := by
    split at d
    · exact Except.ok.inj d ▸ host
    · exact other d
  exact next d (.vwrite _) fun d => next d .vsignalEnd fun d => next d .vdecode fun d => next d .vrewind fun d =>
    next d (.vframeRead _ _) fun d => next d (.awrite _) fun d => next d .asignalEnd fun d => next d .adecode fun d =>
    next d .arewind fun d => next d (.asamplesRead _) fun d => next d (.csrRead _) fun d =>
    next d (.csrWrite _ _) fun d => by cases d

/-- A host command moves the engine it is for, from idle (R1150, R1151). -/
theorem Instr.OfHost.reaches {i : Instr} (host : Instr.OfHost i) {s t : State} (video : s.v.pos = .idle)
    (audio : s.a.pos = .idle) (h : exec i s = .next t) : s.Reaches t := by
  have videoRuns {f : State → Result} (h : videoCommand f s = .next t) : f s = .next t := by
    rwa [videoCommand, if_pos video] at h
  have audioRuns {f : State → Result} (h : audioCommand f s = .next t) : f s = .next t := by
    rwa [audioCommand, if_pos audio] at h
  have csrRuns {r : Nat} {f : State → Result} (h : csrCommand r f s = .next t) : f s = .next t := by
    simpa [csrCommand, video, audio] using h
  cases host with
  | vwrite b => cases videoRuns h; exact .video (.write video b) rfl
  | vsignalEnd => cases videoRuns h; exact .video (.signalEnd video) rfl
  | vdecode => exact decodeVideo_reaches video (videoRuns h)
  | vrewind => cases videoRuns h; exact .video (.rewind video) rfl
  | vframeRead p n => cases videoRuns h; exact .same rfl rfl
  | awrite b => cases audioRuns h; exact .audio rfl (.write audio b)
  | asignalEnd => cases audioRuns h; exact .audio rfl (.signalEnd audio)
  | adecode => exact decodeAudio_reaches audio (audioRuns h)
  | arewind => cases audioRuns h; exact .audio rfl (.rewind audio)
  | asamplesRead n => cases audioRuns h; exact .same rfl rfl
  | csrRead r => cases csrRuns h; exact .same rfl rfl
  | csrWrite r x =>
    have h : execCsrWrite r x s = .next t := h
    unfold execCsrWrite at h
    cases csrRuns h
    exact ⟨.single (.csrWrite video r x), .single (.csrWrite audio r x)⟩

/-- Every step is made of moves of the two engines. -/
theorem step_reaches {s t : State} (h : step s = .next t) : s.Reaches t := by
  unfold step at h
  split at h
  · split at h
    · obtain ⟨e, he, becomes⟩ := Video.becomes_of_row ‹_›
      exact videoRow_reaches becomes (exec_eq_videoRow he _ ▸ h)
    · exact videoExhausted_reaches ‹_› h
    · cases h
      exact .same rfl rfl
  · rename_i video
    split at h
    · split at h
      · exact audioRow_reaches ‹_› h
      · exact audioEnded_reaches ‹_› h
      · cases h
        exact .same rfl rfl
    · rename_i audio
      split at h
      · cases h
        exact .same rfl rfl
      · rename_i c rest queue
        split at h
        · rename_i i d
          exact (decodeHost_ofHost d).reaches (s := { s with host := rest }) (not_not.1 video) (not_not.1 audio) h
        · cases h
          exact .same rfl rfl

/-- What every move of the VDE keeps, every step keeps. -/
theorem step_keeps_video {P : Video → Prop} (keeps : ∀ {v w : Video}, v.Moves w → P v → P w) {s t : State}
    (h : step s = .next t) (p : P s.v) : P t.v :=
  Relation.ReflTransGen.head_induction_on (motive := fun v _ => P v → P t.v) (step_reaches h).1 id
    (fun move _ rest p => rest (keeps move p)) p

/-- What every move of the ADE keeps, every step keeps. -/
theorem step_keeps_audio {P : Audio → Prop} (keeps : ∀ {a b : Audio}, a.Moves b → P a → P b) {s t : State}
    (h : step s = .next t) (p : P s.a) : P t.a :=
  Relation.ReflTransGen.head_induction_on (motive := fun a _ => P a → P t.a) (step_reaches h).2 id
    (fun move _ rest p => rest (keeps move p)) p

end Sys2Proof.Machine
end

section
/-! What the operations of the video engine keep: the canonical form of the planes and the sizes of the register
files everywhere, the frame indices everywhere but in the two rotations, and the range of the motion vectors inside
a slice. -/

namespace Sys2Proof.Machine

/-! ### Register files, planes and vectors -/

/-- The planes are in their canonical form (R108). -/
def Video.FramesLegal (v : Video) : Prop := v.fb0.wf = true ∧ v.fb1.wf = true ∧ v.fb2.wf = true

/-- The planes are in their canonical form, and the register files have their sizes (R103, R107, R108). -/
def Video.FilesLegal (v : Video) : Prop :=
  v.FramesLegal ∧ v.intraQuantMatrix.length = 64 ∧ v.nonIntraQuantMatrix.length = 64 ∧
    v.dcPredictor.length = 3 ∧ v.blockData.length = 64

/-- Both vectors are in range (R803). -/
def Video.VectorsLegal (v : Video) : Prop := v.mf.inRange = true ∧ v.mb.inRange = true

/-- The frame indices stay, and legal files stay legal. -/
structure Video.Keeps (v w : Video) : Prop where
  cur : w.cur = v.cur
  fwd : w.fwd = v.fwd
  bwd : w.bwd = v.bwd
  temp : w.temp = v.temp
  files : v.FilesLegal → w.FilesLegal

/-- And vectors in range stay in range: what every operation inside a slice does (R803). -/
structure Video.KeepsSlice (v w : Video) : Prop extends v.Keeps w where
  vectors : v.VectorsLegal → w.VectorsLegal

theorem Video.Keeps.refl (v : Video) : v.Keeps v := ⟨rfl, rfl, rfl, rfl, id⟩

theorem Video.Keeps.trans {u v w : Video} (h : u.Keeps v) (k : v.Keeps w) : u.Keeps w :=
  ⟨k.cur.trans h.cur, k.fwd.trans h.fwd, k.bwd.trans h.bwd, k.temp.trans h.temp, k.files ∘ h.files⟩

theorem Video.KeepsSlice.refl (v : Video) : v.KeepsSlice v := ⟨.refl v, id⟩

theorem Video.KeepsSlice.trans {u v w : Video} (h : u.KeepsSlice v) (k : v.KeepsSlice w) : u.KeepsSlice w :=
  ⟨h.toKeeps.trans k.toKeeps, k.vectors ∘ h.vectors⟩

/-- Samples and causes are neither indices nor vectors. -/
theorem Video.SamplesOnly.keepsSlice {v w : Video} (h : v.SamplesOnly w) (frames : v.FramesLegal → w.FramesLegal) :
    v.KeepsSlice w := by
  refine ⟨⟨h.cur, h.fwd, h.bwd, h.temp, fun legal => ?_⟩, fun legal => ?_⟩
  · rw [Video.FilesLegal, h.intraQuantMatrix, h.nonIntraQuantMatrix, h.dcPredictor, h.blockData]
    exact ⟨frames legal.1, legal.2⟩
  · rwa [Video.VectorsLegal, h.mf, h.mb]

/-- A register file of the same length, or of its reset length. -/
theorem Video.KeepsSlice.dcPredictor {v : Video} {dc : List Int} (h : v.dcPredictor.length = 3 → dc.length = 3) :
    v.KeepsSlice { v with dcPredictor := dc } :=
  ⟨⟨rfl, rfl, rfl, rfl, fun ⟨frames, intra, nonIntra, old, block⟩ => ⟨frames, intra, nonIntra, h old, block⟩⟩, id⟩

theorem Video.KeepsSlice.blockData {v : Video} {block : List Int}
    (h : v.blockData.length = 64 → block.length = 64) : v.KeepsSlice { v with blockData := block } :=
  ⟨⟨rfl, rfl, rfl, rfl, fun ⟨frames, intra, nonIntra, dc, old⟩ => ⟨frames, intra, nonIntra, dc, h old⟩⟩, id⟩

theorem Video.KeepsSlice.vectorsOf {v : Video} {mf mb : MotionState}
    (h : v.VectorsLegal → mf.inRange = true ∧ mb.inRange = true) : v.KeepsSlice { v with mf := mf, mb := mb } :=
  ⟨⟨rfl, rfl, rfl, rfl, id⟩, h⟩

theorem zeroBlock_length : zeroBlock.length = 64 := List.length_replicate

/-! ### Samples (R204) -/

/-- A write keeps the canonical form of a frame (R108). -/
theorem Frame.wf_setPlane {f : Frame} (h : f.wf = true) (p : Plane) (i : Nat) (x : Byte) :
    (f.setPlane p ((f.plane p).write i x)).wf = true := by
  simp only [Frame.wf, Bool.and_eq_true] at h
  cases p <;> simp [Frame.wf, Frame.setPlane, Frame.plane, Memory.wf_write, h]

theorem Video.frame_wf {v : Video} (h : v.FramesLegal) (f : Fin 3) : (v.frame f).wf = true := by
  obtain ⟨h0, h1, h2⟩ := h
  fin_cases f <;> assumption

theorem Video.setFrame_framesLegal {v : Video} (h : v.FramesLegal) (f : Fin 3) {x : Frame} (k : x.wf = true) :
    (v.setFrame f x).FramesLegal := by
  obtain ⟨h0, h1, h2⟩ := h
  fin_cases f
  · exact ⟨k, h1, h2⟩
  · exact ⟨h0, k, h2⟩
  · exact ⟨h0, h1, k⟩

theorem Video.planeWrite_framesLegal {v : Video} (h : v.FramesLegal) (f : Fin 3) (p : Plane) (i : Nat)
    (x : Byte) : (v.planeWrite f p i x).FramesLegal :=
  setFrame_framesLegal h f (Frame.wf_setPlane (frame_wf h f) p i x)

theorem Video.planePredict_framesLegal {v : Video} (h : v.FramesLegal) (average : Bool) (s : Fin 3) (p : Plane)
    (mh mv : Int) (size : Nat) : (v.planePredict average s p mh mv size).FramesLegal := by
  unfold Video.planePredict
  split
  · exact List.foldlRecOn _ _ h fun w k _ _ => planeWrite_framesLegal k _ _ _ _
  · exact h

theorem Video.predictFrom_framesLegal {v : Video} (h : v.FramesLegal) (average : Bool) (s : Fin 3)
    (vector : Int × Int) : (v.predictFrom average s vector).FramesLegal :=
  planePredict_framesLegal (planePredict_framesLegal (planePredict_framesLegal h ..) ..) ..

theorem Video.predictMacroblock_framesLegal {v : Video} (h : v.FramesLegal) :
    v.predictMacroblock.FramesLegal := by
  unfold Video.predictMacroblock
  dsimp only
  split
  · split
    · split
      · exact predictFrom_framesLegal (predictFrom_framesLegal h ..) ..
      · exact predictFrom_framesLegal h ..
    · exact predictFrom_framesLegal h ..
  · exact predictFrom_framesLegal h ..

/-- A prediction (R809). -/
theorem Video.predictMacroblock_keeps (v : Video) : v.KeepsSlice v.predictMacroblock :=
  v.predictMacroblock_samplesOnly.keepsSlice predictMacroblock_framesLegal

/-- A reconstruction: 64 samples, and the coefficient registers cleared (R714-R720). -/
theorem Video.reconstruct_keeps (v : Video) : v.KeepsSlice v.reconstruct := by
  unfold Video.reconstruct
  dsimp only
  have frames (h : v.FramesLegal) (residual : List Int) (t : BlockTarget) (l : List Nat) :
      (l.foldl (Video.writeBlockSample residual t) v).FramesLegal :=
    List.foldlRecOn l _ h fun _ k _ _ => planeWrite_framesLegal k _ _ _ _
  exact ((v.writeBlock_samplesOnly _ _ _).keepsSlice (frames · _ _ _)).trans (.blockData fun _ => zeroBlock_length)

/-! ### Motion vectors (R802, R803) -/

/-- A component that needs no wrap (R803). -/
def inMotionBounds (r : Nat) (x : Int) : Prop := -(16 * 2 ^ r) ≤ x ∧ x < 16 * 2 ^ r

theorem MotionState.inRange_iff (m : MotionState) :
    m.inRange = true ↔ inMotionBounds m.rSize.toNat m.h ∧ inMotionBounds m.rSize.toNat m.v := by
  simp [MotionState.inRange, inMotionBounds, and_assoc]

theorem inMotionBounds_zero (r : Nat) : inMotionBounds r 0 := by
  have : (0 : Int) < 2 ^ r := by positivity
  constructor <;> omega

/-- A vector of 0 is in range (R601). -/
theorem MotionState.zeroVector_inRange (m : MotionState) : m.zeroVector.inRange = true :=
  m.zeroVector.inRange_iff.2 ⟨inMotionBounds_zero _, inMotionBounds_zero _⟩

/-- The wrap brings a component back that is out of range by at most the range (R803). -/
theorem wrapMotion_inBounds {r : Nat} {x : Int} (low : -(32 * 2 ^ r) ≤ x) (high : x < 32 * 2 ^ r) :
    inMotionBounds r (wrapMotion r x) := by
  unfold wrapMotion inMotionBounds
  dsimp only
  split
  · omega
  · split <;> omega

/-- The bits of a field are a number of its width (R403). -/
theorem natOfBits_lt (bits : List Bool) : natOfBits bits < 2 ^ bits.length := by
  induction bits with
  | nil => simp [natOfBits]
  | cons b bits ih =>
    rw [natOfBits_cons, List.length_cons, pow_succ]
    cases b <;> simp <;> omega

theorem BitReader.bitsFrom_length (b : BitReader) (k n : Nat) : (b.bitsFrom k n).length = n := by
  induction n generalizing k with
  | zero => rfl
  | succ n ih => simp [BitReader.bitsFrom, ih]

/-- A field read is a number of its width (R403). -/
theorem BitReader.read_lt (n : Nat) (b : BitReader) : (b.read n).1 < 2 ^ n := by
  unfold BitReader.read
  dsimp only
  split
  · simpa [bitsFrom_length] using natOfBits_lt (b.bitsFrom b.bitIndex n)
  · positivity

/-- A differential is at most the range (R802): 15 whole steps, a residual, and 1. -/
theorem motionDelta_le {r residual : Nat} {code : Int} (small : code.natAbs ≤ 16) (field : residual < 2 ^ r) :
    -(16 * 2 ^ r) ≤ motionDelta r code residual ∧ motionDelta r code residual ≤ 16 * 2 ^ r := by
  have field : (residual : Int) + 1 ≤ 2 ^ r := by exact_mod_cast field
  unfold motionDelta
  split
  · omega
  · rename_i coded
    have steps : ((code.natAbs : Int) - 1) * 2 ^ r ≤ 15 * 2 ^ r :=
      mul_le_mul_of_nonneg_right (by omega) (by positivity)
    have first : 0 ≤ ((code.natAbs : Int) - 1) * 2 ^ r := mul_nonneg (by omega) (by positivity)
    dsimp only
    split <;> omega

/-- MVC keeps a component in range (R802, R803). -/
theorem motionComponent_inBounds {r : Nat} {code x : Int} (small : code.natAbs ≤ 16) (h : inMotionBounds r x)
    (b : BitReader) : inMotionBounds r (motionComponent r code x b).1 := by
  obtain ⟨low, high⟩ := h
  have wrap {residual : Nat} (field : residual < 2 ^ r) :
      inMotionBounds r (wrapMotion r (x + motionDelta r code residual)) := by
    obtain ⟨l, u⟩ := motionDelta_le small field
    exact wrapMotion_inBounds (by omega) (by omega)
  unfold motionComponent
  dsimp only
  split
  · exact wrap (b.read_lt r)
  · exact wrap (by positivity)

/-- A motion record stays in range (R801, R803). -/
theorem MotionState.update_inRange {vertical : Bool} {code : Int} {m : MotionState} (small : code.natAbs ≤ 16)
    (h : m.inRange = true) (b : BitReader) : (MotionState.update vertical code m b).1.inRange = true := by
  obtain ⟨x, y⟩ := m.inRange_iff.1 h
  unfold MotionState.update
  split
  · exact (MotionState.inRange_iff _).2 ⟨x, motionComponent_inBounds small y b⟩
  · exact (MotionState.inRange_iff _).2 ⟨motionComponent_inBounds small x b, y⟩

/-! ### Slices and macroblocks (R601-R612) -/

theorem Video.sliceError_keeps (c : VideoCause) (v : Video) : v.KeepsSlice (v.sliceError c) :=
  .trans (v := { v with blockData := zeroBlock }) (.blockData fun _ => zeroBlock_length)
    ⟨⟨rfl, rfl, rfl, rfl, id⟩, id⟩

theorem Video.endMacroblock_keeps (v : Video) : v.KeepsSlice v.endMacroblock := by
  unfold Video.endMacroblock
  split
  · dsimp only
    split <;> exact ⟨⟨rfl, rfl, rfl, rfl, id⟩, id⟩
  · exact ⟨⟨rfl, rfl, rfl, rfl, id⟩, id⟩

theorem Video.skipMacroblocks_keeps (n : Nat) (v : Video) : v.KeepsSlice (v.skipMacroblocks n) := by
  induction n generalizing v with
  | zero => exact .refl v
  | succ n ih =>
    have next : v.KeepsSlice { v with macroblockAddress := v.macroblockAddress + 1 }.locate :=
      ⟨⟨rfl, rfl, rfl, rfl, id⟩, id⟩
    exact (next.trans (predictMacroblock_keeps _)).trans (ih _)

theorem Video.resetForSkip_keeps (v : Video) : v.KeepsSlice v.resetForSkip := by
  have dc : v.KeepsSlice { v with dcPredictor := dcReset } := .dcPredictor fun _ => rfl
  unfold Video.resetForSkip
  dsimp only
  split
  · exact dc.trans (.vectorsOf fun h => ⟨MotionState.zeroVector_inRange _, h.2⟩)
  · exact dc

theorem Video.updateAddress_keeps (v : Video) : v.KeepsSlice v.updateAddress := by
  unfold Video.updateAddress
  dsimp only
  split
  · split
    · exact .trans (by exact ⟨⟨rfl, rfl, rfl, rfl, id⟩, id⟩) (sliceError_keeps _ _)
    · exact ⟨⟨rfl, rfl, rfl, rfl, id⟩, id⟩
  · split
    · exact v.sliceError_keeps _
    · have reset : v.KeepsSlice (if 1 < v.increment then v.resetForSkip else v) := by
        split
        · exact v.resetForSkip_keeps
        · exact .refl v
      exact (reset.trans (skipMacroblocks_keeps _ _)).trans ⟨⟨rfl, rfl, rfl, rfl, id⟩, id⟩

/-! ### Blocks (R611, R700-R713) -/

theorem Video.blocksFrom_keeps (i : Nat) (v : Video) : v.KeepsSlice (v.blocksFrom i) := by
  unfold Video.blocksFrom
  split
  · exact ⟨⟨rfl, rfl, rfl, rfl, id⟩, id⟩
  · exact v.endMacroblock_keeps

theorem Video.patternStage_keeps (v : Video) : v.KeepsSlice v.patternStage := by
  unfold Video.patternStage
  split
  · exact ⟨⟨rfl, rfl, rfl, rfl, id⟩, id⟩
  · exact .trans (by exact ⟨⟨rfl, rfl, rfl, rfl, id⟩, id⟩) (blocksFrom_keeps _ _)

theorem Video.placeCoefficient_keeps (run : Nat) (level : Int) (v : Video) :
    v.KeepsSlice (v.placeCoefficient run level) := by
  unfold Video.placeCoefficient
  dsimp only
  split
  · exact v.sliceError_keeps _
  · exact .trans (.blockData fun h => (List.length_set ..).trans h) ⟨⟨rfl, rfl, rfl, rfl, id⟩, id⟩

theorem Video.endBlock_keeps (v : Video) : v.KeepsSlice v.endBlock :=
  v.reconstruct_keeps.trans (blocksFrom_keeps _ _)

theorem Video.placeDc_keeps (diff : Int) (v : Video) : v.KeepsSlice (v.placeDc diff) := by
  unfold Video.placeDc
  dsimp only
  exact .trans (.dcPredictor fun h => (List.length_set ..).trans h)
    (.trans (.blockData fun h => (List.length_set ..).trans h) ⟨⟨rfl, rfl, rfl, rfl, id⟩, id⟩)

/-! ### Motion vectors and macroblock types (R606-R609, R801) -/

theorem Video.endMotion_keeps (v : Video) : v.KeepsSlice v.endMotion :=
  v.predictMacroblock_keeps.trans (patternStage_keeps _)

theorem Video.backwardMotion_keeps (v : Video) : v.KeepsSlice v.backwardMotion := by
  unfold Video.backwardMotion
  split
  · exact ⟨⟨rfl, rfl, rfl, rfl, id⟩, id⟩
  · exact v.endMotion_keeps

theorem Video.beginMotion_keeps (v : Video) : v.KeepsSlice v.beginMotion := by
  unfold Video.beginMotion
  split
  · exact ⟨⟨rfl, rfl, rfl, rfl, id⟩, id⟩
  · split
    · exact .trans (.vectorsOf fun h => ⟨MotionState.zeroVector_inRange _, h.2⟩) (backwardMotion_keeps _)
    · exact v.backwardMotion_keeps

theorem Video.motionElement_keeps {code : Int} (small : code.natAbs ≤ 16) (v : Video) :
    v.KeepsSlice (v.motionElement code) := by
  unfold Video.motionElement
  obtain ⟨backward, vertical⟩ := v.motionTarget
  have range (h : (if backward then v.mb else v.mf).inRange = true) :=
    MotionState.update_inRange (vertical := vertical) small h v.br
  dsimp only
  generalize MotionState.update vertical code (if backward then v.mb else v.mf) v.br = u at range ⊢
  obtain ⟨m, br⟩ := u
  have forward (e : backward = false) : v.KeepsSlice { v with br := br, mf := m } :=
    ⟨⟨rfl, rfl, rfl, rfl, id⟩, fun h => ⟨range (by simpa [e] using h.1), h.2⟩⟩
  have backwards (e : backward = true) : v.KeepsSlice { v with br := br, mb := m } :=
    ⟨⟨rfl, rfl, rfl, rfl, id⟩, fun h => ⟨h.1, range (by simpa [e] using h.2)⟩⟩
  dsimp only
  cases backward <;> cases vertical
  · exact (forward rfl).trans ⟨⟨rfl, rfl, rfl, rfl, id⟩, id⟩
  · exact (forward rfl).trans (backwardMotion_keeps _)
  · exact (backwards rfl).trans ⟨⟨rfl, rfl, rfl, rfl, id⟩, id⟩
  · exact (backwards rfl).trans (endMotion_keeps _)

theorem Video.macroblockHeader_keeps (t : BitVec 5) (v : Video) : v.KeepsSlice (v.macroblockHeader t) := by
  unfold Video.macroblockHeader
  dsimp only
  generalize hw : (if typeQscale t = true then _ else _ : Video) = w
  have scaled : v.KeepsSlice w := by
    rw [← hw]
    split <;> exact ⟨⟨rfl, rfl, rfl, rfl, id⟩, id⟩
  split
  · have zero : w.KeepsSlice { w with mf := w.mf.zeroVector, mb := w.mb.zeroVector } :=
      .vectorsOf fun _ => ⟨w.mf.zeroVector_inRange, w.mb.zeroVector_inRange⟩
    exact (scaled.trans zero).trans (patternStage_keeps _)
  · exact (scaled.trans (.dcPredictor fun _ => rfl)).trans (beginMotion_keeps _)

/-! ### Every codeword (R409) -/

theorem signedLevel_natAbs (sign : Bool) (m : Nat) : (signedLevel sign m).natAbs = m := by
  cases sign <;> simp [signedLevel]

/-- A codeword keeps the frame indices, the files and the range of the vectors. -/
theorem VideoEffect.apply_keeps {e : VideoEffect} (h : 0 < e.codeLength)
    (motion : ∀ len m sign, e = .motion len m sign → m ≤ 16) (v : Video) : v.KeepsSlice (e.apply v) := by
  have reader (br : BitReader) : v.KeepsSlice { v with br := br } := ⟨⟨rfl, rfl, rfl, rfl, id⟩, id⟩
  cases e with
  | startCode x => cases h
  | sequenceHeader s => cases h
  | pictureHeader p => cases h
  | sliceHeader s => cases h
  | address len t => exact .trans (by exact ⟨⟨rfl, rfl, rfl, rfl, id⟩, id⟩) (Video.updateAddress_keeps _)
  | stuffing len => exact ⟨⟨rfl, rfl, rfl, rfl, id⟩, id⟩
  | addressEscape len => exact ⟨⟨rfl, rfl, rfl, rfl, id⟩, id⟩
  | type len t => exact (reader _).trans (Video.macroblockHeader_keeps t _)
  | pattern len p => exact .trans (by exact ⟨⟨rfl, rfl, rfl, rfl, id⟩, id⟩) (Video.blocksFrom_keeps 0 _)
  | motionZero len => exact (reader _).trans (Video.motionElement_keeps (by decide) _)
  | motion len m sign =>
    exact (reader _).trans
      (Video.motionElement_keeps ((signedLevel_natAbs sign m).trans_le (motion len m sign rfl)) _)
  | dcSize len z => exact (reader _).trans (Video.placeDc_keeps _ _)
  | endOfBlock len => exact (reader _).trans (Video.endBlock_keeps _)
  | coefficient len run level sign => exact (reader _).trans (Video.placeCoefficient_keeps _ _ _)
  | escape len => exact (reader _).trans (Video.placeCoefficient_keeps _ _ _)
  | completedEscape len widths run level => exact (reader _).trans (Video.placeCoefficient_keeps _ _ _)
  | reserved len => exact (reader _).trans (Video.sliceError_keeps _ _)

end Sys2Proof.Machine
end

section
/-! What the picture loop, the headers and whole elements of the video engine keep, and with it the invariants of
the VDE: the frame indices (R109), the range of the motion vectors (R803), and a legal state of the engine. -/

namespace Sys2Proof.Machine

/-! ### The end of a command and the picture loop (R501, R506-R511) -/

theorem Video.searched_keeps (br : BitReader) (code : Option Byte) (v : Video) : v.Keeps (v.searched br code) :=
  ⟨rfl, rfl, rfl, rfl, id⟩

theorem Video.returnNone_keeps (v : Video) : v.Keeps v.returnNone := ⟨rfl, rfl, rfl, rfl, id⟩

/-- An emission sets the time of a frame and leaves its samples (R508). -/
theorem Video.emit_keeps (f : Fin 3) (v : Video) : v.Keeps (v.emit f) := by
  have timed : v.Keeps (v.setFrame f { v.frame f with time := v.time }) :=
    ⟨by simp, by simp, by simp, by simp, fun ⟨frames, intra, nonIntra, dc, block⟩ =>
      ⟨setFrame_framesLegal frames f (frame_wf frames f), by simpa using intra, by simpa using nonIntra,
        by simpa using dc, by simpa using block⟩⟩
  exact timed.trans ⟨rfl, rfl, rfl, rfl, id⟩

theorem Video.beginPicture_keeps (v : Video) : v.Keeps v.beginPicture := by
  unfold Video.beginPicture
  dsimp only
  split <;> exact ⟨rfl, rfl, rfl, rfl, id⟩

theorem Video.pictureLoop_keeps (v : Video) : v.Keeps v.pictureLoop := by
  unfold Video.pictureLoop
  split
  · exact v.beginPicture_keeps
  · exact ⟨rfl, rfl, rfl, rfl, id⟩

theorem Video.endOfPictures_keeps (v : Video) : v.Keeps v.endOfPictures := by
  unfold Video.endOfPictures
  dsimp only
  split
  · exact .trans (by exact ⟨rfl, rfl, rfl, rfl, id⟩) (emit_keeps _ _)
  · exact ⟨rfl, rfl, rfl, rfl, id⟩

theorem Video.dropPicture_keeps (c : VideoCause) (v : Video) : v.Keeps (v.dropPicture c) :=
  .trans (by exact ⟨rfl, rfl, rfl, rfl, id⟩) (pictureLoop_keeps { v.raise c with startCode := none })

theorem Video.selectOutput_keeps (v : Video) : v.Keeps v.selectOutput := by
  unfold Video.selectOutput
  split
  · dsimp only
    split
    · exact .trans (by exact ⟨rfl, rfl, rfl, rfl, id⟩) (emit_keeps _ _)
    · exact v.emit_keeps _
  · split
    · exact v.emit_keeps _
    · split
      · exact v.emit_keeps _
      · exact .trans (by exact ⟨rfl, rfl, rfl, rfl, id⟩) (pictureLoop_keeps _)

/-! ### Headers (R502, R503) -/

theorem Video.beginSequenceHeader_keeps (v : Video) : v.Keeps v.beginSequenceHeader := by
  unfold Video.beginSequenceHeader
  dsimp only
  split <;> exact ⟨rfl, rfl, rfl, rfl, id⟩

theorem Video.sequenceLoop_keeps (v : Video) : v.Keeps v.sequenceLoop := by
  unfold Video.sequenceLoop
  split
  · exact v.beginSequenceHeader_keeps
  · exact ⟨rfl, rfl, rfl, rfl, id⟩

theorem Video.beginDecode_keeps (v : Video) : v.Keeps v.beginDecode := by
  unfold Video.beginDecode
  dsimp only
  split
  · exact .trans (by exact ⟨rfl, rfl, rfl, rfl, id⟩) (pictureLoop_keeps _)
  · exact .trans (by exact ⟨rfl, rfl, rfl, rfl, id⟩) (sequenceLoop_keeps _)

/-- A matrix in natural order has 64 entries, whatever was transmitted (R332). -/
theorem naturalOrder_length (m : List Byte) : (naturalOrder m).length = 64 :=
  List.foldlRecOn (motive := fun q : List Byte => q.length = 64) _ _ List.length_replicate fun q h e _ => by
    rwa [List.length_set]

/-- A loaded matrix, or the default one, has 64 entries (R333, R334). -/
theorem matrix_length (m : Option (List Byte)) {default : List Byte} (h : default.length = 64) :
    ((m.map naturalOrder).getD default).length = 64 := by
  cases m with
  | none => exact h
  | some m => exact naturalOrder_length m

/-- The commit gives matrices of 64 entries and planes with nothing written (R502 step 5). -/
theorem Video.commitSequence_keeps (h : SequenceHeader) (v : Video) : v.Keeps (v.commitSequence h) :=
  ⟨rfl, rfl, rfl, rfl, fun ⟨_, _, _, dc, block⟩ =>
    ⟨⟨rfl, rfl, rfl⟩, matrix_length _ rfl, matrix_length _ rfl, dc, block⟩⟩

theorem Video.sequenceHeaderRow_keeps (h : SequenceHeader) (v : Video) : v.Keeps (v.sequenceHeaderRow h) := by
  unfold Video.sequenceHeaderRow
  generalize v.br.takeFields sequenceFixedWidths = br
  dsimp only
  split
  · generalize br.takeFields _ = br
    exact .trans (by exact ⟨rfl, rfl, rfl, rfl, id⟩) ((commitSequence_keeps h _).trans (pictureLoop_keeps _))
  · exact ⟨rfl, rfl, rfl, rfl, id⟩

theorem Video.beginBody_files {v : Video} (h : v.FilesLegal) : v.beginBody.FilesLegal := by
  unfold Video.beginBody Video.preRotate
  dsimp only
  split <;> exact h

theorem Video.postRotate_files {v : Video} (h : v.FilesLegal) : v.postRotate.FilesLegal := by
  unfold Video.postRotate
  split <;> exact h

/-- How a picture header ends: with the pre-rotation before the body, or with a dropped picture (R505, R511). -/
def Video.HeaderEnds (v w : Video) : Prop :=
  ∃ u, v.Keeps u ∧ (w = u.beginBody ∨ ∃ c, w = u.dropPicture c)

theorem Video.HeaderEnds.after {u v w : Video} (h : v.HeaderEnds w) (k : u.Keeps v) : u.HeaderEnds w :=
  h.imp fun _ => And.imp_left k.trans

theorem Video.beginBody_ends (v : Video) : v.HeaderEnds v.beginBody := ⟨v, .refl v, .inl rfl⟩

theorem Video.dropPicture_ends (c : VideoCause) (v : Video) : v.HeaderEnds (v.dropPicture c) :=
  ⟨v, .refl v, .inr ⟨c, rfl⟩⟩

theorem Video.backwardCode_ends (c : VectorCode) (v : Video) : v.HeaderEnds (v.backwardCode c) := by
  unfold Video.backwardCode
  generalize v.br.takeFields [1, 3] = br
  dsimp only
  split
  · exact (dropPicture_ends _ _).after ⟨rfl, rfl, rfl, rfl, id⟩
  · exact (beginBody_ends _).after ⟨rfl, rfl, rfl, rfl, id⟩

theorem Video.vectorCodes_ends (h : PictureHeader) (v : Video) : v.HeaderEnds (v.vectorCodes h) := by
  unfold Video.vectorCodes
  generalize v.br.takeFields [1, 3] = br
  dsimp only
  split
  · exact (dropPicture_ends _ _).after ⟨rfl, rfl, rfl, rfl, id⟩
  · split
    · exact (backwardCode_ends _ _).after ⟨rfl, rfl, rfl, rfl, id⟩
    · exact (beginBody_ends _).after ⟨rfl, rfl, rfl, rfl, id⟩

theorem Video.pictureHeaderRow_ends (h : PictureHeader) (v : Video) : v.HeaderEnds (v.pictureHeaderRow h) := by
  unfold Video.pictureHeaderRow
  generalize v.br.takeFields [10, 3, 16] = br
  dsimp only
  split
  · exact (beginBody_ends _).after ⟨rfl, rfl, rfl, rfl, id⟩
  · split
    · exact (vectorCodes_ends _ _).after ⟨rfl, rfl, rfl, rfl, id⟩
    · exact (dropPicture_ends _ _).after ⟨rfl, rfl, rfl, rfl, id⟩

/-! ### Slices (R601) -/

/-- A slice begins with predictors of 128 (R601). -/
theorem Video.beginSlice_keeps (x : Byte) (v : Video) : v.Keeps (v.beginSlice x) :=
  ⟨rfl, rfl, rfl, rfl, fun ⟨frames, intra, nonIntra, _, block⟩ => ⟨frames, intra, nonIntra, rfl, block⟩⟩

theorem Video.sliceHeaderRow_keeps (h : SliceHeader) (v : Video) : v.KeepsSlice (v.sliceHeaderRow h) := by
  unfold Video.sliceHeaderRow
  generalize v.br.takeFields (sliceHeaderWidths h.extra) = br
  exact ⟨⟨rfl, rfl, rfl, rfl, id⟩, id⟩

/-! ### Frame indices (R109, R505, R506) -/

/-- Inside an I or P picture: the form that the pre-rotation gives the indices (R505). -/
theorem Video.indicesLegal_reference {v : Video} (inside : v.pos.inPicture = true)
    (type : v.pictureType = 1 ∨ v.pictureType = 2) :
    v.indicesLegal = true ↔ v.fwd = v.bwd ∧ v.cur ≠ v.bwd ∧ v.cur ≠ v.temp ∧ v.bwd ≠ v.temp := by
  have type : (v.pictureType == 1 || v.pictureType == 2) = true := by simpa using type
  rw [Video.indicesLegal, inside, type, Bool.true_and, if_pos rfl]
  simp [distinctIndices, and_assoc]

/-- Inside any other picture, and outside of one, the three indices are distinct (R109). -/
theorem Video.indicesLegal_other {v : Video}
    (other : v.pos.inPicture = true → ¬ (v.pictureType = 1 ∨ v.pictureType = 2)) :
    v.indicesLegal = true ↔ v.cur ≠ v.fwd ∧ v.cur ≠ v.bwd ∧ v.fwd ≠ v.bwd := by
  have other : (v.pos.inPicture && (v.pictureType == 1 || v.pictureType == 2)) = false := by
    cases inside : v.pos.inPicture with
    | false => rfl
    | true => simpa using other inside
  rw [Video.indicesLegal, other, if_neg Bool.false_ne_true]
  simp [distinctIndices, and_assoc]

theorem Video.indicesLegal_outside {v : Video} (h : v.pos.inPicture = false) :
    v.indicesLegal = true ↔ v.cur ≠ v.fwd ∧ v.cur ≠ v.bwd ∧ v.fwd ≠ v.bwd :=
  indicesLegal_other (by simp [h])

/-- An operation that keeps the indices and stays inside the picture, or outside one, keeps them legal. -/
theorem Video.Keeps.indicesLegal {v w : Video} (k : v.Keeps w) (pos : w.pos.inPicture = v.pos.inPicture)
    (type : v.pos.inPicture = true → w.pictureType = v.pictureType) (h : v.indicesLegal = true) :
    w.indicesLegal = true := by
  cases inside : v.pos.inPicture with
  | false => rwa [indicesLegal_outside (pos.trans inside), k.cur, k.fwd, k.bwd, ← indicesLegal_outside inside]
  | true => rwa [Video.indicesLegal, pos, type inside, k.cur, k.fwd, k.bwd, k.temp, ← Video.indicesLegal]

/-- The pre-rotation gives the indices the form they have inside a picture (R505). -/
theorem Video.beginBody_indicesLegal {v : Video} (h : v.cur ≠ v.fwd ∧ v.cur ≠ v.bwd ∧ v.fwd ≠ v.bwd) :
    v.beginBody.indicesLegal = true := by
  obtain ⟨cf, cb, fb⟩ := h
  unfold Video.beginBody Video.preRotate
  dsimp only
  split
  · rename_i type
    exact (indicesLegal_reference (v := { v with temp := v.fwd, fwd := v.bwd, pos := .bodySearch }) rfl type).2
      ⟨rfl, cb, cf, fb.symm⟩
  · rename_i type
    exact (indicesLegal_other (v := { v with temp := v.fwd, pos := .bodySearch }) fun _ => type).2 ⟨cf, cb, fb⟩

/-- The post-rotation makes the three indices distinct again (R506). -/
theorem Video.postRotate_distinct {v : Video} (inside : v.pos.inPicture = true) (h : v.indicesLegal = true) :
    v.postRotate.cur ≠ v.postRotate.fwd ∧ v.postRotate.cur ≠ v.postRotate.bwd ∧
      v.postRotate.fwd ≠ v.postRotate.bwd := by
  unfold Video.postRotate
  split
  · rename_i type
    obtain ⟨fb, cb, ct, bt⟩ := (indicesLegal_reference inside type).1 h
    exact ⟨fb ▸ bt.symm, ct.symm, fb ▸ cb.symm⟩
  · rename_i type
    exact (indicesLegal_other fun _ => type).1 h

/-! ### Where an element leaves the engine -/

/-- Inside a slice is inside a picture. -/
theorem VideoPos.inPicture_of_inSlice {p : VideoPos} (h : p.inSlice = true) : p.inPicture = true := by
  cases p with
  | idle | sequenceSearch | sequenceHeader | pictureSearch | pictureHeader | bodySearch | sliceSearch | finished =>
    cases h
  | _ => rfl

/-- The engine inside a command and outside every picture (R501). -/
def Video.Outside (v : Video) : Prop := v.pos ≠ .idle ∧ v.pos.inPicture = false

/-- Before a picture or a sequence header, in their searches and at the end of a command. -/
theorem Video.outside_of_mem {v : Video}
    (h : v.pos ∈ [.finished, .pictureHeader, .pictureSearch, .sequenceHeader, .sequenceSearch]) : v.Outside := by
  unfold Video.Outside
  generalize v.pos = p at h ⊢
  revert p
  decide

theorem Video.beginPicture_outside (v : Video) : v.beginPicture.Outside :=
  outside_of_mem (List.mem_append_left [VideoPos.pictureSearch, .sequenceHeader, .sequenceSearch] v.beginPicture_pos)

theorem Video.endPicture_outside (v : Video) : v.endPicture.Outside :=
  outside_of_mem (List.mem_append_left [VideoPos.sequenceHeader, .sequenceSearch] v.endPicture_pos)

theorem Video.sequenceHeaderRow_outside (h : SequenceHeader) (v : Video) : (v.sequenceHeaderRow h).Outside :=
  outside_of_mem (List.mem_append_left [VideoPos.sequenceHeader, .sequenceSearch] (v.sequenceHeaderRow_pos h))

theorem Video.beginSequenceHeader_outside (v : Video) : v.beginSequenceHeader.Outside := by
  have pos := v.beginSequenceHeader_pos
  simp only [List.mem_cons, List.not_mem_nil, or_false] at pos
  rcases pos with pos | pos <;> exact outside_of_mem (by simp [pos])

theorem Video.beginDecode_outside (v : Video) : v.beginDecode.Outside := outside_of_mem v.beginDecode_pos

theorem Video.dropPicture_outside (c : VideoCause) (v : Video) : (v.dropPicture c).Outside :=
  outside_of_mem (by simp [dropPicture_pos])

theorem Video.endOfPictures_outside (v : Video) : v.endOfPictures.Outside :=
  outside_of_mem (by simp [endOfPictures_pos])

theorem Video.returnNone_outside (v : Video) : v.returnNone.Outside := ⟨nofun, rfl⟩

/-! ### The invariants over an element (R501) -/

/-- An element leaves the engine inside its command. -/
theorem Video.Becomes.busy {v w : Video} (h : v.Becomes w) : w.pos ≠ .idle := by
  cases h with
  | passed br code reader busy => exact busy
  | sequenceFound br code reader search => exact (beginSequenceHeader_outside _).1
  | pictureFound br code reader search => exact (beginPicture_outside _).1
  | sliceFound br code x reader search => exact nofun
  | pictureEnded br code reader search => exact (endPicture_outside _).1
  | noSequence br reader search => exact (returnNone_outside _).1
  | noPicture br reader search => exact (endOfPictures_outside _).1
  | sequenceHeader h stands => exact (sequenceHeaderRow_outside h v).1
  | pictureHeader h stands =>
    rcases v.pictureHeaderRow_cases h with e | ⟨e, -⟩ <;> rw [e] <;> exact nofun
  | sliceHeader h stands => exact nofun
  | codeword e length inside motion =>
    intro idle
    have := (e.apply_staysInPicture length v).1
    rw [idle] at this
    cases this

/-- An element moves the reader as its primitives let it (R116). -/
theorem Video.Becomes.reader {v w : Video} (h : v.Becomes w) : v.br.Follows w.br := by
  cases h with
  | passed br code reader busy => exact reader
  | sequenceFound br code reader search => exact reader.trans (beginSequenceHeader_advances (v.searched br code)).reader
  | pictureFound br code reader search => exact reader.trans (beginPicture_advances (v.searched br code)).reader
  | sliceFound br code x reader search => exact reader
  | pictureEnded br code reader search => exact reader.trans (endPicture_advances (v.searched br code)).reader
  | noSequence br reader search => exact reader
  | noPicture br reader search => exact reader.trans (endOfPictures_advances (v.searched br none)).reader
  | sequenceHeader h stands => exact (v.sequenceHeaderRow_advances h).reader
  | pictureHeader h stands => exact (v.pictureHeaderRow_advances h).reader
  | sliceHeader h stands => exact (v.sliceHeaderRow_advances h).reader
  | codeword e length inside motion => exact (e.apply_advances v).reader

/-- An element keeps the planes in their canonical form and the register files at their sizes. -/
theorem Video.Becomes.files {v w : Video} (h : v.Becomes w) (legal : v.FilesLegal) : w.FilesLegal := by
  cases h with
  | passed br code reader busy => exact legal
  | sequenceFound br code reader search => exact (beginSequenceHeader_keeps (v.searched br code)).files legal
  | pictureFound br code reader search => exact (beginPicture_keeps (v.searched br code)).files legal
  | sliceFound br code x reader search =>
    exact (beginSlice_keeps x (v.searched br code)).files legal
  | pictureEnded br code reader search =>
    exact (selectOutput_keeps _).files (postRotate_files (v := v.searched br code) legal)
  | noSequence br reader search => exact legal
  | noPicture br reader search => exact (endOfPictures_keeps (v.searched br none)).files legal
  | sequenceHeader h stands => exact (v.sequenceHeaderRow_keeps h).files legal
  | pictureHeader h stands =>
    obtain ⟨u, k, e | ⟨c, e⟩⟩ := v.pictureHeaderRow_ends h
    · exact e ▸ beginBody_files (k.files legal)
    · exact e ▸ (u.dropPicture_keeps c).files (k.files legal)
  | sliceHeader h stands => exact (v.sliceHeaderRow_keeps h).files legal
  | codeword e length inside motion => exact (e.apply_keeps length motion v).files legal

/-- An element keeps the frame indices legal (R109): only the two rotations change them (R505, R506). -/
theorem Video.Becomes.indicesLegal {v w : Video} (h : v.Becomes w) (legal : v.indicesLegal = true) :
    w.indicesLegal = true := by
  have outside {u : Video} (out : v.pos.inPicture = false) (k : v.Keeps u) (o : u.Outside) :
      u.indicesLegal = true :=
    k.indicesLegal (o.2.trans out.symm) (by simp [out]) legal
  have body (search : v.pos = .bodySearch ∨ v.pos = .sliceSearch) : v.pos.inPicture = true := by
    rcases search with e | e <;> rw [e] <;> rfl
  cases h with
  | passed br code reader busy => exact legal
  | sequenceFound br code reader search =>
    exact outside (by rw [search]; rfl) ((v.searched_keeps br code).trans (beginSequenceHeader_keeps _))
      (beginSequenceHeader_outside _)
  | pictureFound br code reader search =>
    exact outside (by rw [search]; rfl) ((v.searched_keeps br code).trans (beginPicture_keeps _))
      (beginPicture_outside _)
  | sliceFound br code x reader search =>
    exact ((v.searched_keeps br code).trans (beginSlice_keeps x _)).indicesLegal (body search).symm (fun _ => rfl) legal
  | pictureEnded br code reader search =>
    have rotated := postRotate_distinct (v := v.searched br code) (body search) legal
    have k := selectOutput_keeps (v.searched br code).postRotate
    rw [indicesLegal_outside (endPicture_outside _).2, Video.endPicture, k.cur, k.fwd, k.bwd]
    exact rotated
  | noSequence br reader search =>
    exact outside (by rw [search]; rfl) ((v.searched_keeps br none).trans (returnNone_keeps _))
      (returnNone_outside _)
  | noPicture br reader search =>
    exact outside (by rw [search]; rfl) ((v.searched_keeps br none).trans (endOfPictures_keeps _))
      (endOfPictures_outside _)
  | sequenceHeader h stands =>
    exact outside (by rw [stands]; rfl) (v.sequenceHeaderRow_keeps h) (v.sequenceHeaderRow_outside h)
  | pictureHeader h stands =>
    have out : v.pos.inPicture = false := by rw [stands]; rfl
    obtain ⟨u, k, e | ⟨c, e⟩⟩ := v.pictureHeaderRow_ends h
    · rw [indicesLegal_outside out] at legal
      rw [e]
      exact beginBody_indicesLegal (by rwa [k.cur, k.fwd, k.bwd])
    · rw [e]
      exact outside out (k.trans (u.dropPicture_keeps c)) (u.dropPicture_outside c)
  | sliceHeader h stands =>
    exact (v.sliceHeaderRow_keeps h).indicesLegal (by rw [stands]; rfl) (fun _ => rfl) legal
  | codeword e length inside motion =>
    obtain ⟨pos, type⟩ := e.apply_staysInPicture length v
    exact (e.apply_keeps length motion v).indicesLegal (pos.trans (VideoPos.inPicture_of_inSlice inside).symm)
      (fun _ => type) legal

/-- The vectors are in range where the engine is inside a slice (R803). -/
theorem Video.vectorsInRange_iff (v : Video) :
    v.vectorsInRange = true ↔ (v.pos.inSlice = true → v.VectorsLegal) := by
  cases h : v.pos.inSlice <;> simp [Video.vectorsInRange, Video.VectorsLegal, h]

/-- Outside a slice no vector has to be in range. -/
theorem Video.vectorsInRange_outside {v : Video} (h : v.pos.inPicture = false) : v.vectorsInRange = true := by
  refine v.vectorsInRange_iff.2 fun inside => ?_
  rw [VideoPos.inPicture_of_inSlice inside] at h
  cases h

/-- An element keeps the vectors in range (R803): a slice begins with vectors of 0 (R601), and the wrap keeps every
component in range (R802). -/
theorem Video.Becomes.vectorsInRange {v w : Video} (h : v.Becomes w) (legal : v.vectorsInRange = true) :
    w.vectorsInRange = true := by
  cases h with
  | passed br code reader busy => exact legal
  | sequenceFound br code reader search => exact vectorsInRange_outside (beginSequenceHeader_outside _).2
  | pictureFound br code reader search => exact vectorsInRange_outside (beginPicture_outside _).2
  | sliceFound br code x reader search =>
    exact (vectorsInRange_iff _).2 fun _ => ⟨MotionState.zeroVector_inRange _, MotionState.zeroVector_inRange _⟩
  | pictureEnded br code reader search => exact vectorsInRange_outside (endPicture_outside _).2
  | noSequence br reader search => exact vectorsInRange_outside (returnNone_outside _).2
  | noPicture br reader search => exact vectorsInRange_outside (endOfPictures_outside _).2
  | sequenceHeader h stands => exact vectorsInRange_outside (v.sequenceHeaderRow_outside h).2
  | pictureHeader h stands =>
    refine (vectorsInRange_iff _).2 fun inside => ?_
    rcases v.pictureHeaderRow_cases h with e | ⟨e, -⟩ <;> rw [e] at inside <;> cases inside
  | sliceHeader h stands =>
    exact (vectorsInRange_iff _).2 fun _ =>
      (v.sliceHeaderRow_keeps h).vectors (v.vectorsInRange_iff.1 legal (by rw [stands]; rfl))
  | codeword e length inside motion =>
    exact (vectorsInRange_iff _).2 fun _ =>
      (e.apply_keeps length motion v).vectors (v.vectorsInRange_iff.1 legal inside)

/-! ### The invariants over a move -/

/-- The delivery of a response word (R1152) happens outside every picture. -/
theorem Video.delivered_indicesLegal {v : Video} (h : v.indicesLegal = true) : v.delivered.indicesLegal = true := by
  unfold Video.delivered
  split
  · rename_i finished
    have distinct := (indicesLegal_outside (by rw [finished]; rfl)).1 h
    exact (indicesLegal_outside rfl).2 distinct
  · exact h

theorem Video.delivered_vectorsInRange {v : Video} (h : v.vectorsInRange = true) :
    v.delivered.vectorsInRange = true := by
  unfold Video.delivered
  split
  · exact vectorsInRange_outside rfl
  · exact h

/-- A register write leaves the indices, the files and the position alone (R1159). -/
theorem writeVideoCsr_frame (r : Nat) (x : Word) (v : Video) :
    v.Keeps (writeVideoCsr r x v) ∧ (writeVideoCsr r x v).pos = v.pos ∧
      (writeVideoCsr r x v).pictureType = v.pictureType ∧ (writeVideoCsr r x v).raised = v.raised ∧
      (writeVideoCsr r x v).br.needData = v.br.needData ∧
      (writeVideoCsr r x v).br.bitIndex = v.br.bitIndex ∧ (writeVideoCsr r x v).br.bytes = v.br.bytes := by
  unfold writeVideoCsr
  split <;> exact ⟨⟨rfl, rfl, rfl, rfl, id⟩, rfl, rfl, rfl, rfl, rfl, rfl⟩

/-- A move keeps the frame indices legal (R109). -/
theorem Video.Moves.indicesLegal {v w : Video} (h : v.Moves w) (legal : v.indicesLegal = true) :
    w.indicesLegal = true := by
  cases h with
  | element h => exact delivered_indicesLegal (h.indicesLegal legal)
  | decode idle =>
    have out : v.pos.inPicture = false := by rw [idle]; rfl
    exact delivered_indicesLegal
      (v.beginDecode_keeps.indicesLegal (v.beginDecode_outside.2.trans out.symm) (by simp [out]) legal)
  | write idle bytes => exact legal
  | signalEnd idle => exact legal
  | rewind idle =>
    have first : (0 : Fin 3) ≠ 1 ∧ (0 : Fin 3) ≠ 2 ∧ (1 : Fin 3) ≠ 2 := by decide
    exact (indicesLegal_outside (v := v.rewind) (by rw [Video.rewind, idle]; rfl)).2 first
  | csrWrite idle r x =>
    obtain ⟨keeps, pos, type, -⟩ := writeVideoCsr_frame r x v
    exact keeps.indicesLegal (by rw [pos]) (fun _ => type) legal

/-- A move keeps the vectors in range inside a slice (R803). -/
theorem Video.Moves.vectorsInRange {v w : Video} (h : v.Moves w) (legal : v.vectorsInRange = true) :
    w.vectorsInRange = true := by
  have idles {u : Video} (idle : v.pos = .idle) (pos : u.pos = v.pos) : u.vectorsInRange = true :=
    vectorsInRange_outside (by rw [pos, idle]; rfl)
  cases h with
  | element h => exact delivered_vectorsInRange (h.vectorsInRange legal)
  | decode idle => exact delivered_vectorsInRange (vectorsInRange_outside v.beginDecode_outside.2)
  | write idle bytes => exact legal
  | signalEnd idle => exact legal
  | rewind idle => exact idles idle rfl
  | csrWrite idle r x => exact idles idle (writeVideoCsr_frame r x v).2.1

/-- Settles O22: every move keeps the indices legal and the vectors in range. -/
theorem stepKeepsFrameIndicesAndVectors : Obligations.StepKeepsFrameIndicesAndVectors :=
  ⟨fun _ _ legal h => step_keeps_video Video.Moves.indicesLegal h legal,
    fun _ _ legal h => step_keeps_video Video.Moves.vectorsInRange h legal⟩

end Sys2Proof.Machine
end

section
/-! A legal state of the video engine stays legal (R100-R110, R1301). -/

namespace Sys2Proof.Machine

/-! ### A legal state of the VDE -/

theorem Video.wf_iff (v : Video) :
    v.wf = true ↔ v.br.cursorInStore = true ∧ v.FilesLegal ∧ v.pos ≠ .finished ∧
      (v.pos = .idle → v.raised = false ∧ v.br.needData = false) := by
  have flags : (v.pos != .idle || (!v.raised && !v.br.needData)) = true ↔
      (v.pos = .idle → v.raised = false ∧ v.br.needData = false) := by
    by_cases idle : v.pos = .idle <;> simp [idle]
  simp only [Video.wf, Bool.and_eq_true, flags, beq_iff_eq, bne_iff_ne, Video.FilesLegal, Video.FramesLegal]
  tauto

/-- Inside a command the cursor and the files make the state legal, once a due response is delivered (R1301). -/
theorem Video.delivered_wf {v : Video} (cursor : v.br.cursorInStore = true) (files : v.FilesLegal)
    (busy : v.pos ≠ .idle) : v.delivered.wf = true := by
  unfold Video.delivered
  split
  · exact (wf_iff _).2 ⟨cursor, files, nofun, fun _ => ⟨rfl, rfl⟩⟩
  · exact v.wf_iff.2 ⟨cursor, files, ‹_›, fun idle => absurd idle busy⟩

/-- A change that keeps the files, the position and the command-local flags, and the cursor in the store, keeps the
state legal. -/
theorem Video.wf_of_frame {v w : Video} (legal : v.wf = true) (pos : w.pos = v.pos)
    (cursor : v.br.cursorInStore = true → w.br.cursorInStore = true) (files : v.FilesLegal → w.FilesLegal)
    (raised : w.raised = v.raised) (need : w.br.needData = v.br.needData) : w.wf = true := by
  obtain ⟨inStore, sizes, running, flags⟩ := v.wf_iff.1 legal
  rw [wf_iff, pos, raised, need]
  exact ⟨cursor inStore, files sizes, running, flags⟩

/-! ### Host operations on a reader (R1153, R1154, R1302) -/

@[simp] theorem BitReader.write_needData (bytes : List Byte) (b : BitReader) :
    (b.write bytes).needData = b.needData := by
  unfold BitReader.write
  dsimp only
  split <;> split <;> rfl

@[simp] theorem BitReader.rewind_needData (b : BitReader) : b.rewind.needData = b.needData := by
  unfold BitReader.rewind
  split <;> rfl

/-- The cursor 0 lies in every store (R1302). -/
theorem BitReader.rewind_inStore (b : BitReader) : b.rewind.cursorInStore = true := by
  rw [cursorInStore_iff, rewind_bitIndex]
  exact Nat.zero_le _

/-! ### A move of the VDE -/

/-- A VDECODE begins as the reader's primitives let it (R116). -/
theorem Video.beginDecode_inStore {v : Video} (h : v.br.cursorInStore = true) :
    v.beginDecode.br.cursorInStore = true := by
  unfold Video.beginDecode
  dsimp only
  split
  · exact (pictureLoop_advances _).reader.inStore h
  · exact (sequenceLoop_advances _).reader.inStore h

/-- A move keeps a legal state of the VDE legal. -/
theorem Video.Moves.wf {v w : Video} (h : v.Moves w) (legal : v.wf = true) : w.wf = true := by
  obtain ⟨cursor, files, -, -⟩ := v.wf_iff.1 legal
  cases h with
  | element h => exact delivered_wf (h.reader.inStore cursor) (h.files files) h.busy
  | decode idle =>
    exact delivered_wf (beginDecode_inStore cursor) (v.beginDecode_keeps.files files) v.beginDecode_outside.1
  | write idle bytes =>
    exact wf_of_frame legal rfl (BitReader.write_inStore bytes) id rfl (v.br.write_needData bytes)
  | signalEnd idle => exact wf_of_frame legal rfl id id rfl rfl
  | rewind idle =>
    exact wf_of_frame legal rfl (fun _ => v.br.rewind_inStore) id rfl v.br.rewind_needData
  | csrWrite idle r x =>
    obtain ⟨keeps, pos, -, raised, need, index, bytes⟩ := writeVideoCsr_frame r x v
    refine wf_of_frame legal pos (fun h => ?_) keeps.files raised need
    rwa [BitReader.cursorInStore_iff, index, bytes, ← BitReader.cursorInStore_iff]

end Sys2Proof.Machine
end

section
/-! A legal state of the audio engine stays legal (R100, R111-R114, R1301), and with that of the video engine the
state of the block. -/

namespace Sys2Proof.Machine

/-! ### A legal state of the ADE -/

/-- The register files have their sizes, the delay-line offset is a multiple of 64, and there are one or two
channels (R111-R114). -/
def Audio.FilesLegal (a : Audio) : Prop :=
  a.allocation.length = 64 ∧ a.scfsi.length = 64 ∧ a.scalefactor.length = 192 ∧ a.sample.length = 192 ∧
    a.delay.length = 2048 ∧ a.out.length = 2304 ∧ a.vPos.toNat % 64 = 0 ∧ (a.channels = 1 ∨ a.channels = 2)

/-- The cursor lies in the store, and the files are legal: all of a legal state that does not depend on the
position. -/
structure Audio.InShape (a : Audio) : Prop where
  cursor : a.br.cursorInStore = true
  files : a.FilesLegal

theorem Audio.wf_iff (a : Audio) :
    a.wf = true ↔ a.InShape ∧ a.pos ≠ .finished ∧ (a.pos = .idle → a.raised = false ∧ a.br.needData = false) := by
  have flags : (a.pos != .idle || (!a.raised && !a.br.needData)) = true ↔
      (a.pos = .idle → a.raised = false ∧ a.br.needData = false) := by
    by_cases idle : a.pos = .idle <;> simp [idle]
  have shape : a.InShape ↔ a.br.cursorInStore = true ∧ a.FilesLegal := ⟨fun h => ⟨h.1, h.2⟩, fun h => ⟨h.1, h.2⟩⟩
  simp only [Audio.wf, Bool.and_eq_true, Bool.or_eq_true, flags, beq_iff_eq, bne_iff_ne, shape, Audio.FilesLegal]
  tauto

/-- Inside a command a due response is delivered (R1301). -/
theorem Audio.delivered_wf {a : Audio} (shape : a.InShape) (busy : a.pos ≠ .idle) : a.delivered.wf = true := by
  unfold Audio.delivered
  split
  · exact (wf_iff _).2 ⟨⟨shape.cursor, shape.files⟩, nofun, fun _ => ⟨rfl, rfl⟩⟩
  · exact a.wf_iff.2 ⟨shape, ‹_›, fun idle => absurd idle busy⟩

/-- A change that keeps the shape, the position and the command-local flags keeps the state legal. -/
theorem Audio.wf_of_frame {a b : Audio} (legal : a.wf = true) (pos : b.pos = a.pos) (shape : a.InShape → b.InShape)
    (raised : b.raised = a.raised) (need : b.br.needData = a.br.needData) : b.wf = true := by
  obtain ⟨old, running, flags⟩ := a.wf_iff.1 legal
  rw [wf_iff, pos, raised, need]
  exact ⟨shape old, running, flags⟩

/-! ### Allocations and scalefactors (R1003-R1005) -/

/-- A reader that follows keeps the shape. -/
theorem Audio.InShape.read {a : Audio} (h : a.InShape) {br : BitReader} (reader : a.br.Follows br) :
    Audio.InShape { a with br := br } := ⟨reader.inStore h.cursor, h.files⟩

theorem Audio.InShape.raise {a : Audio} (h : a.InShape) (c : AudioCause) : (a.raise c).InShape := ⟨h.cursor, h.files⟩

@[simp] theorem splice_length {α : Type} (l xs : List α) (n : Nat) : (splice l n xs).length = l.length := by
  induction l generalizing n xs with
  | nil => rfl
  | cons x l ih =>
    cases xs with
    | nil => cases n <;> rfl
    | cons y ys => cases n <;> exact congrArg (· + 1) (ih _ _)

theorem Audio.setAllocation_inShape {a : Audio} (h : a.InShape) (x : Option QuantClass) (sb ch : Nat) :
    (Audio.setAllocation x sb a ch).InShape := by
  obtain ⟨cursor, allocation, rest⟩ := h
  exact ⟨cursor, (List.length_set ..).trans allocation, rest⟩

/-- A walk over subbands and channels keeps what each of its steps keeps. -/
theorem Audio.forBands_inShape {a : Audio} (h : a.InShape) (bands : List Nat) {f : Nat → Nat → Audio → Audio}
    (step : ∀ ch sb {b : Audio}, b.InShape → (f ch sb b).InShape) : (a.forBands bands f).InShape :=
  List.foldlRecOn bands _ h fun _ k sb _ => List.foldlRecOn _ _ k fun _ k ch _ => step ch sb k

theorem Audio.readAllocation_inShape {a : Audio} (h : a.InShape) (channels : List Nat) (sb : Nat) :
    (a.readAllocation channels sb).InShape :=
  List.foldlRecOn channels _ (h.read (a.br.read_follows _)) fun _ k ch _ => setAllocation_inShape k _ sb ch

theorem Audio.readAllocations_inShape {a : Audio} (h : a.InShape) : a.readAllocations.InShape := by
  unfold Audio.readAllocations
  have own := forBands_inShape h (numbersFrom 0 a.effectiveBound)
    (f := fun ch sb a => a.readAllocation [ch] sb) fun ch sb _ k => readAllocation_inShape k [ch] sb
  have shared := List.foldlRecOn (motive := Audio.InShape) (numbersFrom a.effectiveBound a.table.sblimit)
    (fun a sb => a.readAllocation [0, 1] sb) own fun _ k sb _ => readAllocation_inShape k [0, 1] sb
  exact List.foldlRecOn _ _ shared fun _ k sb _ =>
    List.foldlRecOn [0, 1] _ k fun _ k ch _ => setAllocation_inShape k none sb ch

theorem Audio.readSelector_inShape (ch sb : Nat) {a : Audio} (h : a.InShape) : (a.readSelector ch sb).InShape := by
  unfold Audio.readSelector
  split
  · obtain ⟨cursor, allocation, scfsi, rest⟩ := h
    exact ⟨(a.br.read_follows 2).inStore cursor, allocation, (List.length_set ..).trans scfsi, rest⟩
  · exact h

/-- The fields of a selector are reads (R1005). -/
theorem readFactors_follows (selector : BitVec 2) (b : BitReader) : b.Follows (readFactors selector b).2 := by
  have one := b.read_follows 6
  have two := one.trans (BitReader.read_follows 6 _)
  have three := two.trans (BitReader.read_follows 6 _)
  unfold readFactors
  dsimp only
  split
  · exact three
  · exact two
  · exact one
  · exact two

theorem Audio.readScalefactors_inShape (ch sb : Nat) {a : Audio} (h : a.InShape) :
    (a.readScalefactors ch sb).InShape := by
  unfold Audio.readScalefactors
  split
  · obtain ⟨cursor, allocation, scfsi, scalefactor, rest⟩ := h
    exact ⟨(readFactors_follows _ a.br).inStore cursor, allocation, scfsi, (splice_length ..).trans scalefactor, rest⟩
  · exact h

/-! ### Samples (R1006-R1011) -/

theorem Audio.setTriple_inShape {a : Audio} (h : a.InShape) (ch sb : Nat) (xs : List Surd) :
    (a.setTriple ch sb xs).InShape := by
  obtain ⟨cursor, allocation, scfsi, scalefactor, sample, rest⟩ := h
  exact ⟨cursor, allocation, scfsi, scalefactor, (splice_length ..).trans sample, rest⟩

theorem Audio.readCodes_inShape {a : Audio} (h : a.InShape) (q : QuantClass) : (a.readCodes q).2.InShape := by
  have one := a.br.read_follows q.codeWidth
  have three := (one.trans (BitReader.read_follows q.codeWidth _)).trans (BitReader.read_follows q.codeWidth _)
  unfold Audio.readCodes
  dsimp only
  split
  · split
    · exact (h.read one).raise _
    · exact h.read one
  · exact h.read three

theorem Audio.requantizeTriple_inShape {a : Audio} (h : a.InShape) (q : QuantClass) (codes : List Nat)
    (ch sb part : Nat) : (a.requantizeTriple q codes ch sb part).InShape := by
  unfold Audio.requantizeTriple
  dsimp only
  split
  · exact setTriple_inShape (h.raise _) ..
  · exact setTriple_inShape h ..

theorem Audio.readTriple_inShape (part ch sb : Nat) {a : Audio} (h : a.InShape) :
    (a.readTriple part ch sb).InShape := by
  unfold Audio.readTriple
  split
  · exact setTriple_inShape h ..
  · exact requantizeTriple_inShape (readCodes_inShape h _) ..

theorem Audio.readSharedTriple_inShape (part : Nat) {a : Audio} (h : a.InShape) (sb : Nat) :
    (a.readSharedTriple part sb).InShape := by
  unfold Audio.readSharedTriple
  split
  · exact setTriple_inShape (setTriple_inShape h ..) ..
  · rename_i q _
    have first := requantizeTriple_inShape (readCodes_inShape h q) q (a.readCodes q).1 0 sb part
    dsimp only
    split
    · exact first
    · split
      · exact requantizeTriple_inShape first ..
      · exact setTriple_inShape first ..

theorem Audio.duplicateMono_inShape {a : Audio} (h : a.InShape) : a.duplicateMono.InShape := by
  unfold Audio.duplicateMono
  split
  · obtain ⟨cursor, allocation, scfsi, scalefactor, sample, rest⟩ := h
    exact ⟨cursor, allocation, scfsi, scalefactor, (splice_length ..).trans sample, rest⟩
  · exact h

/-! ### Synthesis (R1100-R1103) -/

/-- The offset moves by 64 around the 1024 words of the delay line (R1101). -/
theorem vPos_sub_64 {x : BitVec 10} (h : x.toNat % 64 = 0) : (x - 64).toNat % 64 = 0 := by
  bv_omega

theorem Audio.synthesisStep_inShape (part granule : Nat) {a : Audio} (h : a.InShape) (k : Nat) :
    (a.synthesisStep part granule k).InShape := by
  obtain ⟨cursor, allocation, scfsi, scalefactor, sample, delay, out, vPos, channels⟩ := h
  refine ⟨cursor, allocation, scfsi, scalefactor, sample, ?_, ?_, vPos_sub_64 vPos, channels⟩
  · simpa [Audio.matrixing] using delay
  · simpa [Audio.synthesisStep] using out

theorem Audio.decodeGranule_inShape (part : Nat) {a : Audio} (h : a.InShape) (granule : Nat) :
    (a.decodeGranule part granule).InShape := by
  unfold Audio.decodeGranule
  have own := forBands_inShape h (numbersFrom 0 a.effectiveBound) (f := Audio.readTriple part)
    (readTriple_inShape part)
  have shared := List.foldlRecOn (motive := Audio.InShape) (numbersFrom a.effectiveBound a.table.sblimit)
    (Audio.readSharedTriple part) own fun _ k sb _ => readSharedTriple_inShape part k sb
  have rest := List.foldlRecOn (motive := Audio.InShape) (numbersFrom a.table.sblimit 32)
    (fun a sb => (a.setTriple 0 sb zeroTriple).setTriple 1 sb zeroTriple) shared
    fun _ k sb _ => setTriple_inShape (setTriple_inShape k ..) ..
  exact List.foldlRecOn _ _ (duplicateMono_inShape rest) fun _ k j _ => synthesisStep_inShape part granule k j

/-! ### A frame and its header (R901-R909, R1000) -/

theorem Audio.decodeFrame_inShape {a : Audio} (h : a.InShape) : a.decodeFrame.InShape := by
  unfold Audio.decodeFrame
  have selectors := forBands_inShape (readAllocations_inShape h) (numbersFrom 0 a.table.sblimit) readSelector_inShape
  have factors := forBands_inShape selectors (numbersFrom 0 a.table.sblimit) readScalefactors_inShape
  have granules := List.foldlRecOn (motive := Audio.InShape) (List.range 3)
    (fun a part => (List.range 4).foldl (Audio.decodeGranule part) a) factors fun _ k part _ =>
      List.foldlRecOn _ _ k fun _ k granule _ => decodeGranule_inShape part k granule
  exact granules.read (BitReader.align_follows _)

/-- A decoded frame ends the command (R901 step 5). -/
theorem Audio.emitSamples_ends {a : Audio} (h : a.InShape) :
    ({ a with nextFrameDataSize := 0 } : Audio).emitSamples.InShape ∧
      ({ a with nextFrameDataSize := 0 } : Audio).emitSamples.pos = .finished :=
  ⟨⟨h.cursor, h.files⟩, rfl⟩

/-- The body of a frame is decoded whole, or not at all; either way the command ends (R901). -/
theorem Audio.decodeBody_ends {a : Audio} (h : a.InShape) : a.decodeBody.InShape ∧ a.decodeBody.pos = .finished := by
  unfold Audio.decodeBody
  split
  · exact ⟨⟨h.cursor, h.files⟩, rfl⟩
  · have tested := h.read (a.br.has_follows (8 * a.nextFrameDataSize.toNat))
    dsimp only
    split
    · exact emitSamples_ends (decodeFrame_inShape tested)
    · exact ⟨⟨tested.cursor, tested.files⟩, rfl⟩

theorem Audio.rejectHeader_ends {a : Audio} (h : a.InShape) (c : AudioCause) :
    (a.rejectHeader c).InShape ∧ (a.rejectHeader c).pos = .finished := ⟨⟨h.cursor, h.files⟩, rfl⟩

/-- The latch leaves one channel or two (R905, R906). -/
theorem Audio.latchHeader_inShape {a : Audio} (h : a.InShape) (m : Mp2Header) : (a.latchHeader m).InShape := by
  obtain ⟨cursor, allocation, scfsi, scalefactor, sample, delay, out, vPos, -⟩ := h
  refine ⟨cursor, allocation, scfsi, scalefactor, sample, delay, out, vPos, ?_⟩
  unfold Audio.latchHeader
  dsimp only
  split
  · exact .inl rfl
  · exact .inr rfl

theorem Audio.headerRow_ends {a : Audio} (h : a.InShape) (m : Mp2Header) :
    (a.headerRow m).InShape ∧ (a.headerRow m).pos = .finished := by
  have bitrate := a.br.takeFields_follows [11, 2, 2, 1, 4]
  have samplerate := bitrate.trans (BitReader.take_follows 2 _)
  have mode := samplerate.trans (BitReader.takeFields_follows [1, 1, 2] _)
  have whole := mode.trans (BitReader.takeFields_follows ([2, 4] ++ if m.protection then [] else [16]) _)
  unfold Audio.headerRow
  dsimp only
  split
  · exact rejectHeader_ends (h.read bitrate) _
  · split
    · exact rejectHeader_ends (h.read samplerate) _
    · split
      · exact rejectHeader_ends (h.read mode) _
      · exact decodeBody_ends (latchHeader_inShape (h.read whole) m)

theorem Audio.otherHeaderRow_ends {a : Audio} (h : a.InShape) (m : Mp2SyncOther) :
    (a.otherHeaderRow m).InShape ∧ (a.otherHeaderRow m).pos = .finished :=
  rejectHeader_ends (h.read (a.br.takeFields_follows _)) _

/-! ### The header search (R902, R903) -/

/-- The engine that a header search leaves is in shape; where the search ends the command, a response is due. -/
def AudioFetch.InShape : AudioFetch → Prop
  | .row _ a => a.InShape
  | .ended a => a.InShape ∧ a.pos = .finished
  | .nothing => True

theorem Audio.returnNone_ends {a : Audio} (h : a.InShape) : (AudioFetch.ended a.returnNone).InShape :=
  ⟨⟨h.cursor, h.files⟩, rfl⟩

theorem headerAt_inShape {a : Audio} (h : a.InShape) : (headerAt a).InShape := by
  unfold headerAt
  split
  · exact h
  · trivial

/-- The cursor goes back to the syncword, and so stays in the store (R903). -/
theorem headerBehindSearch_inShape {a : Audio} (h : a.InShape) : (headerBehindSearch a).InShape := by
  have tested := h.read (a.br.has_follows 37)
  have back : Audio.InShape { a with br := { (a.br.has 37).2 with bitIndex := (a.br.has 37).2.bitIndex - 11 } } := by
    refine ⟨?_, h.files⟩
    have cursor := tested.cursor
    rw [BitReader.cursorInStore_iff] at cursor ⊢
    exact (Nat.sub_le _ _).trans cursor
  unfold headerBehindSearch
  dsimp only
  split
  · exact headerAt_inShape back
  · exact Audio.returnNone_ends back

theorem resync_inShape {a : Audio} (h : a.InShape) : (resync a).InShape := by
  have searched := (h.raise .resync).read (BitReader.findFrameSync_follows _)
  unfold resync
  dsimp only
  split
  · exact headerBehindSearch_inShape searched
  · exact Audio.returnNone_ends searched

theorem headerBehindStuffing_inShape {a : Audio} (h : a.InShape) : (headerBehindStuffing a).InShape := by
  have found := headerAt_inShape h
  unfold headerBehindStuffing
  split
  · rename_i i b row
    rw [row] at found
    dsimp only
    split
    · exact found
    · exact Audio.returnNone_ends (found.read (b.br.has_follows _))
  · exact found

theorem fetchAudio_inShape {a : Audio} (h : a.InShape) : (fetchAudio a).InShape := by
  unfold fetchAudio
  split
  · have skipped := h.read (a.br.skipBytes_follows 0x00)
    dsimp only
    split
    · exact headerBehindStuffing_inShape skipped
    · exact resync_inShape (skipped.read (BitReader.read_follows 11 _))
  · trivial

/-! ### A move of the ADE -/

/-- A header search and the header it finds end the command in shape. -/
theorem Audio.Becomes.ends {a b : Audio} (h : a.Becomes b) (shape : a.InShape) : b.InShape ∧ b.pos = .finished := by
  have found := fetchAudio_inShape shape
  cases h with
  | header m u fetched =>
    rw [fetched] at found
    exact headerRow_ends found m
  | otherHeader m u fetched =>
    rw [fetched] at found
    exact otherHeaderRow_ends found m
  | ended u fetched =>
    rw [fetched] at found
    exact found

/-- An ADECODE begins before a header, or it ends at once (R901). -/
theorem Audio.beginDecode_begins {a : Audio} (h : a.InShape) : a.beginDecode.InShape ∧ a.beginDecode.pos ≠ .idle := by
  have cleared : Audio.InShape { a with outValid := false, raised := false, br.needData := false } :=
    ⟨h.cursor, h.files⟩
  unfold Audio.beginDecode
  generalize ({ a with outValid := false, raised := false, br.needData := false } : Audio) = b at cleared
  dsimp only
  split
  · have tested := cleared.read (b.br.has_follows 48)
    split
    · exact ⟨⟨tested.cursor, tested.files⟩, nofun⟩
    · exact ⟨⟨tested.cursor, tested.files⟩, nofun⟩
  · obtain ⟨shape, pos⟩ := decodeBody_ends cleared
    exact ⟨shape, by simp [pos]⟩

/-- A register write leaves the shape and the position alone (R1159). -/
theorem writeAudioCsr_frame (r : Nat) (x : Word) (a : Audio) :
    (a.InShape → (writeAudioCsr r x a).InShape) ∧ (writeAudioCsr r x a).pos = a.pos ∧
      (writeAudioCsr r x a).raised = a.raised ∧ (writeAudioCsr r x a).br.needData = a.br.needData := by
  unfold writeAudioCsr
  split <;> exact ⟨fun h => ⟨h.cursor, h.files⟩, rfl, rfl, rfl⟩

/-- A move keeps a legal state of the ADE legal. -/
theorem Audio.Moves.wf {a b : Audio} (h : a.Moves b) (legal : a.wf = true) : b.wf = true := by
  obtain ⟨shape, -, -⟩ := a.wf_iff.1 legal
  cases h with
  | element h =>
    obtain ⟨shape, pos⟩ := h.ends shape
    exact delivered_wf shape (by simp [pos])
  | decode idle =>
    obtain ⟨shape, busy⟩ := beginDecode_begins shape
    exact delivered_wf shape busy
  | write idle bytes =>
    exact wf_of_frame legal rfl (fun h => ⟨BitReader.write_inStore bytes h.cursor, h.files⟩) rfl
      (a.br.write_needData bytes)
  | signalEnd idle => exact wf_of_frame legal rfl (fun h => ⟨h.cursor, h.files⟩) rfl rfl
  | rewind idle =>
    refine wf_of_frame legal rfl (fun h => ?_) rfl a.br.rewind_needData
    obtain ⟨-, allocation, scfsi, scalefactor, sample, -, out, -, channels⟩ := h
    exact ⟨a.br.rewind_inStore, allocation, scfsi, scalefactor, sample, List.length_replicate, out, rfl, channels⟩
  | csrWrite idle r x =>
    obtain ⟨shape, pos, raised, need⟩ := writeAudioCsr_frame r x a
    exact wf_of_frame legal pos shape raised need

/-! ### A legal state of the block -/

/-- Settles O21: every move keeps its engine legal. -/
theorem stepKeepsWellFormed : Obligations.StepKeepsWellFormed := by
  intro s t legal h
  rw [State.wf, Bool.and_eq_true] at legal ⊢
  obtain ⟨video, audio⟩ := legal
  exact ⟨step_keeps_video Video.Moves.wf h video, step_keeps_audio Audio.Moves.wf h audio⟩

end Sys2Proof.Machine
end

section
/-! Commands that overlap (R213). -/

namespace Sys2Proof.Machine

/-- A command of the VDE inside another one has no transition (R213). -/
theorem videoCommand_of_busy {s : State} (busy : s.v.pos ≠ .idle) (f : State → Result) :
    videoCommand f s = .fault .commandOverlap := if_neg busy

/-- A command of the ADE inside another one has no transition (R213). -/
theorem audioCommand_of_busy {s : State} (busy : s.a.pos ≠ .idle) (f : State → Result) :
    audioCommand f s = .fault .commandOverlap := if_neg busy

/-- Nor has an access to a register of an engine inside a command. -/
theorem csrCommand_of_busy {s : State} {r : Nat}
    (busy : (csrOfVideo r = true ∧ s.v.pos ≠ .idle) ∨ (csrOfAudio r = true ∧ s.a.pos ≠ .idle)) (f : State → Result) :
    csrCommand r f s = .fault .commandOverlap :=
  if_pos (by simpa using busy)

/-- Both accesses to a register of an engine inside a command stop with the fault. -/
theorem execCsr_of_busy {s : State} {r : Nat}
    (busy : (csrOfVideo r = true ∧ s.v.pos ≠ .idle) ∨ (csrOfAudio r = true ∧ s.a.pos ≠ .idle)) {i : Instr}
    (access : i = .csrRead r ∨ ∃ x, i = .csrWrite r x) : exec i s = .fault .commandOverlap := by
  rcases access with rfl | ⟨x, rfl⟩
  · exact csrCommand_of_busy busy _
  · show execCsrWrite r x s = _
    unfold execCsrWrite
    exact csrCommand_of_busy busy _

/-- Settles O19: each command first asks whether its engine is idle. -/
theorem overlappingCommandsFault : Obligations.OverlappingCommandsFault := by
  refine fun s => ⟨fun busy i h => ?video, fun busy i h => ?audio⟩
  case video =>
    simp only [List.mem_cons, List.not_mem_nil, or_false] at h
    rcases h with (rfl | rfl | rfl) | ⟨b, rfl⟩ | ⟨p, n, rfl⟩ | ⟨r, own, access⟩
    iterate 5 exact videoCommand_of_busy busy _
    exact execCsr_of_busy (.inl ⟨decide_eq_true own, busy⟩) access
  case audio =>
    simp only [List.mem_cons, List.not_mem_nil, or_false] at h
    rcases h with (rfl | rfl | rfl) | ⟨b, rfl⟩ | ⟨n, rfl⟩ | ⟨r, low, high, access⟩
    iterate 5 exact audioCommand_of_busy busy _
    exact execCsr_of_busy (.inr ⟨by simp [csrOfAudio, low, high], busy⟩) access

end Sys2Proof.Machine
end

section
/-! What a whole command keeps: the elements that a decode command runs, one by one, and the host commands. Unlike
the moves of an engine, an element here is the very row that the engine fetches. -/

namespace Sys2Proof.Machine

/-! ### Elements (R501, R901) -/

/-- The element of a row is what its shared operation makes of the VDE, by the position it stands at. -/
theorem Video.Element.becomes {v w : Video} (h : v.Element w) : v.Becomes w := by
  cases h with
  | row i e u fetched effect result =>
    obtain ⟨f, same, becomes⟩ := Video.becomes_of_row fetched
    obtain rfl : f = e := Option.some.inj (same.symm.trans effect)
    exact result ▸ becomes
  | exhausted u fetched result => exact result ▸ Video.becomes_of_exhausted fetched

/-- There is no element outside a command. -/
theorem Video.Becomes.of_busy {v w : Video} (h : v.Becomes w) : v.pos ≠ .idle := by
  intro idle
  cases h with
  | passed br code reader busy => exact busy idle
  | sequenceFound br code reader search | pictureFound br code reader search | noSequence br reader search
  | noPicture br reader search => cases search.symm.trans idle
  | sliceFound br code x reader search | pictureEnded br code reader search =>
    rcases search with search | search <;> cases search.symm.trans idle
  | sequenceHeader h stands | pictureHeader h stands | sliceHeader h stands => cases stands.symm.trans idle
  | codeword e length inside motion =>
    rw [idle] at inside
    cases inside

/-- Inside a VDECODE an element runs, or nothing is there to run. -/
theorem videoElement_cases {s t : State} (h : videoElement s = .next t) :
    t = s ∨ ∃ w, s.v.Element w ∧ t = deliverVideo { s with v := w } := by
  unfold videoElement at h
  split at h
  · rename_i i u fetched
    obtain ⟨e, effect, -⟩ := Video.becomes_of_row fetched
    rw [runRow_eq_videoRow effect] at h
    cases h
    exact .inr ⟨_, .row i e u fetched effect rfl, rfl⟩
  · rename_i u fetched
    cases h
    exact .inr ⟨_, .exhausted u fetched rfl, rfl⟩
  · cases h
    exact .inl rfl

/-- What every element keeps, a run of elements keeps. -/
theorem runVideo_keeps {P : State → Prop}
    (element : ∀ {s : State} {w : Video}, s.v.Element w → P s → P (deliverVideo { s with v := w }))
    {k : Nat} {s t : State} (h : runVideo k s = .next t) (p : P s) : P t := by
  induction k generalizing s with
  | zero => cases h; exact p
  | succ k ih =>
    rw [runVideo] at h
    split at h
    · cases h; exact p
    · split at h
      · rename_i u first
        rcases videoElement_cases first with rfl | ⟨w, e, rfl⟩
        · exact ih h p
        · exact ih h (element e p)
      · cases h
      · cases h

/-- Inside an ADECODE a header search runs, with the header it finds, or nothing is there to run. -/
theorem audioElement_cases {s t : State} (h : audioElement s = .next t) :
    t = s ∨ ∃ b, s.a.Becomes b ∧ t = deliverAudio { s with a := b } := by
  unfold audioElement at h
  split at h
  · rename_i i a fetched
    rcases fetchAudio_instr fetched with ⟨m, rfl⟩ | ⟨m, rfl⟩ <;> cases h
    · exact .inr ⟨_, .header m a fetched, rfl⟩
    · exact .inr ⟨_, .otherHeader m a fetched, rfl⟩
  · rename_i a fetched
    cases h
    exact .inr ⟨_, .ended a fetched, rfl⟩
  · cases h
    exact .inl rfl

/-- An ADECODE is its beginning, and at most one element. -/
theorem decodeAudio_cases {s t : State} (h : decodeAudio s = .next t) :
    let b := s.a.beginDecode.delivered
    t.v = s.v ∧ (t.a = b ∨ ∃ c, b.Becomes c ∧ t.a = c.delivered) := by
  unfold decodeAudio runAudio at h
  split at h
  · cases h
    exact ⟨by simp, .inl (by simp)⟩
  · rcases audioElement_cases h with rfl | ⟨c, becomes, rfl⟩
    · exact ⟨by simp, .inl (by simp)⟩
    · exact ⟨by simp, .inr ⟨c, by simpa using becomes, by simp⟩⟩

/-! ### Host commands (R213, R1151) -/

/-- A command of the VDE runs from idle, or it faults (R213). -/
theorem videoCommand_next {f : State → Result} {s t : State} (h : videoCommand f s = .next t) :
    s.v.pos = .idle ∧ f s = .next t := by
  unfold videoCommand at h
  split at h
  · exact ⟨‹_›, h⟩
  · cases h

/-- A command of the ADE runs from idle, or it faults (R213). -/
theorem audioCommand_next {f : State → Result} {s t : State} (h : audioCommand f s = .next t) :
    s.a.pos = .idle ∧ f s = .next t := by
  unfold audioCommand at h
  split at h
  · exact ⟨‹_›, h⟩
  · cases h

/-- An access to the register file runs, or it faults (R213). -/
theorem csrCommand_next {r : Nat} {f : State → Result} {s t : State} (h : csrCommand r f s = .next t) :
    f s = .next t := by
  unfold csrCommand at h
  split at h
  · cases h
  · exact h

/-- Every instruction is a host command, an audio header, or a row of the video stream (R1151, R1208). -/
theorem Instr.kinds (i : Instr) :
    Instr.OfHost i ∨ (∃ m, i = .mp2Header m) ∨ (∃ m, i = .mp2SyncOther m) ∨ ∃ e, videoEffect i = some e := by
  cases i
  case mp2Header m => exact .inr (.inl ⟨m, rfl⟩)
  case mp2SyncOther m => exact .inr (.inr (.inl ⟨m, rfl⟩))
  case vwrite | vsignalEnd | vdecode | vrewind | vframeRead | awrite | asignalEnd | adecode | arewind | asamplesRead |
      csrRead | csrWrite => exact .inl (by constructor)
  all_goals exact .inr (.inr (.inr ⟨_, rfl⟩))

/-! ### What every element keeps (R501, R1151) -/

/-- What every element keeps, and every move of the idle engine, a VDECODE keeps. -/
theorem decodeVideo_keeps {P : Video → Prop} (element : ∀ {v w : Video}, v.Element w → P v → P w.delivered)
    (move : ∀ {v w : Video}, v.pos = .idle → v.Moves w → P v → P w) {s t : State} (idle : s.v.pos = .idle)
    (h : decodeVideo s = .next t) (p : P s.v) : P t.v :=
  runVideo_keeps (P := fun s => P s.v) (fun e p => by simpa using element e p) h
    (by simpa using move idle (.decode idle) p)

/-- What every element keeps, and every move of the idle engine, a host command keeps. -/
theorem Instr.OfHost.keeps_video {P : Video → Prop} (element : ∀ {v w : Video}, v.Element w → P v → P w.delivered)
    (move : ∀ {v w : Video}, v.pos = .idle → v.Moves w → P v → P w) {i : Instr} (host : Instr.OfHost i)
    {s t : State} (idle : s.v.pos = .idle) (h : exec i s = .next t) (p : P s.v) : P t.v := by
  cases host with
  | vwrite b => cases (videoCommand_next h).2; exact move idle (.write idle b) p
  | vsignalEnd => cases (videoCommand_next h).2; exact move idle (.signalEnd idle) p
  | vdecode => exact decodeVideo_keeps element move idle (videoCommand_next h).2 p
  | vrewind => cases (videoCommand_next h).2; exact move idle (.rewind idle) p
  | vframeRead q n => cases (videoCommand_next h).2; exact p
  | awrite b => cases (audioCommand_next h).2; exact p
  | asignalEnd => cases (audioCommand_next h).2; exact p
  | adecode => exact (decodeAudio_cases (audioCommand_next h).2).1 ▸ p
  | arewind => cases (audioCommand_next h).2; exact p
  | asamplesRead n => cases (audioCommand_next h).2; exact p
  | csrRead r => cases csrCommand_next h; exact p
  | csrWrite r x =>
    have h : execCsrWrite r x s = .next t := h
    unfold execCsrWrite at h
    cases csrCommand_next h
    exact move idle (.csrWrite idle r x) p

/-- What every element keeps, and every move of the idle engine, a step keeps. -/
theorem step_keeps_video_of_element {P : Video → Prop}
    (element : ∀ {v w : Video}, v.Element w → P v → P w.delivered)
    (move : ∀ {v w : Video}, v.pos = .idle → v.Moves w → P v → P w) {s t : State} (h : step s = .next t)
    (p : P s.v) : P t.v := by
  unfold step at h
  split at h
  · split at h
    · rename_i i u fetched
      obtain ⟨e, effect, -⟩ := Video.becomes_of_row fetched
      rw [exec_videoRow_next effect] at h
      cases h
      simpa using element (.row i e u fetched effect rfl) p
    · rename_i u fetched
      cases h
      simpa using element (.exhausted u fetched rfl) p
    · cases h; exact p
  · rename_i idle
    have idle : s.v.pos = .idle := not_not.1 idle
    split at h
    · split at h
      · rename_i i a fetched
        rcases fetchAudio_instr fetched with ⟨m, rfl⟩ | ⟨m, rfl⟩ <;> cases h <;> simpa using p
      · cases h; simpa using p
      · cases h; exact p
    · split at h
      · cases h; exact p
      · split at h
        · exact (decodeHost_ofHost ‹_›).keeps_video element move (by exact idle) h p
        · cases h; exact p

end Sys2Proof.Machine
end

section
/-! Every sample access lies in its plane (R204): what the operations of the video engine keep of the planes, outside
a slice, before a macroblock and inside one; and the reads of a prediction that passes its range check (R807). -/

namespace Sys2Proof.Machine

/-! ### The parts of the invariant (R204, R206, R502, R605) -/

/-- Every written sample lies in its plane, and the sizes are those of an accepted sequence header, once there is
one (R204, R502). -/
def Video.PlanesLegal (v : Video) : Prop :=
  v.samplesInside = true ∧ (v.hasSequenceHeader = true → v.sizesLegal = true)

/-- The planes of a picture that is being decoded, and the address that its next macroblock counts from (R601,
R605): all that a slice needs between its macroblocks, wherever the cursor stands. -/
def Video.InSlice (v : Video) : Prop :=
  v.samplesInside = true ∧ v.hasSequenceHeader = true ∧ v.sizesLegal = true ∧
    (if v.sliceBegin = true then -1 ≤ v.macroblockAddress.toInt else v.addressInPicture = true)

/-- And the macroblock that the engine works on, at its row and its column (R206): all that a macroblock needs,
wherever the cursor stands. -/
def Video.InMacroblock (v : Video) : Prop :=
  v.samplesInside = true ∧ v.hasSequenceHeader = true ∧ v.sizesLegal = true ∧ v.sliceBegin = false ∧
    v.addressInPicture = true ∧ v.mbCol.toNat < v.mbWidth.toNat ∧
    ((v.mbRow.toNat * v.mbWidth.toNat + v.mbCol.toNat : Nat) : Int) = v.macroblockAddress.toInt

theorem Video.insidePlanes_iff (v : Video) :
    v.insidePlanes = true ↔
      v.PlanesLegal ∧ v.pos.legalWith v.hasSequenceHeader = true ∧ v.macroblockInPicture = true := by
  have sizes : (!v.hasSequenceHeader || v.sizesLegal) = true ↔
      (v.hasSequenceHeader = true → v.sizesLegal = true) := by
    cases v.hasSequenceHeader <;> simp
  simp only [Video.insidePlanes, Bool.and_eq_true, sizes, Video.PlanesLegal]
  tauto

/-- Inside a picture there has been a sequence header (R510). -/
theorem VideoPos.legalWith_of_inPicture {p : VideoPos} {header : Bool} (h : p.inPicture = true) :
    p.legalWith header = header := by
  cases p with
  | idle | sequenceSearch | sequenceHeader | pictureSearch | pictureHeader | finished => cases h
  | _ => rfl

theorem VideoPos.inSlice_of_inMacroblock {p : VideoPos} (h : p.inMacroblock = true) : p.inSlice = true := by
  cases p with
  | macroblockType | motion | codedBlockPattern | dcSize | coefficient => rfl
  | _ => cases h

/-- Outside a slice the planes have to be legal and the engine has to stand where it may. -/
theorem Video.insidePlanes_of_outside {v : Video} (planes : v.PlanesLegal) (outside : v.pos.inSlice = false)
    (stands : v.pos.legalWith v.hasSequenceHeader = true) : v.insidePlanes = true := by
  refine v.insidePlanes_iff.2 ⟨planes, stands, ?_⟩
  have between : v.pos.inMacroblock = false := by
    by_contra h
    rw [VideoPos.inSlice_of_inMacroblock (Bool.not_eq_false _ ▸ h)] at outside
    cases outside
  simp [Video.macroblockInPicture, between, outside]

/-- Inside a macroblock. -/
theorem Video.inMacroblock_of_insidePlanes {v : Video} (h : v.insidePlanes = true)
    (stands : v.pos.inMacroblock = true) : v.InMacroblock := by
  obtain ⟨⟨samples, sizes⟩, legal, place⟩ := v.insidePlanes_iff.1 h
  have header := legal
  rw [VideoPos.legalWith_of_inPicture
    (VideoPos.inPicture_of_inSlice (VideoPos.inSlice_of_inMacroblock stands))] at header
  simp only [Video.macroblockInPicture, stands, if_true, Bool.and_eq_true, Bool.not_eq_true',
    decide_eq_true_eq] at place
  obtain ⟨⟨⟨begun, address⟩, col⟩, at_⟩ := place
  exact ⟨samples, header, sizes header, begun, address, col, at_⟩

/-- A macroblock of the picture is one that the slice may count on from. -/
theorem Video.InMacroblock.inSlice {v : Video} (h : v.InMacroblock) : v.InSlice := by
  obtain ⟨samples, header, sizes, begun, address, -, -⟩ := h
  exact ⟨samples, header, sizes, by simpa [begun] using address⟩

/-- Anywhere inside a slice. -/
theorem Video.inSlice_of_insidePlanes {v : Video} (h : v.insidePlanes = true) (stands : v.pos.inSlice = true) :
    v.InSlice := by
  cases inside : v.pos.inMacroblock with
  | true => exact (inMacroblock_of_insidePlanes h inside).inSlice
  | false =>
    obtain ⟨⟨samples, sizes⟩, legal, place⟩ := v.insidePlanes_iff.1 h
    rw [VideoPos.legalWith_of_inPicture (VideoPos.inPicture_of_inSlice stands)] at legal
    refine ⟨samples, legal, sizes legal, ?_⟩
    cases begins : v.sliceBegin <;> simpa [Video.macroblockInPicture, inside, stands, begins] using place

/-- Between the macroblocks of a slice, or behind it. -/
theorem Video.InSlice.insidePlanes {v : Video} (h : v.InSlice) (picture : v.pos.inPicture = true)
    (between : v.pos.inMacroblock = false) : v.insidePlanes = true := by
  obtain ⟨samples, header, sizes, address⟩ := h
  refine v.insidePlanes_iff.2 ⟨⟨samples, fun _ => sizes⟩, ?_, ?_⟩
  · rw [VideoPos.legalWith_of_inPicture picture, header]
  · cases begins : v.sliceBegin <;> simpa [Video.macroblockInPicture, between, begins] using .inr (by simpa [begins] using address)

/-- Inside a macroblock, behind it in its slice, or behind the slice. -/
theorem Video.InMacroblock.insidePlanes {v : Video} (h : v.InMacroblock) (picture : v.pos.inPicture = true) :
    v.insidePlanes = true := by
  cases inside : v.pos.inMacroblock with
  | false => exact h.inSlice.insidePlanes picture inside
  | true =>
    obtain ⟨samples, header, sizes, begun, address, col, at_⟩ := h
    refine v.insidePlanes_iff.2 ⟨⟨samples, fun _ => sizes⟩, ?_, ?_⟩
    · rw [VideoPos.legalWith_of_inPicture picture, header]
    · simp [Video.macroblockInPicture, inside, begun, address, col, at_]

/-- The macroblock lies in the picture, and so do its samples (R206). -/
theorem Video.InMacroblock.placed {v : Video} (h : v.InMacroblock) : v.Placed := by
  obtain ⟨-, -, sizes, -, address, col, at_⟩ := h
  refine ⟨sizes, ?_, col⟩
  have size : v.mbSize.toNat = v.mbWidth.toNat * v.mbHeight.toNat := by
    simp only [Video.sizesLegal, Bool.and_eq_true, beq_iff_eq] at sizes
    obtain ⟨⟨⟨⟨⟨-, size⟩, -⟩, -⟩, -⟩, -⟩ := sizes
    exact size
  simp only [Video.addressInPicture, Bool.and_eq_true, decide_eq_true_eq, size] at address
  by_contra row
  have := Nat.mul_le_mul_right v.mbWidth.toNat (Nat.not_lt.1 row)
  rw [Nat.mul_comm] at this
  omega

/-! ### Outside a slice (R501-R511) -/

/-- Nothing is lost of the planes: what every operation outside a slice does, but for the sequence header. -/
structure Video.KeepsPlanes (v w : Video) : Prop where
  header : w.hasSequenceHeader = v.hasSequenceHeader
  planes : v.PlanesLegal → w.PlanesLegal

theorem Video.KeepsPlanes.trans {u v w : Video} (h : u.KeepsPlanes v) (k : v.KeepsPlanes w) : u.KeepsPlanes w :=
  ⟨k.header.trans h.header, k.planes ∘ h.planes⟩

/-- A frame of the same samples, at another time (R508). -/
theorem Video.setTime_keepsPlanes (f : Fin 3) (x : Rat) (v : Video) :
    v.KeepsPlanes (v.setFrame f { v.frame f with time := x }) := by
  fin_cases f <;> exact ⟨rfl, id⟩

theorem Video.emit_keepsPlanes (f : Fin 3) (v : Video) : v.KeepsPlanes (v.emit f) :=
  (v.setTime_keepsPlanes f v.time).trans ⟨rfl, id⟩

theorem Video.beginPicture_keepsPlanes (v : Video) : v.KeepsPlanes v.beginPicture := by
  unfold Video.beginPicture
  dsimp only
  split <;> exact ⟨rfl, id⟩

theorem Video.pictureLoop_keepsPlanes (v : Video) : v.KeepsPlanes v.pictureLoop := by
  unfold Video.pictureLoop
  split
  · exact v.beginPicture_keepsPlanes
  · exact ⟨rfl, id⟩

theorem Video.endOfPictures_keepsPlanes (v : Video) : v.KeepsPlanes v.endOfPictures := by
  unfold Video.endOfPictures
  dsimp only
  split
  · exact .trans (by exact ⟨rfl, id⟩) (emit_keepsPlanes _ _)
  · exact ⟨rfl, id⟩

theorem Video.dropPicture_keepsPlanes (c : VideoCause) (v : Video) : v.KeepsPlanes (v.dropPicture c) :=
  .trans (by exact ⟨rfl, id⟩) (pictureLoop_keepsPlanes { v.raise c with startCode := none })

theorem Video.postRotate_keepsPlanes (v : Video) : v.KeepsPlanes v.postRotate := by
  unfold Video.postRotate
  split <;> exact ⟨rfl, id⟩

theorem Video.selectOutput_keepsPlanes (v : Video) : v.KeepsPlanes v.selectOutput := by
  unfold Video.selectOutput
  split
  · dsimp only
    split
    · exact .trans (by exact ⟨rfl, id⟩) (emit_keepsPlanes _ _)
    · exact v.emit_keepsPlanes _
  · split
    · exact v.emit_keepsPlanes _
    · split
      · exact v.emit_keepsPlanes _
      · exact .trans (by exact ⟨rfl, id⟩) (pictureLoop_keepsPlanes _)

theorem Video.endPicture_keepsPlanes (v : Video) : v.KeepsPlanes v.endPicture :=
  v.postRotate_keepsPlanes.trans (selectOutput_keepsPlanes _)

theorem Video.beginSequenceHeader_keepsPlanes (v : Video) : v.KeepsPlanes v.beginSequenceHeader := by
  unfold Video.beginSequenceHeader
  dsimp only
  split <;> exact ⟨rfl, id⟩

theorem Video.sequenceLoop_keepsPlanes (v : Video) : v.KeepsPlanes v.sequenceLoop := by
  unfold Video.sequenceLoop
  split
  · exact v.beginSequenceHeader_keepsPlanes
  · exact ⟨rfl, id⟩

theorem Video.beginBody_keepsPlanes (v : Video) : v.KeepsPlanes v.beginBody := by
  unfold Video.beginBody Video.preRotate
  dsimp only
  split <;> exact ⟨rfl, id⟩

theorem Video.backwardCode_keepsPlanes (c : VectorCode) (v : Video) : v.KeepsPlanes (v.backwardCode c) := by
  unfold Video.backwardCode
  generalize v.br.takeFields [1, 3] = br
  dsimp only
  split
  · exact .trans (by exact ⟨rfl, id⟩) (dropPicture_keepsPlanes _ _)
  · exact .trans (by exact ⟨rfl, id⟩) (beginBody_keepsPlanes _)

theorem Video.vectorCodes_keepsPlanes (h : PictureHeader) (v : Video) : v.KeepsPlanes (v.vectorCodes h) := by
  unfold Video.vectorCodes
  generalize v.br.takeFields [1, 3] = br
  dsimp only
  split
  · exact .trans (by exact ⟨rfl, id⟩) (dropPicture_keepsPlanes _ _)
  · split
    · exact .trans (by exact ⟨rfl, id⟩) (backwardCode_keepsPlanes _ _)
    · exact .trans (by exact ⟨rfl, id⟩) (beginBody_keepsPlanes _)

theorem Video.pictureHeaderRow_keepsPlanes (h : PictureHeader) (v : Video) :
    v.KeepsPlanes (v.pictureHeaderRow h) := by
  unfold Video.pictureHeaderRow
  generalize v.br.takeFields [10, 3, 16] = br
  dsimp only
  split
  · exact .trans (by exact ⟨rfl, id⟩) (beginBody_keepsPlanes _)
  · split
    · exact .trans (by exact ⟨rfl, id⟩) (vectorCodes_keepsPlanes _ _)
    · exact .trans (by exact ⟨rfl, id⟩) (dropPicture_keepsPlanes _ _)

/-- The engine stands before a picture, in the search for one, or at the end of the command: behind a sequence
header, it may stand there. -/
theorem Video.KeepsPlanes.beforePicture {v w : Video} (k : v.KeepsPlanes w) (planes : v.PlanesLegal)
    (header : v.hasSequenceHeader = true) (h : w.pos ∈ [.finished, .pictureHeader, .pictureSearch]) :
    w.insidePlanes = true := by
  simp only [List.mem_cons, List.not_mem_nil, or_false] at h
  refine insidePlanes_of_outside (k.planes planes) ?_ ?_
  · rcases h with h | h | h <;> rw [h] <;> rfl
  · rw [k.header, header]
    rcases h with h | h | h <;> rw [h] <;> rfl

/-- The engine stands before the sequence header, in the search for it, or at the end of the command: without a
sequence header, it may stand there. -/
theorem Video.KeepsPlanes.beforeSequence {v w : Video} (k : v.KeepsPlanes w) (planes : v.PlanesLegal)
    (header : v.hasSequenceHeader = false) (h : w.pos ∈ [.finished, .sequenceHeader, .sequenceSearch]) :
    w.insidePlanes = true := by
  simp only [List.mem_cons, List.not_mem_nil, or_false] at h
  refine insidePlanes_of_outside (k.planes planes) ?_ ?_
  · rcases h with h | h | h <;> rw [h] <;> rfl
  · rw [k.header, header]
    rcases h with h | h | h <;> rw [h] <;> rfl

/-- The sizes of an accepted sequence header fit their registers (R103, R502 steps 3 and 5). -/
theorem Video.commitSequence_sizesLegal {h : SequenceHeader} (accepted : sequenceAccepted h = true) (v : Video) :
    (v.commitSequence h).sizesLegal = true := by
  simp only [sequenceAccepted, Bool.and_eq_true, bne_iff_ne, ne_eq, BitVec.toNat_eq, BitVec.ofNat_eq_ofNat,
    BitVec.toNat_ofNat, Nat.reducePow, Nat.zero_mod] at accepted
  obtain ⟨⟨⟨width, height⟩, -⟩, -⟩ := accepted
  have narrow := h.horizontalSize.isLt
  have low := h.verticalSize.isLt
  simp only [Video.sizesLegal, Video.commitSequence, BitVec.toNat_ofNat]
  generalize ew : (h.horizontalSize.toNat + 15) / 16 = w
  generalize eh : (h.verticalSize.toNat + 15) / 16 = n
  have hw : 1 ≤ w ∧ w ≤ 256 := by omega
  have hn : 1 ≤ n ∧ n ≤ 256 := by omega
  have size : w * n ≤ 256 * 256 := Nat.mul_le_mul hw.2 hn.2
  rw [Nat.mod_eq_of_lt (a := w) (by omega), Nat.mod_eq_of_lt (a := n) (by omega),
    Nat.mod_eq_of_lt (a := w * n) (by omega), Nat.mod_eq_of_lt (a := w * 16) (by omega),
    Nat.mod_eq_of_lt (a := n * 16) (by omega), Nat.mod_eq_of_lt (a := w * 8) (by omega),
    Nat.mod_eq_of_lt (a := n * 8) (by omega)]
  simp [hw, hn, Nat.mul_comm]

/-- An accepted sequence header gives planes with nothing written (R502 step 5). -/
theorem Video.commitSequence_planesLegal {h : SequenceHeader} (accepted : sequenceAccepted h = true) (v : Video) :
    (v.commitSequence h).PlanesLegal := ⟨rfl, fun _ => commitSequence_sizesLegal accepted v⟩

/-- A sequence header is accepted, and a picture follows, or it is rejected, and the command ends (R502). -/
theorem Video.sequenceHeaderRow_insidePlanes (h : SequenceHeader) {v : Video} (planes : v.PlanesLegal) :
    (v.sequenceHeaderRow h).insidePlanes = true := by
  unfold Video.sequenceHeaderRow
  generalize v.br.takeFields sequenceFixedWidths = br
  dsimp only
  split
  · generalize br.takeFields _ = br
    exact (pictureLoop_keepsPlanes _).beforePicture (commitSequence_planesLegal ‹_› _) rfl (pictureLoop_pos _)
  · exact insidePlanes_of_outside planes rfl rfl

/-! ### Inside a macroblock (R603-R612, R700-R720, R801-R809) -/

theorem Video.sliceError_inMacroblock (c : VideoCause) {v : Video} (h : v.InMacroblock) :
    (v.sliceError c).InMacroblock := h

theorem Video.endMacroblock_inMacroblock {v : Video} (h : v.InMacroblock) : v.endMacroblock.InMacroblock := by
  unfold Video.endMacroblock
  split
  · dsimp only
    split <;> exact h
  · exact h

theorem Video.blocksFrom_inMacroblock (i : Nat) {v : Video} (h : v.InMacroblock) : (v.blocksFrom i).InMacroblock := by
  unfold Video.blocksFrom
  split
  · exact h
  · exact endMacroblock_inMacroblock h

theorem Video.patternStage_inMacroblock {v : Video} (h : v.InMacroblock) : v.patternStage.InMacroblock := by
  unfold Video.patternStage
  split
  · exact h
  · exact blocksFrom_inMacroblock 0 h

theorem Video.placeCoefficient_inMacroblock (run : Nat) (level : Int) {v : Video} (h : v.InMacroblock) :
    (v.placeCoefficient run level).InMacroblock := by
  unfold Video.placeCoefficient
  dsimp only
  split
  · exact sliceError_inMacroblock _ h
  · exact h

/-- Samples written inside their planes, and causes raised, leave the engine at its macroblock. -/
theorem Video.InMacroblock.samplesOnly {v w : Video} (h : v.InMacroblock) (only : v.SamplesOnly w)
    (samples : w.samplesInside = true) : w.InMacroblock := by
  obtain ⟨-, header, sizes, begun, address, place⟩ := h
  rw [only] at samples ⊢
  exact ⟨samples, header, sizes, begun, address, place⟩

/-- A prediction writes inside the planes (R809). -/
theorem Video.predictMacroblock_inMacroblock {v : Video} (h : v.InMacroblock) : v.predictMacroblock.InMacroblock :=
  h.samplesOnly v.predictMacroblock_samplesOnly (predictMacroblock_inside h.1 h.placed)

/-- A reconstruction writes inside the plane of its block (R714-R720). -/
theorem Video.reconstruct_inMacroblock {v : Video} (h : v.InMacroblock) : v.reconstruct.InMacroblock := by
  have samples := reconstruct_inside h.1 h.placed
  obtain ⟨w, only, e⟩ := v.reconstruct_samplesOnly
  rw [e] at samples ⊢
  have written : w.InMacroblock := h.samplesOnly only samples
  exact written

theorem Video.endBlock_inMacroblock {v : Video} (h : v.InMacroblock) : v.endBlock.InMacroblock :=
  blocksFrom_inMacroblock _ (reconstruct_inMacroblock h)

theorem Video.endMotion_inMacroblock {v : Video} (h : v.InMacroblock) : v.endMotion.InMacroblock :=
  patternStage_inMacroblock (predictMacroblock_inMacroblock h)

theorem Video.backwardMotion_inMacroblock {v : Video} (h : v.InMacroblock) : v.backwardMotion.InMacroblock := by
  unfold Video.backwardMotion
  split
  · exact h
  · exact endMotion_inMacroblock h

theorem Video.beginMotion_inMacroblock {v : Video} (h : v.InMacroblock) : v.beginMotion.InMacroblock := by
  unfold Video.beginMotion
  split
  · exact h
  · split
    · exact backwardMotion_inMacroblock (v := { v with mf := v.mf.zeroVector }) h
    · exact backwardMotion_inMacroblock h

theorem Video.motionElement_inMacroblock (code : Int) {v : Video} (h : v.InMacroblock) :
    (v.motionElement code).InMacroblock := by
  unfold Video.motionElement
  obtain ⟨backward, vertical⟩ := v.motionTarget
  dsimp only
  generalize MotionState.update vertical code (if backward then v.mb else v.mf) v.br = u
  obtain ⟨m, br⟩ := u
  cases backward <;> cases vertical
  · exact h
  · exact backwardMotion_inMacroblock (v := { v with br := br, mf := m }) h
  · exact h
  · exact endMotion_inMacroblock (v := { v with br := br, mb := m }) h

theorem Video.macroblockHeader_inMacroblock (t : BitVec 5) {v : Video} (h : v.InMacroblock) :
    (v.macroblockHeader t).InMacroblock := by
  unfold Video.macroblockHeader
  dsimp only
  generalize hw : (if typeQscale t = true then _ else _ : Video) = w
  have scaled : w.InMacroblock := by
    rw [← hw]
    split <;> exact h
  split
  · exact patternStage_inMacroblock (v := { w with mf := w.mf.zeroVector, mb := w.mb.zeroVector }) scaled
  · exact beginMotion_inMacroblock (v := { w with dcPredictor := dcReset }) scaled

/-! ### Every codeword (R320-R326, R409) -/

/-- The shared operations of table MBA, and the reserved bits: what can stand between two macroblocks. -/
def VideoEffect.betweenMacroblocks : VideoEffect → Bool
  | .address _ _ => true
  | .stuffing _ => true
  | .addressEscape _ => true
  | .reserved _ => true
  | _ => false

/-- An address increment is 1 or more (R320). -/
theorem videoEffect_address_pos {i : Instr} {len t : Nat} (h : videoEffect i = some (.address len t)) : 1 ≤ t := by
  cases i <;> cases h <;> decide

/-- The rows of table MBA, its reserved bits among them (R320, R326). -/
theorem mbaTable_between : ∀ r ∈ mbaTable, ∀ sign, ∀ e ∈ videoEffect (r.make sign), e.betweenMacroblocks = true := by
  decide +kernel

/-- Inside a slice a codeword stands inside a macroblock, or it is one of table MBA (R313, R604). -/
theorem Video.codeword_stands {v : Video} {p : SyntaxPosition} {bits rest : List Bool} {i : Instr} {e : VideoEffect}
    (stands : v.syntaxPosition = some p) (inside : v.pos.inSlice = true) (table : isCodewordPosition p = true)
    (d : decode p bits = .ok (i, rest)) (effect : videoEffect i = some e) :
    v.pos.inMacroblock = true ∨ e.betweenMacroblocks = true := by
  unfold Video.syntaxPosition at stands
  cases pos : v.pos <;> rw [pos] at stands inside
  case idle | sequenceSearch | sequenceHeader | pictureSearch | pictureHeader | bodySearch | sliceSearch | finished =>
    cases inside
  case sliceHeader => cases stands; cases table
  case addressIncrement =>
    cases stands
    obtain ⟨r, member, sign, tail, walk⟩ := decodeVlc_row (T := mbaTable) (by simp [vlcTables]) bits
    obtain ⟨rfl, -⟩ := Prod.mk.inj (Except.ok.inj (walk.symm.trans d))
    exact .inr (mbaTable_between r member sign e effect)
  case macroblockType | motion | codedBlockPattern | dcSize | coefficient => exact .inl rfl

/-- A codeword of table MBA, or reserved bits, anywhere inside a slice (R604, R605, R612). -/
theorem VideoEffect.apply_insidePlanes_between {e : VideoEffect} (between : e.betweenMacroblocks = true)
    (increment : ∀ len t, e = .address len t → 1 ≤ t) {v : Video} (h : v.InSlice) :
    (e.apply v).insidePlanes = true := by
  cases e with
  | address len t =>
    have some_ := increment len t rfl
    let u : Video := { v.takeCodeword len with increment := v.increment + t }
    obtain ⟨samples, header, sizes, address⟩ := h
    have legal := Video.updateAddress_inside (v := u) samples sizes (Nat.le_add_left_of_le some_)
      (by exact address)
    obtain ⟨samples, sizes, ends⟩ := legal
    have header : u.updateAddress.hasSequenceHeader = true := u.updateAddress_advances.header header
    show u.updateAddress.insidePlanes = true
    rcases ends with behind | ⟨stands, place⟩
    · exact Video.insidePlanes_of_outside ⟨samples, fun _ => sizes⟩ (by rw [behind]; rfl)
        (by rw [behind, header]; rfl)
    · exact (Video.insidePlanes_iff _).2 ⟨⟨samples, fun _ => sizes⟩, by rw [stands, header]; rfl, place⟩
  | stuffing len => exact Video.InSlice.insidePlanes (v := Video.stuffingRow len v) h rfl rfl
  | addressEscape len => exact Video.InSlice.insidePlanes (v := Video.addressEscapeRow len v) h rfl rfl
  | reserved len => exact Video.InSlice.insidePlanes (v := Video.reservedRow len v) h rfl rfl
  | _ => cases between

/-- Every other codeword, inside a macroblock (R606-R612, R700-R720, R801-R809). -/
theorem VideoEffect.apply_inMacroblock {e : VideoEffect} (length : 0 < e.codeLength)
    (other : e.betweenMacroblocks = false) {v : Video} (h : v.InMacroblock) : (e.apply v).InMacroblock := by
  have reader (br : BitReader) : Video.InMacroblock { v with br := br } := h
  cases e with
  | startCode x | sequenceHeader s | pictureHeader p | sliceHeader s => cases length
  | address len t | stuffing len | addressEscape len | reserved len => cases other
  | type len t => exact Video.macroblockHeader_inMacroblock t (reader _)
  | pattern len p => exact Video.blocksFrom_inMacroblock (v := { v.takeCodeword len with cbp := p }) 0 h
  | motionZero len => exact Video.motionElement_inMacroblock 0 (reader _)
  | motion len m sign => exact Video.motionElement_inMacroblock _ (reader _)
  | dcSize len z => exact h
  | endOfBlock len => exact Video.endBlock_inMacroblock (reader _)
  | coefficient len run level sign => exact Video.placeCoefficient_inMacroblock _ _ (reader _)
  | escape len => exact Video.placeCoefficient_inMacroblock _ _ (reader _)
  | completedEscape len widths run level => exact Video.placeCoefficient_inMacroblock _ _ (reader _)

/-- A codeword that stands where the engine reads it. -/
theorem VideoEffect.apply_insidePlanes {e : VideoEffect} (length : 0 < e.codeLength)
    (increment : ∀ len t, e = .address len t → 1 ≤ t) {v : Video} (legal : v.insidePlanes = true)
    (inside : v.pos.inSlice = true) (stands : v.pos.inMacroblock = true ∨ e.betweenMacroblocks = true) :
    (e.apply v).insidePlanes = true := by
  cases between : e.betweenMacroblocks with
  | true => exact apply_insidePlanes_between between increment (Video.inSlice_of_insidePlanes legal inside)
  | false =>
    have macroblock := stands.resolve_right (by simp [between])
    exact (apply_inMacroblock length between (Video.inMacroblock_of_insidePlanes legal macroblock)).insidePlanes
      (e.apply_staysInPicture length v).1

/-! ### Start codes (R302, R501-R504, R601) -/

/-- A slice begins at -1 or more, on the macroblock before its row (R601). -/
theorem Video.beginSlice_insidePlanes {x : Byte} (slice : isSlice x = true) {v : Video} (planes : v.PlanesLegal)
    (header : v.hasSequenceHeader = true) : (v.beginSlice x).insidePlanes = true := by
  obtain ⟨samples, sizes⟩ := planes
  have sizes := sizes header
  have wide : v.mbWidth.toNat ≤ 256 := by
    simp only [Video.sizesLegal, Bool.and_eq_true, decide_eq_true_eq] at sizes
    obtain ⟨⟨⟨⟨⟨⟨⟨⟨-, wide⟩, -⟩, -⟩, -⟩, -⟩, -⟩, -⟩, -⟩ := sizes
    exact wide
  simp only [isSlice, Bool.and_eq_true, decide_eq_true_eq] at slice
  obtain ⟨n, row⟩ : ∃ n : Nat, x.toNat = n + 1 := ⟨x.toNat - 1, by omega⟩
  have product : n * v.mbWidth.toNat ≤ 174 * 256 := Nat.mul_le_mul (by omega) wide
  have address : (v.beginSlice x).macroblockAddress.toInt = ((n * v.mbWidth.toNat : Nat) : Int) - 1 := by
    have first : (v.beginSlice x).macroblockAddress = BitVec.ofInt 32 (((n * v.mbWidth.toNat : Nat) : Int) - 1) := by
      simp [Video.beginSlice, row]
    rw [first, BitVec.toInt_ofInt, Int.bmod_eq_of_le (by omega) (by omega)]
  refine Video.InSlice.insidePlanes (v := v.beginSlice x) ⟨samples, header, sizes, ?_⟩ rfl rfl
  have begins : (v.beginSlice x).sliceBegin = true := rfl
  rw [if_pos begins, address]
  omega

/-- A start code behind a picture header or a slice: a slice, or the end of the picture (R504). -/
theorem Video.afterSlice_insidePlanes (x : Byte) {v : Video} (planes : v.PlanesLegal)
    (header : v.hasSequenceHeader = true) : (v.afterSlice x).insidePlanes = true := by
  unfold Video.afterSlice
  dsimp only
  split
  · exact beginSlice_insidePlanes (v := { v with startCode := some x }) ‹_› planes header
  · exact (endPicture_keepsPlanes _).beforePicture planes header (endPicture_pos _)

/-- What a search makes of the start code that it has met (R408, R504). -/
theorem Video.startCodeArrived_insidePlanes (x : Byte) {v : Video} (legal : v.insidePlanes = true) :
    (v.startCodeArrived x).insidePlanes = true := by
  obtain ⟨planes, stands, -⟩ := v.insidePlanes_iff.1 legal
  unfold Video.startCodeArrived
  split
  · rename_i pos
    rw [pos] at stands
    split
    · exact (beginSequenceHeader_keepsPlanes _).beforeSequence planes (by simpa [VideoPos.legalWith] using stands)
        (List.mem_append_left [.sequenceSearch] (beginSequenceHeader_pos _))
    · exact legal
  · rename_i pos
    rw [pos] at stands
    split
    · exact (beginPicture_keepsPlanes _).beforePicture planes stands
        (List.mem_append_left [.pictureSearch] (beginPicture_pos _))
    · exact legal
  · rename_i pos
    rw [pos] at stands
    split
    · exact legal
    · exact afterSlice_insidePlanes x planes stands
  · rename_i pos
    rw [pos] at stands
    exact afterSlice_insidePlanes x planes stands
  · exact legal

/-- What a search does that has met no start code (R501, R502, R504). -/
theorem Video.startCodeExhausted_insidePlanes {v : Video} (legal : v.insidePlanes = true) :
    v.startCodeExhausted.insidePlanes = true := by
  obtain ⟨planes, stands, -⟩ := v.insidePlanes_iff.1 legal
  have ended (header : v.hasSequenceHeader = true) :
      ({ v with startCode := none } : Video).endPicture.insidePlanes = true :=
    (endPicture_keepsPlanes _).beforePicture planes header (endPicture_pos _)
  unfold Video.startCodeExhausted
  split
  · exact insidePlanes_of_outside planes rfl rfl
  · rename_i pos
    rw [pos] at stands
    exact (endOfPictures_keepsPlanes _).beforePicture planes stands (by simp [endOfPictures_pos])
  · rename_i pos
    rw [pos] at stands
    exact ended stands
  · rename_i pos
    rw [pos] at stands
    exact ended stands
  · exact legal

/-! ### One element and one move (R501, R1151) -/

/-- A picture header ends before the body of its picture, or in the search for the next one (R503, R511). -/
theorem Video.pictureHeaderRow_insidePlanes (h : PictureHeader) {v : Video} (planes : v.PlanesLegal)
    (header : v.hasSequenceHeader = true) : (v.pictureHeaderRow h).insidePlanes = true := by
  have k := v.pictureHeaderRow_keepsPlanes h
  rcases v.pictureHeaderRow_cases h with pos | ⟨pos, -⟩
  · exact k.beforePicture planes header (by simp [pos])
  · exact insidePlanes_of_outside (k.planes planes) (by rw [pos]; rfl) (by rw [pos, k.header, header]; rfl)

/-- An element keeps every sample access inside its plane. -/
theorem Video.Element.insidePlanes {v w : Video} (h : v.Element w) (legal : v.insidePlanes = true) :
    w.insidePlanes = true := by
  obtain ⟨planes, may, -⟩ := v.insidePlanes_iff.1 legal
  cases h with
  | exhausted u fetched result =>
    obtain ⟨-, br, -, rfl⟩ := fetchVideo_exhausted fetched
    exact result ▸ startCodeExhausted_insidePlanes legal
  | row i e u fetched effect result =>
    subst result
    rcases fetchVideo_row fetched with ⟨-, x, br, -, rfl, rfl⟩ | ⟨p, rest, stands, other, d, rfl⟩
    · obtain rfl : VideoEffect.startCode x = e := Option.some.inj ((videoEffect_startCodeInstr x).symm.trans effect)
      exact startCodeArrived_insidePlanes x (v := { v with br := br.take 32 }) legal
    · rcases syntaxPosition_cases stands with rfl | ⟨rfl, pos⟩ | ⟨rfl, pos⟩ | ⟨rfl, pos⟩ | ⟨table, inside⟩
      · exact absurd rfl other
      · rw [decode_sequenceHeader] at d
        generalize decodeSequenceHeader (window .sequenceHeader u.br) = r at d
        cases d; cases effect
        exact sequenceHeaderRow_insidePlanes _ planes
      · rw [decode_pictureHeader] at d
        generalize decodePictureHeader (window .pictureHeader u.br) = r at d
        cases d; cases effect
        rw [pos] at may
        exact pictureHeaderRow_insidePlanes _ planes may
      · rw [decode_sliceHeader] at d
        generalize decodeSliceHeader (window .sliceHeader u.br) = r at d
        cases d; cases effect
        have slice := inSlice_of_insidePlanes legal (by rw [pos]; rfl)
        exact Video.InSlice.insidePlanes (v := u.sliceHeaderRow _) slice rfl rfl
      · obtain ⟨j, tail, f, d', effect', length⟩ := decode_codeword table (window p u.br)
        obtain ⟨rfl, -⟩ := Prod.mk.inj (Except.ok.inj (d.symm.trans d'))
        obtain rfl := Option.some.inj (effect'.symm.trans effect)
        exact VideoEffect.apply_insidePlanes length (fun len t k => videoEffect_address_pos (k ▸ effect)) legal inside
          (codeword_stands stands inside table d effect)

/-- The delivery of a response word writes no sample (R1152). -/
theorem Video.delivered_insidePlanes {v : Video} (legal : v.insidePlanes = true) : v.delivered.insidePlanes = true := by
  unfold Video.delivered
  split
  · exact insidePlanes_of_outside (v.insidePlanes_iff.1 legal).1 rfl rfl
  · exact legal

/-- A VDECODE begins before a picture, or, without a sequence header, before that (R501). -/
theorem Video.beginDecode_insidePlanes {v : Video} (planes : v.PlanesLegal) : v.beginDecode.insidePlanes = true := by
  unfold Video.beginDecode
  dsimp only
  split
  · exact (pictureLoop_keepsPlanes _).beforePicture planes ‹_› (pictureLoop_pos _)
  · exact (sequenceLoop_keepsPlanes _).beforeSequence planes (Bool.not_eq_true _ ▸ ‹_›) (sequenceLoop_pos _)

/-- A move of the idle engine keeps every sample access inside its plane. -/
theorem Video.Moves.insidePlanes {v w : Video} (idle : v.pos = .idle) (h : v.Moves w)
    (legal : v.insidePlanes = true) : w.insidePlanes = true := by
  cases h with
  | element h => exact absurd idle h.of_busy
  | decode _ => exact delivered_insidePlanes (beginDecode_insidePlanes (v.insidePlanes_iff.1 legal).1)
  | write _ bytes => exact legal
  | signalEnd _ => exact legal
  | rewind _ => exact legal
  | csrWrite _ r x =>
    unfold writeVideoCsr
    split <;> exact legal

/-! ### The reads of a prediction (R805, R807) -/

/-- The half-sample bit as a number (R805). -/
theorem oddComponent_toNat (m : Int) : (oddComponent m).toNat = (m % 2).toNat := by
  unfold oddComponent
  rcases Int.emod_two_eq_zero_or_one m with e | e <;> rw [e] <;> rfl

/-- The floor shift by 1 is the floor of the half (R9). -/
theorem floor_half (m : Int) : ⌊(m : Rat) / 2⌋ = floorShift m 1 := Rat.floor_intCast_div_natCast m 2

/-- Where the range check passes, every sample read lies in the plane, for rows and columns alike (R807). -/
theorem Video.predictionInRange_reads {v : Video} {p : Plane} {mh mv : Int} {size : Nat}
    (h : v.predictionInRange p mh mv size = true) {x y : Nat} (column : x < size + (mh % 2).toNat)
    (row : y < size + (mv % 2).toNat) :
    let o := v.predictionOrigin mh mv size
    (0 ≤ o.1 + x ∧ o.1 + x < v.planeWidth p) ∧ (0 ≤ o.2 + y ∧ o.2 + y < v.planeHeight p) := by
  unfold Video.predictionInRange at h
  generalize v.predictionOrigin mh mv size = o at h
  obtain ⟨x0, y0⟩ := o
  simp only [Bool.and_eq_true, decide_eq_true_eq, oddComponent_toNat] at h
  obtain ⟨⟨⟨left, top⟩, right⟩, bottom⟩ := h
  dsimp only
  omega

/-- A row and a column of a plane are an index of it (R204). -/
theorem plane_index_lt {x y : Int} {width height : Nat} (column : 0 ≤ x ∧ x < width) (row : 0 ≤ y ∧ y < height) :
    (y * width + x).toNat < width * height := by
  obtain ⟨i, rfl⟩ := Int.eq_ofNat_of_zero_le column.1
  obtain ⟨j, rfl⟩ := Int.eq_ofNat_of_zero_le row.1
  have below : (j + 1) * width ≤ height * width := Nat.mul_le_mul_right width (by omega)
  rw [Nat.succ_mul, Nat.mul_comm height] at below
  have index : ((j : Int) * width + i).toNat = j * width + i := by
    rw [← Int.natCast_mul, ← Int.natCast_add, Int.toNat_natCast]
  omega

/-! ### Every step -/

/-- Settles O23: every element writes inside the planes and leaves the engine at a macroblock of the picture, and no
move of the idle engine touches a sample; a prediction reads the rectangle of its range check. -/
theorem stepKeepsSamplesInPlanes : Obligations.StepKeepsSamplesInPlanes := by
  refine ⟨fun s t legal h => ?step, fun v p mh mv size h => ?reads⟩
  case step =>
    exact step_keeps_video_of_element (P := fun v => v.insidePlanes = true)
      (fun e legal => Video.delivered_insidePlanes (e.insidePlanes legal)) Video.Moves.insidePlanes h legal
  case reads =>
    intro x0 y0 x y column row
    obtain ⟨inRow, inColumn⟩ := Video.predictionInRange_reads h column row
    have left : x0 = (v.predictionOrigin mh mv size).1 := by
      simp only [x0, floor_half, Video.predictionOrigin, Nat.cast_mul]
    have top : y0 = (v.predictionOrigin mh mv size).2 := by
      simp only [y0, floor_half, Video.predictionOrigin, Nat.cast_mul]
    rw [left, top]
    exact ⟨inRow.1, inColumn.1, plane_index_lt inRow inColumn⟩

end Sys2Proof.Machine
end

section
/-! The engines never write their bit stores (R201, R215): what each reads with, the fields of a frame and the header
search among them, leaves the stored bytes as they are. -/

namespace Sys2Proof.Machine

/-! ### Readers (R402-R412) -/

@[simp] theorem BitReader.take_bytes (n : Nat) (b : BitReader) : (b.take n).bytes = b.bytes :=
  (b.take_follows n).bytes

@[simp] theorem BitReader.read_bytes (n : Nat) (b : BitReader) : (b.read n).2.bytes = b.bytes :=
  (b.read_follows n).bytes

@[simp] theorem BitReader.takeFields_bytes (l : List Nat) (b : BitReader) : (b.takeFields l).bytes = b.bytes :=
  (b.takeFields_follows l).bytes

@[simp] theorem BitReader.has_bytes (n : Nat) (b : BitReader) : (b.has n).2.bytes = b.bytes :=
  (b.has_follows n).bytes

@[simp] theorem BitReader.skipBytes_bytes (x : Byte) (b : BitReader) : (b.skipBytes x).2.bytes = b.bytes :=
  (b.skipBytes_follows x).bytes

@[simp] theorem BitReader.findFrameSync_bytes (b : BitReader) : b.findFrameSync.2.bytes = b.bytes :=
  b.findFrameSync_follows.bytes

@[simp] theorem readFactors_bytes (selector : BitVec 2) (b : BitReader) :
    (readFactors selector b).2.bytes = b.bytes := (readFactors_follows selector b).bytes

/-! ### The body of an audio frame (R1000-R1012) -/

/-- A row of steps, each of which leaves the stored bytes. -/
theorem Audio.foldl_bytes {α : Type} {f : Audio → α → Audio} (step : ∀ b x, (f b x).br.bytes = b.br.bytes)
    (l : List α) (a : Audio) : (l.foldl f a).br.bytes = a.br.bytes := by
  induction l generalizing a with
  | nil => rfl
  | cons x l ih => exact (ih _).trans (step a x)

theorem Audio.forBands_bytes (bands : List Nat) {f : Nat → Nat → Audio → Audio}
    (step : ∀ ch sb b, (f ch sb b).br.bytes = b.br.bytes) (a : Audio) : (a.forBands bands f).br.bytes = a.br.bytes :=
  foldl_bytes (fun b sb => foldl_bytes (fun c ch => step ch sb c) _ b) bands a

theorem Audio.readAllocation_bytes (channels : List Nat) (sb : Nat) (a : Audio) :
    (a.readAllocation channels sb).br.bytes = a.br.bytes :=
  (foldl_bytes (fun b ch => by rw [setAllocation_br]) channels _).trans (a.br.read_bytes _)

theorem Audio.readAllocations_bytes (a : Audio) : a.readAllocations.br.bytes = a.br.bytes := by
  unfold Audio.readAllocations
  dsimp only
  rw [foldl_bytes fun b sb => foldl_bytes (fun c ch => by rw [setAllocation_br]) [0, 1] b,
    foldl_bytes fun b sb => readAllocation_bytes [0, 1] sb b,
    forBands_bytes _ fun ch sb b => readAllocation_bytes [ch] sb b]

theorem Audio.readSelector_bytes (ch sb : Nat) (a : Audio) : (a.readSelector ch sb).br.bytes = a.br.bytes := by
  unfold Audio.readSelector
  split
  · exact a.br.read_bytes 2
  · rfl

theorem Audio.readScalefactors_bytes (ch sb : Nat) (a : Audio) :
    (a.readScalefactors ch sb).br.bytes = a.br.bytes := by
  unfold Audio.readScalefactors
  split
  · exact readFactors_bytes _ a.br
  · rfl

theorem Audio.readCodes_bytes (q : QuantClass) (a : Audio) : (a.readCodes q).2.br.bytes = a.br.bytes := by
  unfold Audio.readCodes
  dsimp only
  split
  · split <;> simp
  · simp

theorem Audio.requantizeTriple_bytes (q : QuantClass) (codes : List Nat) (ch sb part : Nat) (a : Audio) :
    (a.requantizeTriple q codes ch sb part).br.bytes = a.br.bytes := by
  unfold Audio.requantizeTriple
  dsimp only
  split <;> simp

theorem Audio.readTriple_bytes (part ch sb : Nat) (a : Audio) : (a.readTriple part ch sb).br.bytes = a.br.bytes := by
  unfold Audio.readTriple
  split
  · simp
  · exact (requantizeTriple_bytes ..).trans (readCodes_bytes _ a)

theorem Audio.readSharedTriple_bytes (part : Nat) (a : Audio) (sb : Nat) :
    (a.readSharedTriple part sb).br.bytes = a.br.bytes := by
  unfold Audio.readSharedTriple
  split
  · simp
  · rename_i q _
    have first := (requantizeTriple_bytes q (a.readCodes q).1 0 sb part (a.readCodes q).2).trans (readCodes_bytes q a)
    dsimp only
    split
    · exact first
    · split
      · exact (requantizeTriple_bytes ..).trans first
      · exact first

theorem Audio.duplicateMono_bytes (a : Audio) : a.duplicateMono.br.bytes = a.br.bytes := by
  unfold Audio.duplicateMono
  split <;> rfl

theorem Audio.decodeGranule_bytes (part : Nat) (a : Audio) (granule : Nat) :
    (a.decodeGranule part granule).br.bytes = a.br.bytes := by
  unfold Audio.decodeGranule
  dsimp only
  rw [foldl_bytes fun b k => by rw [synthesisStep_br], duplicateMono_bytes,
    foldl_bytes fun b sb => by rw [setTriple_br, setTriple_br], foldl_bytes (readSharedTriple_bytes part),
    forBands_bytes _ (readTriple_bytes part)]

theorem Audio.decodeFrame_bytes (a : Audio) : a.decodeFrame.br.bytes = a.br.bytes := by
  unfold Audio.decodeFrame
  dsimp only
  rw [BitReader.align_bytes, foldl_bytes fun b part => foldl_bytes (decodeGranule_bytes part) (List.range 4) b,
    forBands_bytes _ readScalefactors_bytes, forBands_bytes _ readSelector_bytes, readAllocations_bytes]

/-! ### Headers and their search (R901-R909) -/

theorem Audio.decodeBody_bytes (a : Audio) : a.decodeBody.br.bytes = a.br.bytes := by
  have frame (b : Audio) : ({ b.decodeFrame with nextFrameDataSize := 0 } : Audio).emitSamples.br.bytes = b.br.bytes :=
    decodeFrame_bytes b
  unfold Audio.decodeBody
  split
  · rfl
  · dsimp only
    split
    · exact (frame _).trans (a.br.has_bytes _)
    · exact a.br.has_bytes _

theorem Audio.headerRow_bytes (h : Mp2Header) (a : Audio) : (a.headerRow h).br.bytes = a.br.bytes := by
  have rejected (c : AudioCause) (b : Audio) : (b.rejectHeader c).br.bytes = b.br.bytes := rfl
  have latched (b : Audio) : (b.latchHeader h).br.bytes = b.br.bytes := rfl
  unfold Audio.headerRow
  dsimp only
  split
  · simp [rejected]
  · split
    · simp [rejected]
    · split
      · simp [rejected]
      · simp [decodeBody_bytes, latched]

theorem Audio.otherHeaderRow_bytes (h : Mp2SyncOther) (a : Audio) : (a.otherHeaderRow h).br.bytes = a.br.bytes :=
  a.br.takeFields_bytes _

/-- What a header search finds has the bytes of the store that it searched. -/
def AudioFetch.Has (bytes : List Byte) : AudioFetch → Prop
  | .row _ a => a.br.bytes = bytes
  | .ended a => a.br.bytes = bytes
  | .nothing => True

theorem headerAt_has {bytes : List Byte} {a : Audio} (h : a.br.bytes = bytes) : (headerAt a).Has bytes := by
  unfold headerAt
  split
  · exact h
  · trivial

theorem headerBehindSearch_has {bytes : List Byte} {a : Audio} (h : a.br.bytes = bytes) :
    (headerBehindSearch a).Has bytes := by
  unfold headerBehindSearch
  dsimp only
  split
  · exact headerAt_has ((a.br.has_bytes 37).trans h)
  · exact (a.br.has_bytes 37).trans h

theorem headerBehindStuffing_has {bytes : List Byte} {a : Audio} (h : a.br.bytes = bytes) :
    (headerBehindStuffing a).Has bytes := by
  have found := headerAt_has h
  unfold headerBehindStuffing
  split
  · rename_i i b row
    rw [row] at found
    dsimp only
    split
    · exact found
    · exact (b.br.has_bytes _).trans found
  · exact found

theorem fetchAudio_has (a : Audio) : (fetchAudio a).Has a.br.bytes := by
  unfold fetchAudio
  split
  · dsimp only
    split
    · exact headerBehindStuffing_has (a.br.skipBytes_bytes 0x00)
    · unfold resync
      dsimp only
      split
      · exact headerBehindSearch_has (by simp)
      · show (BitReader.findFrameSync _).2.bytes = _
        simp
  · trivial

/-- A header search, and the header it finds, leave the stored bytes. -/
theorem Audio.Becomes.bytes {a b : Audio} (h : a.Becomes b) : b.br.bytes = a.br.bytes := by
  have found := fetchAudio_has a
  cases h with
  | header m u fetched => rw [fetched] at found; exact (u.headerRow_bytes m).trans found
  | otherHeader m u fetched => rw [fetched] at found; exact (u.otherHeaderRow_bytes m).trans found
  | ended u fetched => rw [fetched] at found; exact found

theorem Audio.beginDecode_bytes (a : Audio) : a.beginDecode.br.bytes = a.br.bytes := by
  unfold Audio.beginDecode
  dsimp only
  split
  · split <;> exact BitReader.has_bytes 48 _
  · exact decodeBody_bytes _

@[simp] theorem Audio.delivered_bytes (a : Audio) : a.delivered.br.bytes = a.br.bytes := by
  unfold Audio.delivered
  split <;> rfl

/-- An ADECODE leaves the stored bytes, and the VDE. -/
theorem decodeAudio_bytes {s t : State} (h : decodeAudio s = .next t) :
    t.v = s.v ∧ t.a.br.bytes = s.a.br.bytes := by
  obtain ⟨video, audio | ⟨c, becomes, audio⟩⟩ := decodeAudio_cases h
  · exact ⟨video, by rw [audio, Audio.delivered_bytes, Audio.beginDecode_bytes]⟩
  · exact ⟨video, by rw [audio, Audio.delivered_bytes, becomes.bytes, Audio.delivered_bytes, Audio.beginDecode_bytes]⟩

/-! ### A VDECODE (R501) -/

theorem Video.beginDecode_bytes (v : Video) : v.beginDecode.br.bytes = v.br.bytes := by
  unfold Video.beginDecode
  dsimp only
  split
  · exact (pictureLoop_advances _).reader.bytes
  · exact (sequenceLoop_advances _).reader.bytes

@[simp] theorem Video.delivered_bytes (v : Video) : v.delivered.br.bytes = v.br.bytes := by
  unfold Video.delivered
  split <;> rfl

/-- A VDECODE leaves the stored bytes, and the ADE. -/
theorem decodeVideo_bytes {s t : State} (h : decodeVideo s = .next t) :
    t.v.br.bytes = s.v.br.bytes ∧ t.a = s.a := by
  refine runVideo_keeps (P := fun u => u.v.br.bytes = s.v.br.bytes ∧ u.a = s.a) (fun e p => ?_) h ?_
  · exact ⟨by simpa using e.becomes.reader.bytes.trans p.1, by simpa using p.2⟩
  · simp [Video.beginDecode_bytes]

/-! ### Every instruction -/

/-- A register write leaves the stored bytes of the ADE (R1159). -/
theorem writeAudioCsr_bytes (r : Nat) (x : Word) (a : Audio) : (writeAudioCsr r x a).br.bytes = a.br.bytes := by
  unfold writeAudioCsr
  split <;> rfl

/-- Of the host commands, only writes and rewinds change stored bytes (R203, R1302). -/
theorem Instr.OfHost.bytes {i : Instr} (host : Instr.OfHost i) {s t : State} (h : exec i s = .next t) :
    ((∀ b, i ≠ .vwrite b) → i ≠ .vrewind → t.v.br.bytes = s.v.br.bytes) ∧
      ((∀ b, i ≠ .awrite b) → i ≠ .arewind → t.a.br.bytes = s.a.br.bytes) := by
  cases host with
  | vwrite b => cases (videoCommand_next h).2; exact ⟨fun other => absurd rfl (other b), fun _ _ => rfl⟩
  | vsignalEnd => cases (videoCommand_next h).2; exact ⟨fun _ _ => rfl, fun _ _ => rfl⟩
  | vdecode =>
    obtain ⟨video, audio⟩ := decodeVideo_bytes (videoCommand_next h).2
    exact ⟨fun _ _ => video, fun _ _ => by rw [audio]⟩
  | vrewind => cases (videoCommand_next h).2; exact ⟨fun _ other => absurd rfl other, fun _ _ => rfl⟩
  | vframeRead p n => cases (videoCommand_next h).2; exact ⟨fun _ _ => rfl, fun _ _ => rfl⟩
  | awrite b => cases (audioCommand_next h).2; exact ⟨fun _ _ => rfl, fun other => absurd rfl (other b)⟩
  | asignalEnd => cases (audioCommand_next h).2; exact ⟨fun _ _ => rfl, fun _ _ => rfl⟩
  | adecode =>
    obtain ⟨video, audio⟩ := decodeAudio_bytes (audioCommand_next h).2
    exact ⟨fun _ _ => by rw [video], fun _ _ => audio⟩
  | arewind => cases (audioCommand_next h).2; exact ⟨fun _ _ => rfl, fun _ other => absurd rfl other⟩
  | asamplesRead n => cases (audioCommand_next h).2; exact ⟨fun _ _ => rfl, fun _ _ => rfl⟩
  | csrRead r => cases csrCommand_next h; exact ⟨fun _ _ => rfl, fun _ _ => rfl⟩
  | csrWrite r x =>
    have h : execCsrWrite r x s = .next t := h
    unfold execCsrWrite at h
    cases csrCommand_next h
    obtain ⟨-, -, -, -, -, -, video⟩ := writeVideoCsr_frame r x s.v
    exact ⟨fun _ _ => video, fun _ _ => writeAudioCsr_bytes r x s.a⟩

/-- Settles O27: a row reads with the primitives of its reader, which leave the bytes. -/
theorem bitStoresKeepTheirBytes : Obligations.BitStoresKeepTheirBytes := by
  intro i s t h
  rcases Instr.kinds i with host | ⟨m, rfl⟩ | ⟨m, rfl⟩ | ⟨e, effect⟩
  · exact host.bytes h
  · cases h
    exact ⟨fun _ _ => by simp, fun _ _ => by simp [Audio.headerRow_bytes]⟩
  · cases h
    exact ⟨fun _ _ => by simp, fun _ _ => by simp [Audio.otherHeaderRow_bytes]⟩
  · rw [exec_videoRow_next effect] at h
    cases h
    exact ⟨fun _ _ => by simp [(e.apply_advances s.v).reader.bytes], fun _ _ => by simp⟩

end Sys2Proof.Machine
end

section
/-! The VLC tables as codes: no codeword begins another, and each row's bits are encoded and decoded. -/

namespace Sys2Proof

open Sys2Proof.Machine

/-! ### Numbers read from the front of bits (R300, R404) -/

theorem padTake_append {n : Nat} {l : List Bool} (h : l.length = n) (rest : List Bool) :
    padTake n (l ++ rest) = l := by
  induction l generalizing n with
  | nil => cases h; rfl
  | cons b l ih => cases h; exact congrArg (b :: ·) (ih rfl)

/-- A shorter number at the front of the bits is the head of a longer one. -/
theorem natOfBits_padTake_add (m k : Nat) (bits : List Bool) :
    natOfBits (padTake m bits) = natOfBits (padTake (m + k) bits) / 2 ^ k := by
  induction k with
  | zero => simp
  | succ k ih =>
    obtain ⟨b, h⟩ := natOfBits_padTake_succ (m + k) bits
    have half : (2 * natOfBits (padTake (m + k) bits) + b.toNat) / 2 = natOfBits (padTake (m + k) bits) := by
      have := b.toNat_lt
      omega
    rw [← Nat.add_assoc, h, pow_succ', ← Nat.div_div_eq_div_mul, half, ih]

/-! ### At most one row at the front (R304) -/

/-- The codeword of one row begins the codeword of another. -/
def VlcRow.begins (r q : VlcRow) : Bool := decide (r.len ≤ q.len) && q.code / 2 ^ (q.len - r.len) == r.code

/-- Of two codewords at the front of the same bits, the shorter one begins the other. -/
theorem VlcRow.begins_of_atFront {r q : VlcRow} {bits : List Bool} (hr : r.atFront bits = true)
    (hq : q.atFront bits = true) (le : r.len ≤ q.len) : r.begins q = true := by
  have hr : natOfBits (padTake r.len bits) = r.code := by simpa [atFront] using hr
  have hq : natOfBits (padTake q.len bits) = q.code := by simpa [atFront] using hq
  have head := natOfBits_padTake_add r.len (q.len - r.len) bits
  rw [Nat.add_sub_cancel' le, hr, hq] at head
  simp [begins, le, head]

/-- Neither of two codewords begins the other. -/
def VlcRow.Apart (r q : VlcRow) : Prop := r.begins q = false ∧ q.begins r = false

theorem VlcRow.Apart.not_both_atFront {r q : VlcRow} (h : r.Apart q) {bits : List Bool}
    (hr : r.atFront bits = true) (hq : q.atFront bits = true) : False := by
  rcases Nat.le_total r.len q.len with le | le
  · exact absurd (begins_of_atFront hr hq le) (by simp [h.1])
  · exact absurd (begins_of_atFront hq hr le) (by simp [h.2])

/-- No row of a table, codeword or reserved bits, begins another (R304, R326). -/
theorem vlcTables_apart : ∀ T ∈ vlcTables, T.Pairwise VlcRow.Apart := by
  unfold VlcRow.Apart
  decide +kernel

/-- Where codewords that are apart all stand at the front of the same bits, there is one at most. -/
theorem length_le_one_of_atFront {bits : List Bool} {l : List VlcRow} (apart : l.Pairwise VlcRow.Apart)
    (front : ∀ r ∈ l, r.atFront bits = true) : l.length ≤ 1 := by
  match l with
  | [] => exact Nat.zero_le 1
  | [_] => exact le_rfl
  | r :: q :: _ =>
    have two : r.Apart q := List.rel_of_pairwise_cons apart List.mem_cons_self
    exact (two.not_both_atFront (front r (by simp)) (front q (by simp))).elim

/-- Settles O4: a row is found because the table covers all bits, and no second one because no codeword
begins another. -/
theorem vlcTablesAreComplete : Obligations.VlcTablesAreComplete := by
  intro T hT bits
  obtain ⟨r, hr, front⟩ := exists_atFront_of_covered (bits := bits) (vlcTables_covered T hT) rfl
  have one : 0 < (T.filter (·.atFront bits)).length :=
    List.length_pos_of_mem (List.mem_filter.2 ⟨hr, front⟩)
  have noMore : (T.filter (·.atFront bits)).length ≤ 1 :=
    length_le_one_of_atFront ((vlcTables_apart T hT).filter _) fun q hq => (List.mem_filter.1 hq).2
  exact le_antisymm noMore one

/-! ### The word of a row (R300, R304) -/

/-- The bits of a row: its codeword and, where it has one, the sign bit. -/
def VlcRow.bits (r : VlcRow) (sign : Bool) : List Bool :=
  bitsOfNat r.len r.code ++ if r.signed then [sign] else []

/-- A codeword fits its length, and only a signed row depends on the sign. -/
theorem vlcTables_make : ∀ T ∈ vlcTables, ∀ r ∈ T,
    r.code < 2 ^ r.len ∧ (r.signed = false → ∀ sign, r.make sign = r.make false) := by decide +kernel

/-- The encoder writes the bits of the row. -/
theorem encode_make : ∀ T ∈ vlcTables, ∀ r ∈ T, ∀ sign,
    encode (r.make sign) = .stream (r.bits sign) := by decide +kernel

/-- A row at the front of the bits is the one the walk ends on. -/
theorem find_of_atFront {T : List VlcRow} (hT : T ∈ vlcTables) {r : VlcRow} (hr : r ∈ T) {bits : List Bool}
    (front : r.atFront bits = true) : T.find? (·.atFront bits) = some r := by
  obtain ⟨q, only⟩ := List.length_eq_one_iff.1 (vlcTablesAreComplete T hT bits)
  have mem : r ∈ T.filter (·.atFront bits) := List.mem_filter.2 ⟨hr, front⟩
  rw [only, List.mem_singleton] at mem
  rw [← List.head?_filter, only, mem]
  rfl

/-- A walk over the bits of a row ends on the row, whatever bits follow (R409). -/
theorem decodeVlc_bits {T : List VlcRow} (hT : T ∈ vlcTables) {r : VlcRow} (hr : r ∈ T) (sign : Bool)
    (rest : List Bool) : decodeVlc T (r.bits sign ++ rest) = .ok (r.make sign, rest) := by
  obtain ⟨fits, unsigned⟩ := vlcTables_make T hT r hr
  have front : r.atFront (r.bits sign ++ rest) = true := by
    rw [VlcRow.atFront, VlcRow.bits, List.append_assoc, padTake_append (bitsOfNat_length _ _),
      natOfBits_bitsOfNat, Nat.mod_eq_of_lt fits]
    simp
  have behind : (r.bits sign ++ rest).drop r.len = (if r.signed then [sign] else []) ++ rest := by
    rw [VlcRow.bits, List.append_assoc, List.drop_left' (bitsOfNat_length _ _)]
  rw [decodeVlc, find_of_atFront hT hr front]
  dsimp only
  rw [behind]
  cases signed : r.signed with
  | true => simp
  | false => simp [unsigned signed sign]

/-! ### The table of a position (R304, R313, R314) -/

/-- The table a codeword is looked up in at a position; no row where no table is selected. -/
def vlcTable : SyntaxPosition → List VlcRow
  | .addressIncrement => mbaTable
  | .typeI => mbtITable
  | .typeP => mbtPTable
  | .typeB => mbtBTable
  | .codedBlockPattern => cbpTable
  | .motionCode => motionTable
  | .dcSizeY => dcYTable
  | .dcSizeC => dcCTable
  | .firstCoefficient => dctFirstTable
  | .nextCoefficient => dctNextTable
  | _ => []

theorem vlcTable_mem {p : SyntaxPosition} (h : isCodewordPosition p = true) : vlcTable p ∈ vlcTables := by
  cases p with
  | startCode | sequenceHeader | pictureHeader | sliceHeader | mp2Header => cases h
  | _ => simp [vlcTable, vlcTables]

theorem isCodewordPosition_of_mem {p : SyntaxPosition} {r : VlcRow} (h : r ∈ vlcTable p) :
    isCodewordPosition p = true := by
  cases p with
  | startCode | sequenceHeader | pictureHeader | sliceHeader | mp2Header => cases h
  | _ => rfl

/-- Every row of a position is selected there, with operands its encoding admits. -/
theorem vlcTable_rows : ∀ p, ∀ r ∈ vlcTable p, ∀ sign,
    p ∈ (r.make sign).positions ∧ (r.make sign).wellFormed = true := by
  intro p
  cases p <;> decide +kernel

/-- The escapes completed from the bits behind their codeword, which no table lists (R315). -/
def Instr.isCompletedEscape : Instr → Bool
  | .dctEscapeShort _ _ => true
  | .dctEscapeLongPos _ _ => true
  | .dctEscapeLongNeg _ _ => true
  | _ => false

/-- Every other instruction of a codeword position is a row of its table. -/
theorem Instr.exists_row (i : Instr) (table : i.isCompletedEscape = false) :
    ∀ p ∈ i.positions, isCodewordPosition p = true → ∃ r ∈ vlcTable p, ∃ sign, r.make sign = i := by
  cases i with
  | vwrite _ | vframeRead _ _ | awrite _ | asamplesRead _ | csrRead _ | csrWrite _ _ =>
    intro p host
    cases host
  | sliceStart _ | streamIdStart _ | sequenceHeader _ | pictureHeader _ | sliceHeader _ | mp2Header _
  | mp2SyncOther _ => simp [Instr.positions, isCodewordPosition]
  | dctEscapeShort _ _ | dctEscapeLongPos _ _ | dctEscapeLongNeg _ _ => cases table
  | _ => decide +kernel +revert

/-- Only table DCT has the escape (R325). -/
theorem vlcTable_escape : ∀ p, ∀ r ∈ vlcTable p, ∀ sign, r.make sign = .dctEscape →
    p = .firstCoefficient ∨ p = .nextCoefficient := by
  intro p
  cases p <;> decide +kernel

theorem decodeCoefficient_of_ne {T : List VlcRow} {bits rest : List Bool} {i : Instr}
    (d : decodeVlc T bits = .ok (i, rest)) (other : i ≠ .dctEscape) :
    decodeCoefficient T bits = .ok (i, rest) := by
  rw [decodeCoefficient, d]
  split
  · next e => cases e; exact absurd rfl other
  · rfl

theorem decodeCoefficient_of_escape {T : List VlcRow} {bits rest : List Bool}
    (d : decodeVlc T bits = .ok (.dctEscape, rest)) :
    decodeCoefficient T bits = .ok (completeEscape rest) := by
  rw [decodeCoefficient, d]

/-- At every codeword position the decoder walks the table and completes an escape (R304, R315). -/
theorem decode_eq_decodeCoefficient {p : SyntaxPosition} (h : isCodewordPosition p = true) (bits : List Bool) :
    decode p bits = decodeCoefficient (vlcTable p) bits := by
  have plain (table : ¬(p = .firstCoefficient ∨ p = .nextCoefficient)) :
      decodeCoefficient (vlcTable p) bits = decodeVlc (vlcTable p) bits := by
    obtain ⟨r, hr, sign, rest, d⟩ := decodeVlc_row (vlcTable_mem h) bits
    rw [d, decodeCoefficient_of_ne d fun escape => table (vlcTable_escape p r hr sign escape)]
  cases p with
  | startCode | sequenceHeader | pictureHeader | sliceHeader | mp2Header => cases h
  | firstCoefficient | nextCoefficient => rfl
  | _ => exact (plain (by decide)).symm

end Sys2Proof
end

section
/-! The fields of the layouts, written and read back. -/

namespace Sys2Proof

/-! ### Fields (R300, R403, R404) -/

theorem takeField_bitsOfNat (n v : Nat) (rest : List Bool) :
    takeField n (bitsOfNat n v ++ rest) = (v % 2 ^ n, rest) := by
  rw [takeField_append (bitsOfNat_length n v), natOfBits_bitsOfNat]

@[simp] theorem takeFlag_cons (b : Bool) (rest : List Bool) : takeFlag (b :: rest) = (b, rest) := by
  rw [takeFlag, ← List.singleton_append, takeField_append List.length_singleton]
  cases b <;> rfl

theorem takeBytes_flatMap (m : List Byte) (rest : List Bool) :
    takeBytes m.length (m.flatMap bitsOf ++ rest) = (m, rest) := by
  induction m with
  | nil => rfl
  | cons b m ih => simp [takeBytes, takeBits_bitsOf, ih]

/-! ### The video headers (R310-R312) -/

theorem takeMatrix_matrixBits {m : Option (List Byte)} (h : m.all (·.length == 64) = true) (rest : List Bool) :
    takeMatrix (matrixBits m ++ rest) = (m, rest) := by
  cases m with
  | none => simp [takeMatrix, matrixBits]
  | some m =>
    have h : m.length = 64 := by simpa using h
    simp [takeMatrix, matrixBits, ← h, takeBytes_flatMap]

theorem decodeSequenceHeader_bits {h : SequenceHeader} (wf : h.wellFormed = true) (rest : List Bool) :
    decodeSequenceHeader (h.bits ++ rest) = (h, rest) := by
  obtain ⟨intra, nonIntra⟩ := Bool.and_eq_true_iff.1 wf
  simp [decodeSequenceHeader, SequenceHeader.bits, takeBits_bitsOf, takeMatrix_matrixBits intra,
    takeMatrix_matrixBits nonIntra]

theorem takeVectorCodeIf_bits {c : Option VectorCode} {present : Bool} (h : (c.isSome == present) = true)
    (rest : List Bool) : takeVectorCodeIf present (vectorCodeBits c ++ rest) = (c, rest) := by
  obtain rfl := eq_of_beq h
  cases c with
  | none => rfl
  | some c => simp [takeVectorCodeIf, takeVectorCode, vectorCodeBits, takeBits_bitsOf]

theorem decodePictureHeader_bits {h : PictureHeader} (wf : h.wellFormed = true) (rest : List Bool) :
    decodePictureHeader (h.bits ++ rest) = (h, rest) := by
  obtain ⟨forward, backward⟩ := Bool.and_eq_true_iff.1 wf
  simp only [decodePictureHeader, PictureHeader.bits, List.append_assoc, takeBits_bitsOf,
    takeVectorCodeIf_bits forward, takeVectorCodeIf_bits backward]

/-- Each extra byte stands behind a 1 bit, and a 0 bit ends them (R312). -/
theorem takeExtra_bits {n : Nat} {extra : List Byte} (h : extra.length < n) (rest : List Bool) :
    takeExtra n (extra.flatMap (fun b => true :: bitsOf b) ++ false :: rest) = (extra, rest) := by
  induction extra generalizing n with
  | nil =>
    obtain ⟨n, rfl⟩ := Nat.exists_eq_add_of_lt h
    simp [takeExtra]
  | cons b extra ih =>
    obtain ⟨n, rfl⟩ : ∃ k, n = k + 1 := ⟨n - 1, by omega⟩
    simp [takeExtra, takeBits_bitsOf, ih (Nat.lt_of_succ_lt_succ h)]

/-- Extra slice information is at least as long as the number of its bytes. -/
theorem length_le_length_extraBits (extra : List Byte) :
    extra.length ≤ (extra.flatMap fun b => true :: bitsOf b).length := by
  induction extra with
  | nil => exact Nat.zero_le _
  | cons b extra ih => simp; omega

theorem decodeSliceHeader_bits (h : SliceHeader) (rest : List Bool) :
    decodeSliceHeader (h.bits ++ rest) = (h, rest) := by
  have enough : h.extra.length <
      (h.extra.flatMap (fun b => true :: bitsOf b) ++ false :: rest).length + 1 := by
    have := length_le_length_extraBits h.extra
    simp only [List.length_append]
    omega
  simp only [decodeSliceHeader, SliceHeader.bits, List.append_assoc, takeBits_bitsOf, List.singleton_append,
    takeExtra_bits enough]

/-! ### The MP2 headers (R318) -/

/-- The last four bits of an MP2 header, two flags and the emphasis, are read as one number. -/
theorem takeBits_trailer (copyright original : Bool) (emphasis : BitVec 2) :
    ∃ t, (∀ rest, takeBits 4 (copyright :: original :: (bitsOf emphasis ++ rest)) = (t, rest)) ∧
      t.getLsbD 3 = copyright ∧ t.getLsbD 2 = original ∧ t.extractLsb' 0 2 = emphasis := by
  refine ⟨BitVec.ofNat 4 (natOfBits (copyright :: original :: bitsOf emphasis)), fun rest => ?_, ?_⟩
  · rw [← List.cons_append, ← List.cons_append, takeBits, takeField_append (by simp)]
  · decide +revert

theorem decodeMp2Header_bits {h : Mp2Header} (wf : h.wellFormed = true) (rest : List Bool) :
    decodeMp2Header (h.bits ++ rest) = .ok (.mp2Header h, rest) := by
  obtain ⟨protection, bitrate, sampling, padding, privateBit, mode, extension, copyright, original,
    emphasis, crc⟩ := h
  have version (l : List Bool) : takeBits 2 (bitsOfNat 2 3 ++ l) = (3, l) := takeBits_bitsOf 3 l
  have layer (l : List Bool) : takeBits 2 (bitsOfNat 2 2 ++ l) = (2, l) := takeBits_bitsOf 2 l
  have protected_iff : crc.isSome = !protection := eq_of_beq wf
  obtain ⟨t, trailer, isCopyright, isOriginal, isEmphasis⟩ := takeBits_trailer copyright original emphasis
  simp only [decodeMp2Header, Mp2Header.bits, List.append_assoc, List.cons_append, List.nil_append,
    takeField_bitsOfNat, version, layer, takeBits_bitsOf, takeFlag_cons, trailer, isCopyright, isOriginal,
    isEmphasis]
  cases crc with
  | none =>
    obtain rfl : protection = true := by simpa using protected_iff
    rfl
  | some c =>
    obtain rfl : protection = false := by simpa using protected_iff
    simp [takeBits_bitsOf]

theorem decodeMp2Header_other {h : Mp2SyncOther} (wf : h.wellFormed = true) (rest : List Bool) :
    decodeMp2Header (h.bits ++ rest) = .ok (.mp2SyncOther h, rest) := by
  have other : (h.version == 3 && h.layer == 2) = false := Bool.not_eq_true' _ ▸ wf
  simp only [decodeMp2Header, Mp2SyncOther.bits, List.append_assoc, List.cons_append, List.nil_append,
    takeField_bitsOfNat, takeBits_bitsOf, takeFlag_cons, other]
  rfl

end Sys2Proof
end

section
/-! Decoding what was encoded. -/

namespace Sys2Proof

open Sys2Proof.Machine

/-! ### Escapes (R315, R706) -/

/-- Too few bits complete no escape. -/
theorem completeEscape_of_short {bits : List Bool} (h : bits.length < 14) :
    completeEscape bits = (.dctEscape, bits) := by
  simp [completeEscape, h]

/-- A run and a level byte that is not 0 and not 128 complete the escape. -/
theorem completeEscape_level (r : BitVec 6) {l : Byte} (h : l ≠ 0 ∧ l ≠ 128) (rest : List Bool) :
    completeEscape (bitsOf r ++ (bitsOf l ++ rest)) = (.dctEscapeShort r l, rest) := by
  have stored : ¬ (bitsOf r ++ (bitsOf l ++ rest)).length < 14 := by simp; omega
  have level : (l == 0 || l == 128) = false := by simpa using h
  simp only [completeEscape, stored, if_false, takeBits_bitsOf, level, Bool.false_eq_true]

/-- Behind a level byte 0 or 128 a second one completes the escape. -/
theorem completeEscape_levels (r : BitVec 6) {l : Byte} (h : l = 0 ∨ l = 128) (l2 : Byte)
    (rest : List Bool) :
    completeEscape (bitsOf r ++ (bitsOf l ++ (bitsOf l2 ++ rest))) =
      (if l = 0 then .dctEscapeLongPos r l2 else .dctEscapeLongNeg r l2, rest) := by
  have stored : ¬ (bitsOf r ++ (bitsOf l ++ (bitsOf l2 ++ rest))).length < 14 := by simp; omega
  have second : ¬ (bitsOf l2 ++ rest).length < 8 := by simp
  have level : (l == 0 || l == 128) = true := by simpa using h
  simp only [completeEscape, stored, if_false, takeBits_bitsOf, level, if_true, second, beq_iff_eq]

/-- Behind the escape codeword a position of table DCT completes the escape. -/
theorem decode_escape {p : SyntaxPosition} (h : p ∈ [SyntaxPosition.firstCoefficient, .nextCoefficient])
    (bits : List Bool) : decode p (bitsOfNat 6 0b000001 ++ bits) = .ok (completeEscape bits) := by
  have row : codeword 6 0b000001 0xFFFF .dctEscape ∈ vlcTable p := by
    have shared : codeword 6 0b000001 0xFFFF .dctEscape ∈ dctShared := by simp [dctShared]
    fin_cases h
    · exact List.mem_cons_of_mem _ shared
    · exact List.mem_cons_of_mem _ (List.mem_cons_of_mem _ shared)
  have h := isCodewordPosition_of_mem row
  rw [decode_eq_decodeCoefficient h]
  exact decodeCoefficient_of_escape (decodeVlc_bits (vlcTable_mem h) row false bits)

/-! ### The rows of the tables -/

/-- What the round trip says of one instruction: `Obligations.DecodeEncodeRoundTrip` says it of every
well-formed one. -/
def Instr.RoundTrips (i : Instr) : Prop :=
  match encode i with
  | .command c => i.positions = [] ∧ decodeHost c = .ok i
  | .stream bits =>
    i.positions ≠ [] ∧
    ∀ p ∈ i.positions, ∀ rest : List Bool,
      (i ≠ .dctEscape ∨ rest.length < 14) → decode p (bits ++ rest) = .ok (i, rest)

theorem Instr.RoundTrips.of_command {i : Instr} {c : HostCommand} (enc : encode i = .command c)
    (host : i.positions = []) (d : decodeHost c = .ok i) : i.RoundTrips := by
  rw [RoundTrips, enc]
  exact ⟨host, d⟩

theorem Instr.RoundTrips.of_stream {i : Instr} {bits : List Bool} (enc : encode i = .stream bits)
    (row : i.positions ≠ [])
    (d : ∀ p ∈ i.positions, ∀ rest, (i ≠ .dctEscape ∨ rest.length < 14) →
      decode p (bits ++ rest) = .ok (i, rest)) :
    i.RoundTrips := by
  rw [RoundTrips, enc]
  exact ⟨row, d⟩

/-- A row of a VLC table comes back; the escape codeword where too few bits follow to complete it. -/
theorem decode_vlcRow {p : SyntaxPosition} {r : VlcRow} (hr : r ∈ vlcTable p) (sign : Bool) {rest : List Bool}
    (bare : r.make sign ≠ .dctEscape ∨ rest.length < 14) :
    decode p (r.bits sign ++ rest) = .ok (r.make sign, rest) := by
  have h := isCodewordPosition_of_mem hr
  have d := decodeVlc_bits (vlcTable_mem h) hr sign rest
  rw [decode_eq_decodeCoefficient h]
  by_cases escape : r.make sign = .dctEscape
  · rw [escape] at d bare ⊢
    rw [decodeCoefficient_of_escape d, completeEscape_of_short (bare.resolve_left (absurd rfl))]
  · exact decodeCoefficient_of_ne d escape

theorem Instr.RoundTrips.of_codeword {i : Instr} (table : i.isCompletedEscape = false)
    (row : i.positions ≠ []) (codeword : ∀ p ∈ i.positions, isCodewordPosition p = true) : i.RoundTrips := by
  have encoded {p} {r : VlcRow} (hr : r ∈ vlcTable p) (sign : Bool) :=
    encode_make _ (vlcTable_mem (isCodewordPosition_of_mem hr)) r hr sign
  have rows := fun p hp => i.exists_row table p hp (codeword p hp)
  obtain ⟨q, hq⟩ := List.exists_mem_of_ne_nil _ row
  obtain ⟨r, hr, sign, made⟩ := rows q hq
  refine .of_stream (made ▸ encoded hr sign) row fun p hp rest bare => ?_
  obtain ⟨r', hr', sign', rfl⟩ := rows p hp
  have same : r.bits sign = r'.bits sign' := by
    simpa [made, encoded hr' sign'] using (encoded hr sign).symm
  rw [same]
  exact decode_vlcRow hr' sign' bare

/-! ### The rows with a layout -/

/-- A row whose bits come back at its one position. -/
theorem Instr.RoundTrips.of_position {i : Instr} {bits : List Bool} {p : SyntaxPosition}
    (enc : encode i = .stream bits) (row : i.positions = [p])
    (d : ∀ rest, decode p (bits ++ rest) = .ok (i, rest)) : i.RoundTrips := by
  refine .of_stream enc (by simp [row]) fun q hq rest _ => ?_
  obtain rfl : q = p := by simpa [row] using hq
  exact d rest

theorem Instr.RoundTrips.of_startCode {i : Instr} {x : Byte} (enc : encode i = .stream (startCodeBits x))
    (row : i.positions = [.startCode]) (value : startCodeInstr x = i) : i.RoundTrips :=
  .of_position enc row fun rest => value ▸ decode_startCodeBits x rest

/-- A completed escape comes back at both positions of table DCT. -/
theorem Instr.RoundTrips.of_escape {i : Instr} {bits : List Bool}
    (enc : encode i = .stream (bitsOfNat 6 0b000001 ++ bits))
    (row : i.positions = [.firstCoefficient, .nextCoefficient])
    (d : ∀ rest, completeEscape (bits ++ rest) = (i, rest)) : i.RoundTrips := by
  refine .of_stream enc (by simp [row]) fun p hp rest _ => ?_
  rw [List.append_assoc, decode_escape (row ▸ hp), d]

theorem startCodeInstr_slice {x : Byte} (h : 1 ≤ x.toNat) (h' : x.toNat ≤ 0xAF) :
    startCodeInstr x = .sliceStart x := by
  have nonzero : x ≠ 0x00 := by rintro rfl; contradiction
  rw [startCodeInstr, if_neg nonzero, if_pos h']

theorem startCodeInstr_streamId {x : Byte} (h : 0xBC ≤ x.toNat) : startCodeInstr x = .streamIdStart x := by
  have nonzero : x ≠ 0x00 := by rintro rfl; contradiction
  rw [startCodeInstr, if_neg nonzero, if_neg (by omega), if_pos h]

/-! ### Every instruction -/

/-- Settles O2: a command by its code, a row of a layout field by field, a row of a table because no codeword
begins another. -/
theorem decodeEncodeRoundTrip : Obligations.DecodeEncodeRoundTrip := by
  intro i wf
  change i.RoundTrips
  cases i with
  | vwrite b | vsignalEnd | vdecode | vrewind | vframeRead p n | awrite b | asignalEnd | adecode | arewind
  | asamplesRead n | csrRead r => exact .of_command rfl rfl rfl
  | csrWrite r x => exact .of_command rfl rfl (by simp [decodeHost])
  | pictureStart | userDataStart | sequenceHeaderStart | sequenceError | extensionStart | sequenceEnd
  | groupStart | reservedB0 | reservedB1 | reservedB6 | iso11172End | packStart | systemHeaderStart =>
    exact .of_startCode rfl rfl rfl
  | sliceStart x =>
    obtain ⟨low, high⟩ : 1 ≤ x.toNat ∧ x.toNat ≤ 0xAF := by simpa [Instr.wellFormed] using wf
    exact .of_startCode rfl rfl (startCodeInstr_slice low high)
  | streamIdStart x => exact .of_startCode rfl rfl (startCodeInstr_streamId (of_decide_eq_true wf))
  | sequenceHeader h =>
    exact .of_position rfl rfl fun rest => by rw [decode, decodeSequenceHeader_bits wf]
  | pictureHeader h =>
    exact .of_position rfl rfl fun rest => by rw [decode, decodePictureHeader_bits wf]
  | sliceHeader h => exact .of_position rfl rfl fun rest => by rw [decode, decodeSliceHeader_bits]
  | mp2Header h => exact .of_position rfl rfl fun rest => decodeMp2Header_bits wf rest
  | mp2SyncOther h => exact .of_position rfl rfl fun rest => decodeMp2Header_other wf rest
  | dctEscapeShort r l =>
    have level : l ≠ 0 ∧ l ≠ 128 := by simpa [Instr.wellFormed] using wf
    refine .of_escape (bits := bitsOf r ++ bitsOf l) (by simp [encode]) rfl fun rest => ?_
    simpa only [List.append_assoc] using completeEscape_level r level rest
  | dctEscapeLongPos r l =>
    refine .of_escape (bits := bitsOf r ++ (bitsOf (0 : Byte) ++ bitsOf l))
      (by simp [encode, bitsOf]) rfl fun rest => ?_
    rw [List.append_assoc, List.append_assoc]
    exact completeEscape_levels r (.inl rfl) l rest
  | dctEscapeLongNeg r l =>
    refine .of_escape (bits := bitsOf r ++ (bitsOf (128 : Byte) ++ bitsOf l))
      (by simp [encode, bitsOf]) rfl fun rest => ?_
    rw [List.append_assoc, List.append_assoc]
    exact completeEscape_levels r (.inr rfl) l rest
  | _ => exact .of_codeword rfl (by simp [Instr.positions]) (by simp [Instr.positions, isCodewordPosition])

end Sys2Proof
end

section
/-! What the decoder answers: a row of its position, and a tail of the bits. -/

namespace Sys2Proof

open Sys2Proof.Machine

/-! ### A field leaves a tail of the bits (R403) -/

theorem takeField_suffix (n : Nat) (bits : List Bool) : (takeField n bits).2 <:+ bits := by
  unfold takeField
  split
  · exact List.drop_suffix n bits
  · exact List.suffix_rfl

theorem takeBits_suffix (n : Nat) (bits : List Bool) : (takeBits n bits).2 <:+ bits := takeField_suffix n bits

theorem takeFlag_suffix (bits : List Bool) : (takeFlag bits).2 <:+ bits := takeField_suffix 1 bits

theorem takeBytes_suffix (n : Nat) (bits : List Bool) : (takeBytes n bits).2 <:+ bits := by
  induction n generalizing bits with
  | zero => exact List.suffix_rfl
  | succ n ih => exact (ih _).trans (takeBits_suffix 8 bits)

theorem takeBytes_length (n : Nat) (bits : List Bool) : (takeBytes n bits).1.length = n := by
  induction n generalizing bits with
  | zero => rfl
  | succ n ih => exact congrArg (· + 1) (ih _)

/-! ### The layouts (R310-R312, R318) -/

theorem takeMatrix_suffix (bits : List Bool) : (takeMatrix bits).2 <:+ bits := by
  simp only [takeMatrix]
  split
  · dsimp only
    exact (takeBytes_suffix 64 _).trans (takeFlag_suffix bits)
  · exact takeFlag_suffix bits

/-- A matrix that is loaded has 64 entries. -/
theorem takeMatrix_length (bits : List Bool) : (takeMatrix bits).1.all (·.length == 64) = true := by
  simp only [takeMatrix]
  split
  · simp [takeBytes_length]
  · rfl

theorem decodeSequenceHeader_suffix (bits : List Bool) : (decodeSequenceHeader bits).2 <:+ bits := by
  dsimp only [decodeSequenceHeader]
  exact (takeMatrix_suffix _).trans <| (takeMatrix_suffix _).trans <| (takeFlag_suffix _).trans <|
    (takeBits_suffix 10 _).trans <| (takeFlag_suffix _).trans <| (takeBits_suffix 18 _).trans <|
    (takeBits_suffix 4 _).trans <| (takeBits_suffix 4 _).trans <| (takeBits_suffix 12 _).trans <|
    takeBits_suffix 12 bits

theorem decodeSequenceHeader_wellFormed (bits : List Bool) : (decodeSequenceHeader bits).1.wellFormed = true := by
  dsimp only [decodeSequenceHeader, SequenceHeader.wellFormed]
  exact Bool.and_eq_true_iff.2 ⟨takeMatrix_length _, takeMatrix_length _⟩

theorem takeVectorCodeIf_suffix (present : Bool) (bits : List Bool) :
    (takeVectorCodeIf present bits).2 <:+ bits := by
  cases present with
  | false => exact List.suffix_rfl
  | true => exact (takeBits_suffix 3 _).trans (takeFlag_suffix bits)

theorem takeVectorCodeIf_isSome (present : Bool) (bits : List Bool) :
    (takeVectorCodeIf present bits).1.isSome = present := by
  cases present <;> rfl

theorem decodePictureHeader_suffix (bits : List Bool) : (decodePictureHeader bits).2 <:+ bits := by
  dsimp only [decodePictureHeader]
  exact (takeVectorCodeIf_suffix _ _).trans <| (takeVectorCodeIf_suffix _ _).trans <|
    (takeBits_suffix 16 _).trans <| (takeBits_suffix 3 _).trans <| takeBits_suffix 10 bits

theorem decodePictureHeader_wellFormed (bits : List Bool) : (decodePictureHeader bits).1.wellFormed = true := by
  dsimp only [decodePictureHeader, PictureHeader.wellFormed]
  exact Bool.and_eq_true_iff.2
    ⟨beq_iff_eq.2 (takeVectorCodeIf_isSome _ _), beq_iff_eq.2 (takeVectorCodeIf_isSome _ _)⟩

theorem takeExtra_suffix (n : Nat) (bits : List Bool) : (takeExtra n bits).2 <:+ bits := by
  induction n generalizing bits with
  | zero => exact List.suffix_rfl
  | succ n ih =>
    unfold takeExtra
    dsimp only
    split
    · exact (ih _).trans <| (takeBits_suffix 8 _).trans <| takeFlag_suffix bits
    · exact takeFlag_suffix bits

theorem decodeSliceHeader_suffix (bits : List Bool) : (decodeSliceHeader bits).2 <:+ bits := by
  dsimp only [decodeSliceHeader]
  exact (takeExtra_suffix _ _).trans (takeBits_suffix 5 bits)

/-- The row that an answer of the decoder holds: selected at the position, with operands its encoding admits, and a
tail of the bits behind it. -/
structure RowAt (p : SyntaxPosition) (bits : List Bool) (i : Instr) (rest : List Bool) : Prop where
  position : p ∈ i.positions
  operands : i.wellFormed = true
  tail : rest <:+ bits

theorem decodeMp2Header_rowAt {bits rest : List Bool} {i : Instr} (d : decodeMp2Header bits = .ok (i, rest)) :
    RowAt .mp2Header bits i rest := by
  have lead := (takeFlag_suffix _).trans <| (takeBits_suffix 2 _).trans <| (takeBits_suffix 2 _).trans <|
    takeField_suffix 11 bits
  unfold decodeMp2Header at d
  dsimp only at d
  split at d
  · cases d
  · split at d
    · have fields := (takeBits_suffix 4 _).trans <| (takeBits_suffix 2 _).trans <| (takeBits_suffix 2 _).trans <|
        (takeFlag_suffix _).trans <| (takeFlag_suffix _).trans <| (takeBits_suffix 2 _).trans <|
        (takeBits_suffix 4 _).trans lead
      simp only [Except.ok.injEq, Prod.mk.injEq] at d
      obtain ⟨rfl, rfl⟩ := d
      refine ⟨List.mem_singleton_self _, ?_, ?_⟩
      · simp only [Instr.wellFormed, Mp2Header.wellFormed]
        split
        · next absent => simp [absent]
        · next present => simp [present]
      · split
        · dsimp only
          exact fields
        · dsimp only
          exact (takeBits_suffix 16 _).trans fields
    · next accepted =>
      simp only [Except.ok.injEq, Prod.mk.injEq] at d
      obtain ⟨rfl, rfl⟩ := d
      exact ⟨List.mem_singleton_self _, Bool.not_eq_true' _ ▸ Bool.eq_false_of_not_eq_true accepted,
        (takeBits_suffix 16 _).trans lead⟩

/-! ### Start codes (R302) -/

theorem startCodeInstr_row (x : Byte) :
    .startCode ∈ (startCodeInstr x).positions ∧ (startCodeInstr x).wellFormed = true := by
  decide +kernel +revert

theorem decodeStartCode_rowAt {bits rest : List Bool} {i : Instr} (d : decodeStartCode bits = .ok (i, rest)) :
    RowAt .startCode bits i rest := by
  unfold decodeStartCode at d
  dsimp only at d
  split at d
  · cases d
    obtain ⟨position, operands⟩ := startCodeInstr_row (takeBits 8 (takeField 24 bits).2).1
    exact ⟨position, operands, (takeBits_suffix 8 _).trans (takeField_suffix 24 bits)⟩
  · cases d

/-! ### Codewords (R304, R315) -/

/-- A walk ends on a row of the table and leaves the bits behind it. -/
theorem decodeVlc_row_suffix {T : List VlcRow} {bits rest : List Bool} {i : Instr}
    (d : decodeVlc T bits = .ok (i, rest)) : (∃ r ∈ T, ∃ sign, r.make sign = i) ∧ rest <:+ bits := by
  unfold decodeVlc at d
  split at d
  · cases d
  · next r found =>
    have hr := List.mem_of_find?_eq_some found
    dsimp only at d
    split at d
    · cases d
      exact ⟨⟨r, hr, _, rfl⟩, (List.drop_suffix _ _).trans (List.drop_suffix _ _)⟩
    · cases d
      exact ⟨⟨r, hr, _, rfl⟩, List.drop_suffix _ _⟩

theorem completeEscape_rowAt {p : SyntaxPosition} (h : p ∈ Instr.dctEscape.positions) (bits : List Bool) :
    RowAt p bits (completeEscape bits).1 (completeEscape bits).2 := by
  have level := (takeBits_suffix 8 _).trans (takeBits_suffix 6 bits)
  unfold completeEscape
  dsimp only
  split
  · exact ⟨h, rfl, List.suffix_rfl⟩
  · split
    · split
      · exact ⟨h, rfl, List.suffix_rfl⟩
      · refine ⟨?_, ?_, (takeBits_suffix 8 _).trans level⟩
        · split <;> exact h
        · split <;> rfl
    · next short => exact ⟨h, by simpa [Instr.wellFormed] using short, level⟩

theorem decode_codeword_rowAt {p : SyntaxPosition} (h : isCodewordPosition p = true) {bits rest : List Bool}
    {i : Instr} (d : decode p bits = .ok (i, rest)) : RowAt p bits i rest := by
  rw [decode_eq_decodeCoefficient h, decodeCoefficient] at d
  split at d
  · next tail walk =>
    obtain ⟨⟨r, hr, sign, made⟩, behind⟩ := decodeVlc_row_suffix walk
    have row := completeEscape_rowAt (made ▸ (vlcTable_rows p r hr sign).1) tail
    rw [Except.ok.inj d] at row
    exact ⟨row.position, row.operands, row.tail.trans behind⟩
  · obtain ⟨⟨r, hr, sign, rfl⟩, behind⟩ := decodeVlc_row_suffix d
    obtain ⟨position, operands⟩ := vlcTable_rows p r hr sign
    exact ⟨position, operands, behind⟩

/-- Settles O3: a layout by its fields, a codeword by the rows of its table. -/
theorem decodedRowsAreWellFormed : Obligations.DecodedRowsAreWellFormed := by
  intro p bits rest i d
  suffices RowAt p bits i rest from ⟨this.position, this.operands, this.tail⟩
  cases p with
  | startCode => exact decodeStartCode_rowAt d
  | sequenceHeader =>
    simp only [decode, Except.ok.injEq, Prod.mk.injEq] at d
    obtain ⟨rfl, rfl⟩ := d
    exact ⟨List.mem_singleton_self _, decodeSequenceHeader_wellFormed bits, decodeSequenceHeader_suffix bits⟩
  | pictureHeader =>
    simp only [decode, Except.ok.injEq, Prod.mk.injEq] at d
    obtain ⟨rfl, rfl⟩ := d
    exact ⟨List.mem_singleton_self _, decodePictureHeader_wellFormed bits, decodePictureHeader_suffix bits⟩
  | sliceHeader =>
    simp only [decode, Except.ok.injEq, Prod.mk.injEq] at d
    obtain ⟨rfl, rfl⟩ := d
    exact ⟨List.mem_singleton_self _, rfl, decodeSliceHeader_suffix bits⟩
  | mp2Header => exact decodeMp2Header_rowAt d
  | _ => exact decode_codeword_rowAt rfl d

end Sys2Proof
end

section
/-! Words written out, and reserved bits. -/

namespace Sys2Proof

open Sys2Proof.Machine

/-- A well-formed row other than the bare escape comes back from the word that is its encoding. -/
theorem decode_encode {i : Instr} {bits : List Bool} {p : SyntaxPosition} (enc : encode i = .stream bits)
    (wf : i.wellFormed = true) (row : p ∈ i.positions) (other : i ≠ .dctEscape) :
    decode p bits = .ok (i, []) := by
  have back := decodeEncodeRoundTrip i wf
  rw [enc] at back
  simpa using back.2 p row [] (.inl other)

/-- Settles O1: every word written out is the encoding of its row, which decodes to the row. -/
theorem writtenWordsDecode : Obligations.WrittenWordsDecode := by
  refine ⟨rfl, rfl, ?_, ?_, ?_, ?_, ?_, ?_, ?_, ?_, ?_, ?_, ?_, ?_, ?_, ?_, ?_, ?_, ?_⟩
  all_goals exact decode_encode rfl rfl (by decide) (by decide)

/-- Settles O50: the walk has consumed the reserved bits, and the engine goes on at the next slice. -/
theorem reservedPrefixes : Obligations.ReservedPrefixes := by
  intro T hT r hr reserved s
  have position : (s.v.reservedRow r.len).pos = .sliceSearch := rfl
  rw [exec_videoRow_next (reserved_rows T hT r hr reserved)]
  exact congrArg _ (deliverVideo_of_unfinished (position ▸ by decide))

end Sys2Proof
end

section
/-! The bit reader's primitives, each with what it answers and the reader after it (R402-R412). -/

namespace Sys2Proof

/-! ### Bits as numbers (R8, R300) -/

/-- A number is not 0 where one of its bits is set. -/
theorem natOfBits_ne_zero_iff (bits : List Bool) : natOfBits bits ≠ 0 ↔ true ∈ bits := by
  induction bits with
  | nil => simp [natOfBits]
  | cons b bits ih =>
    rw [natOfBits_cons]
    cases b with
    | false => simpa using ih
    | true => simp

end Sys2Proof

namespace Sys2Proof.Machine

/-! ### has, peek_nonzero and read (R402-R404) -/

/-- A `has` that fails has its two effects (R402). -/
theorem BitReader.has_of_lt {n : Nat} {b : BitReader} (h : b.avail < n) : b.has n = (false, b.short) := by
  rw [BitReader.has, if_neg (by omega)]

/-- Inside the store, the bits are left that end before the store does (R400). -/
theorem BitReader.le_avail_iff {b : BitReader} (h : b.cursorInStore = true) (n : Nat) :
    n ≤ b.avail ↔ b.bitIndex + n ≤ 8 * b.bytes.length := by
  rw [cursorInStore_iff] at h
  rw [BitReader.avail, BitReader.length]
  omega

theorem BitReader.mem_bitsFrom (b : BitReader) (x : Bool) (k n : Nat) :
    x ∈ b.bitsFrom k n ↔ ∃ j < n, b.bitAt (k + j) = x := by
  induction n generalizing k with
  | zero => simp [BitReader.bitsFrom]
  | succ n ih =>
    rw [BitReader.bitsFrom, List.mem_cons, ih, Nat.exists_lt_succ_left]
    simp only [Nat.add_zero, eq_comm (a := x), Nat.add_assoc, Nat.add_comm 1]

/-- What `peek_nonzero` answers (R404). -/
theorem BitReader.peekNonzero_iff (n : Nat) (b : BitReader) :
    (b.peekNonzero n).1 = true ↔ n ≤ b.avail ∧ ∃ j < n, b.bitAt (b.bitIndex + j) = true := by
  have answer : (b.peekNonzero n).1 = ((b.has n).1 && natOfBits (b.bitsFrom b.bitIndex n) != 0) := rfl
  rw [answer, Bool.and_eq_true, has_fst, decide_eq_true_iff, bne_iff_ne, natOfBits_ne_zero_iff,
    mem_bitsFrom]

/-- A stream bit as a number (R201). -/
theorem BitReader.bitAt_toNat (b : BitReader) (k : Nat) :
    (b.bitAt k).toNat = (b.byteAt (k / 8)).toNat / 2 ^ (7 - k % 8) % 2 := by
  rw [BitReader.bitAt, ← BitVec.testBit_toNat, Nat.toNat_testBit]

/-- The number of a field is the sum of its bits, each at its place, first bit most significant (R403). -/
theorem BitReader.natOfBits_bitsFrom (b : BitReader) (k n : Nat) :
    natOfBits (b.bitsFrom k n) =
      ((List.range n).map fun j => (b.bitAt (k + j)).toNat * 2 ^ (n - 1 - j)).sum := by
  induction n generalizing k with
  | zero => rfl
  | succ n ih =>
    have later : ∀ j, n + 1 - 1 - (j + 1) = n - 1 - j := by omega
    rw [BitReader.bitsFrom, natOfBits_cons, ih, bitsFrom_length, List.range_succ_eq_map, List.map_cons,
      List.sum_cons, List.map_map]
    simp only [Function.comp_def, Nat.succ_eq_add_one, later, Nat.add_assoc, Nat.add_comm 1]
    rfl

/-- A field that is stored (R403). -/
theorem BitReader.read_of_le {n : Nat} {b : BitReader} (h : n ≤ b.avail) :
    b.read n = (natOfBits (b.bitsFrom b.bitIndex n), { b with bitIndex := b.bitIndex + n }) := by
  rw [BitReader.read, if_pos h, take_of_le h]

/-- A `read` or `skip` that under-runs leaves the cursor (R403, R406). -/
theorem BitReader.take_of_lt {n : Nat} {b : BitReader} (h : b.avail < n) :
    b.take n = { b.short with underrun := true } := by
  rw [BitReader.take, if_neg (by omega), if_neg (by omega)]

/-- A field that is not stored whole reads as 0 (R403). -/
theorem BitReader.read_of_lt {n : Nat} {b : BitReader} (h : b.avail < n) :
    b.read n = (0, { b.short with underrun := true }) := by
  rw [BitReader.read, if_neg (by omega), take_of_lt h]

/-- Settles O7: each answer by whether the bits are stored, and a field as the sum of its bits. -/
theorem hasPeekAndReadRules : Obligations.HasPeekAndReadRules := by
  refine ⟨⟨fun n b _ => rfl, ?peek⟩, ?read⟩
  case peek =>
    intro n b inStore _ _
    refine ⟨?_, b.peekNonzero_snd n, ?_⟩
    · rw [BitReader.peekNonzero_iff, BitReader.le_avail_iff inStore]
      rfl
    · rw [BitReader.peekNonzero_snd, BitReader.has_bitIndex]
  case read =>
    intro n b inStore _ bit
    split
    next zero => subst zero; rfl
    next =>
      split
      next stored =>
        rw [BitReader.read_of_le ((BitReader.le_avail_iff inStore n).2 stored),
          BitReader.natOfBits_bitsFrom]
        simp only [BitReader.bitAt_toNat]
        rfl
      next beyond =>
        have less : b.avail < n := by
          rwa [← not_le, BitReader.le_avail_iff inStore]
        rw [BitReader.read_of_lt less]
        rfl

end Sys2Proof.Machine
end

section
/-! Moving on by bytes: `skip_bytes` and the search for an MP2 syncword (R405, R406, R412). -/

namespace Sys2Proof.Machine

/-! ### skip_bytes (R406) -/

/-- Byte `i` and the `m - 1` behind it are stored where their bits are left at byte `i` (R400). -/
theorem BitReader.byte_le_avail_iff {b : BitReader} {i m : Nat} (h : b.bitIndex = 8 * i) (pos : 0 < m) :
    8 * m ≤ b.avail ↔ i + m ≤ b.bytes.length := by
  rw [BitReader.avail, BitReader.length, h]
  omega

/-- What `skip_bytes(v)` gives from byte `i` on: the bytes skipped are all those equal to `v`, and the loop
ends with a `has(8)` behind them (R406). -/
structure BitReader.SkipsEqual (b : BitReader) (v : Byte) (i : Nat) (r : Nat × BitReader) : Prop where
  inStore : i + r.1 ≤ b.bytes.length
  equal : ∀ j < r.1, b.byteAt (i + j) = v
  stops : i + r.1 < b.bytes.length → b.byteAt (i + r.1) ≠ v
  reader : r.2 = ({ b with bitIndex := 8 * (i + r.1) }.has 8).2

/-- A loop that stops at its first byte has skipped none. -/
theorem BitReader.SkipsEqual.none {b : BitReader} {v : Byte} {i : Nat} (inStore : i ≤ b.bytes.length)
    (stops : i < b.bytes.length → b.byteAt i ≠ v) :
    b.SkipsEqual v i (0, ({ b with bitIndex := 8 * i }.has 8).2) :=
  ⟨inStore, fun j hj => absurd hj (Nat.not_lt_zero j), stops, rfl⟩

/-- One more byte skipped at the front. -/
theorem BitReader.SkipsEqual.cons {b c : BitReader} {v : Byte} {i n : Nat} (first : b.byteAt i = v)
    (h : b.SkipsEqual v (i + 1) (n, c)) : b.SkipsEqual v i (n + 1, c) := by
  obtain ⟨inStore, equal, stops, reader⟩ := h
  have place : ∀ j, i + (j + 1) = i + 1 + j := by omega
  refine ⟨by dsimp only at inStore ⊢; omega, fun j hj => ?_, ?_, ?_⟩
  · cases j with
    | zero => exact first
    | succ j => exact place j ▸ equal j (Nat.lt_of_succ_lt_succ hj)
  · exact (place n).symm ▸ stops
  · exact (place n).symm ▸ reader

/-- The loop of `skip_bytes` with the cursor on byte `i` (R406). -/
theorem BitReader.skipEqual_skips {v : Byte} {k i : Nat} {b : BitReader} (inStore : i ≤ b.bytes.length)
    (room : b.bytes.length < i + k) :
    b.SkipsEqual v i (BitReader.skipEqual v k { b with bitIndex := 8 * i }) := by
  induction k generalizing i with
  | zero => omega
  | succ k ih =>
    have left := byte_le_avail_iff (b := { b with bitIndex := 8 * i }) (m := 1) rfl Nat.one_pos
    have here : BitReader.byteAt { b with bitIndex := 8 * i } (8 * i / 8) = b.byteAt i := by
      rw [Nat.mul_div_cancel_left i (by omega)]
      rfl
    simp only [BitReader.skipEqual, here]
    by_cases stored : i + 1 ≤ b.bytes.length
    · rw [has_snd_of_le (left.2 stored), Bool.true_and]
      by_cases e : b.byteAt i = v
      · rw [if_pos (beq_iff_eq.2 e)]
        exact .cons e (ih stored (by omega))
      · rw [if_neg (by simpa using e)]
        have stop := SkipsEqual.none (v := v) inStore fun _ => e
        rwa [has_snd_of_le (left.2 stored)] at stop
    · rw [has_of_lt (not_le.1 (mt left.1 stored)), Bool.false_and, if_neg Bool.false_ne_true]
      have stop := SkipsEqual.none (v := v) inStore fun h => absurd h stored
      rwa [has_of_lt (not_le.1 (mt left.1 stored))] at stop

/-- `skip_bytes` aligns, and skips from there (R406). -/
theorem BitReader.skipBytes_skips (v : Byte) {b : BitReader} (h : b.cursorInStore = true) :
    b.SkipsEqual v ((b.bitIndex + 7) / 8) (b.skipBytes v) := by
  rw [cursorInStore_iff] at h
  exact skipEqual_skips (by omega) (by rw [BitReader.length]; omega)

/-! ### find_frame_sync (R412) -/

/-- Bytes `i` and `i + 1` are stored, and an MP2 syncword (R412). -/
def BitReader.SyncStored (b : BitReader) (i : Nat) : Prop :=
  i + 1 < b.bytes.length ∧ b.bytes.getD i 0 = 0xFF ∧ b.bytes.getD (i + 1) 0 &&& 0xFE = 0xFC

theorem BitReader.syncStored_iff (b : BitReader) (i : Nat) :
    b.SyncStored i ↔ i + 1 < b.bytes.length ∧ b.frameSyncAt i = true := by
  simp [BitReader.SyncStored, BitReader.frameSyncAt, BitReader.byteAt]

/-- A byte at which no syncword stands is passed over (R412). -/
theorem BitReader.syncFrom_succ {b : BitReader} {i : Nat} (k : Nat) (stored : i + 1 < b.bytes.length)
    (other : ¬ b.SyncStored i) : b.syncFrom (k + 1) i = b.syncFrom k (i + 1) := by
  have no : ¬ b.frameSyncAt i = true := fun h => other ((b.syncStored_iff i).2 ⟨stored, h⟩)
  rw [BitReader.syncFrom, if_neg (by rw [BitReader.length]; omega), if_neg no]

/-- The loop of `find_frame_sync` stops at the first syncword (R412). -/
theorem BitReader.syncFrom_of_first {b : BitReader} {k i j : Nat} (room : b.bytes.length ≤ i + k)
    (from_ : i ≤ j) (here : b.SyncStored j) (first : ∀ m, i ≤ m → m < j → ¬ b.SyncStored m) :
    b.syncFrom k i = some j := by
  obtain ⟨stored, sync⟩ := (b.syncStored_iff j).1 here
  induction k generalizing i with
  | zero => omega
  | succ k ih =>
    rcases from_.eq_or_lt with rfl | before
    · rw [BitReader.syncFrom, if_neg (by rw [BitReader.length]; omega), if_pos sync]
    · rw [syncFrom_succ k (by omega) (first i le_rfl before)]
      exact ih (by omega) before fun m hm => first m (by omega)

/-- Without a syncword the loop answers none (R412). -/
theorem BitReader.syncFrom_of_none {b : BitReader} {k i : Nat} (h : ∀ m, i ≤ m → ¬ b.SyncStored m) :
    b.syncFrom k i = none := by
  cases e : b.syncFrom k i with
  | none => rfl
  | some j =>
    obtain ⟨from_, stored, sync⟩ := syncFrom_spec e
    exact absurd ((b.syncStored_iff j).2 ⟨stored, sync⟩) (h j from_)

/-- `find_frame_sync` that finds a syncword (R412). -/
theorem BitReader.findFrameSync_of_first {b : BitReader} {i : Nat} (from_ : b.bitIndex / 8 ≤ i)
    (here : b.SyncStored i) (first : ∀ j, b.bitIndex / 8 ≤ j → j < i → ¬ b.SyncStored j) :
    b.findFrameSync = (true, { b with bitIndex := 8 * (i + 1) + 3 }) := by
  rw [BitReader.findFrameSync, syncFrom_of_first (k := b.length) (Nat.le_add_left _ _) from_ here first]

/-- `find_frame_sync` that finds none (R412). -/
theorem BitReader.findFrameSync_of_none {b : BitReader}
    (h : ∀ i, b.bitIndex / 8 ≤ i → ¬ b.SyncStored i) :
    b.findFrameSync =
      (false, if b.bytes = [] then b
        else { b with bitIndex := max b.bitIndex (8 * (b.bytes.length - 1)) }) := by
  have empty : ¬ 1 ≤ b.length ↔ b.bytes = [] := by
    rw [BitReader.length, not_le, Nat.lt_one_iff, List.length_eq_zero_iff]
  rw [BitReader.findFrameSync, syncFrom_of_none h]
  by_cases e : b.bytes = []
  · simp only [if_pos e, if_neg (empty.2 e)]
  · simp only [if_neg e, if_pos (not_not.1 (mt empty.1 e))]
    rfl

/-- Settles O8: the loop of `skip_bytes` byte by byte, and the first syncword of the store. -/
theorem alignSkipAndSyncRules : Obligations.AlignSkipAndSyncRules := by
  refine ⟨fun b inStore => ⟨rfl, ?aligned, ?skip, ?skipBytes⟩, ?sync⟩
  case aligned =>
    intro aligned
    have same : 8 * ((b.bitIndex + 7) / 8) = b.bitIndex := by omega
    rw [BitReader.align, same]
  case skip =>
    intro n pos
    have left := BitReader.le_avail_iff inStore n
    split
    next stored => exact BitReader.take_of_le (left.2 stored)
    next beyond =>
      have less : b.avail < n := not_le.1 (mt left.1 beyond)
      rw [BitReader.take_of_lt less, BitReader.has_of_lt less]
  case skipBytes =>
    intro v first n
    obtain ⟨within, equal, stops, reader⟩ := b.skipBytes_skips v inStore
    refine ⟨within, equal, stops, reader.trans ?_⟩
    have left := BitReader.byte_le_avail_iff (b := { b with bitIndex := 8 * (first + n) }) (m := 1) rfl
      Nat.one_pos
    split
    next stored => rw [BitReader.has_snd_of_le (left.2 stored)]
    next => rfl
  case sync =>
    intro b _ first at_
    exact ⟨fun i => BitReader.findFrameSync_of_first, BitReader.findFrameSync_of_none⟩

end Sys2Proof.Machine
end

section
/-! The start-code searches (R407, R408, R411). -/

namespace Sys2Proof.Machine

/-! ### next_start_code (R407) -/

/-- The three bytes `00 00 01` at byte `i`, and five bytes stored from there (R407). -/
def BitReader.CodeStored (b : BitReader) (i : Nat) : Prop :=
  i + 5 ≤ b.bytes.length ∧ b.bytes.getD i 0 = 0x00 ∧ b.bytes.getD (i + 1) 0 = 0x00 ∧
    b.bytes.getD (i + 2) 0 = 0x01

theorem BitReader.codeStored_iff (b : BitReader) (i : Nat) :
    b.CodeStored i ↔ i + 5 ≤ b.bytes.length ∧ b.startCodeAt i = true := by
  simp [BitReader.CodeStored, BitReader.startCodeAt, BitReader.byteAt, and_assoc]

/-- One byte of the loop with the cursor on byte `i`, five bytes stored (R407). -/
theorem BitReader.seek_succ {b : BitReader} {i : Nat} (k : Nat) (stored : i + 5 ≤ b.bytes.length) :
    BitReader.seek (k + 1) { b with bitIndex := 8 * i } =
      if b.startCodeAt i then (some (b.byteAt (i + 3)), { b with bitIndex := 8 * i })
      else BitReader.seek k { b with bitIndex := 8 * (i + 1) } := by
  have left := (byte_le_avail_iff (b := { b with bitIndex := 8 * i }) (m := 5) rfl (by omega)).2 stored
  have here : 8 * i / 8 = i := by omega
  rw [BitReader.seek, has_snd_of_le left]
  simp only [here, Bool.not_true, Bool.false_eq_true, if_false]
  rfl

/-- The loop with fewer than five bytes left from byte `i` on (R407). -/
theorem BitReader.seek_of_short {b : BitReader} {i : Nat} (k : Nat) (beyond : b.bytes.length < i + 5) :
    BitReader.seek k { b with bitIndex := 8 * i } = (none, ({ b with bitIndex := 8 * i }.has 40).2) := by
  have left := byte_le_avail_iff (b := { b with bitIndex := 8 * i }) (m := 5) rfl (by omega)
  have fails := has_of_lt (not_le.1 (mt left.1 (not_le.2 beyond)))
  cases k with
  | zero => rw [BitReader.seek, fails]
  | succ k => rw [BitReader.seek, fails]; rfl

/-- The loop stops at the first start code (R407). -/
theorem BitReader.seek_of_first {b : BitReader} {k i j : Nat} (room : b.bytes.length ≤ i + k)
    (from_ : i ≤ j) (here : b.CodeStored j) (first : ∀ m, i ≤ m → m < j → ¬ b.CodeStored m) :
    BitReader.seek k { b with bitIndex := 8 * i } =
      (some (b.byteAt (j + 3)), { b with bitIndex := 8 * j }) := by
  obtain ⟨stored, code⟩ := (b.codeStored_iff j).1 here
  induction k generalizing i with
  | zero => omega
  | succ k ih =>
    rw [seek_succ k (by omega)]
    rcases from_.eq_or_lt with rfl | before
    · rw [if_pos code]
    · have other : ¬ b.startCodeAt i = true := fun h =>
        first i le_rfl before ((b.codeStored_iff i).2 ⟨by omega, h⟩)
      rw [if_neg other]
      exact ih (by omega) before fun m hm => first m (by omega)

/-- Without a start code the loop stops where fewer than five bytes are left (R407). -/
theorem BitReader.seek_of_none {b : BitReader} {k i : Nat} (room : b.bytes.length ≤ i + k)
    (h : ∀ m, i ≤ m → ¬ b.CodeStored m) :
    BitReader.seek k { b with bitIndex := 8 * i } =
      (none, ({ b with bitIndex := 8 * max i (b.bytes.length - 4) }.has 40).2) := by
  induction k generalizing i with
  | zero =>
    rw [Nat.max_eq_left (by omega)]
    exact seek_of_short 0 (by omega)
  | succ k ih =>
    by_cases stored : i + 5 ≤ b.bytes.length
    · have other : ¬ b.startCodeAt i = true := fun code =>
        h i le_rfl ((b.codeStored_iff i).2 ⟨stored, code⟩)
      have stop : max (i + 1) (b.bytes.length - 4) = max i (b.bytes.length - 4) := by omega
      rw [seek_succ k stored, if_neg other, ih (by omega) fun m hm => h m (by omega), stop]
    · rw [Nat.max_eq_left (by omega)]
      exact seek_of_short (k + 1) (by omega)

/-- `next_start_code` that finds a start code has consumed it (R407). -/
theorem BitReader.nextStartCode_of_first {b : BitReader} {i : Nat} (from_ : (b.bitIndex + 7) / 8 ≤ i)
    (here : b.CodeStored i) (first : ∀ j, (b.bitIndex + 7) / 8 ≤ j → j < i → ¬ b.CodeStored j) :
    b.nextStartCode = (some (b.byteAt (i + 3)), { b with bitIndex := 8 * (i + 4) }) := by
  have found : b.seekStartCode = (some (b.byteAt (i + 3)), { b with bitIndex := 8 * i }) :=
    seek_of_first (by rw [BitReader.length]; omega) from_ here first
  rw [BitReader.nextStartCode, found]
  simp only [take_of_le (show 32 ≤ BitReader.avail { b with bitIndex := 8 * i } from
    (seek_found found).trans' (by omega))]
  rfl

/-- `next_start_code` that finds none (R407). -/
theorem BitReader.nextStartCode_of_none {b : BitReader}
    (h : ∀ i, (b.bitIndex + 7) / 8 ≤ i → ¬ b.CodeStored i) :
    b.nextStartCode =
      (none, ({ b with bitIndex := 8 * max ((b.bitIndex + 7) / 8) (b.bytes.length - 4) }.has 40).2) := by
  have exhausted : b.seekStartCode = _ := seek_of_none (by rw [BitReader.length]; omega) h
  rw [BitReader.nextStartCode, exhausted]

/-! ### find_start_code (R408) -/

/-- A start code found has consumed bits: each that is passed over brings the end of the store nearer (R408). -/
theorem BitReader.nextStartCode_found {b c : BitReader} {x : Byte} (h : b.nextStartCode = (some x, c)) :
    c.avail + 32 ≤ b.avail := by
  unfold BitReader.nextStartCode at h
  split at h
  next y d found =>
    obtain ⟨-, rfl⟩ := Prod.mk.inj h
    have stored := seek_found found
    have less := b.seekStartCode_follows.avail_le
    rw [found] at less
    rw [take_of_le (by omega)]
    simp only [BitReader.avail, BitReader.length] at stored less ⊢
    omega
  next => cases h

/-- Every bound that the bits left cannot exhaust gives the same search (R408). -/
theorem BitReader.findLoop_eq {c : Byte} {k m : Nat} {b : BitReader} (room : b.avail < 32 * k)
    (room' : b.avail < 32 * m) : BitReader.findLoop c k b = BitReader.findLoop c m b := by
  induction k generalizing m b with
  | zero => omega
  | succ k ih =>
    obtain ⟨m, rfl⟩ : ∃ j, m = j + 1 := ⟨m - 1, by omega⟩
    rw [BitReader.findLoop, BitReader.findLoop]
    split
    next x d found =>
      have less := nextStartCode_found found
      rw [ih (m := m) (by omega) (by omega)]
    next => rfl

/-- `find_start_code` is `next_start_code` again and again (R408). -/
theorem BitReader.findStartCode_eq (c : Byte) (b : BitReader) :
    b.findStartCode c =
      match b.nextStartCode with
      | (none, b') => (none, b')
      | (some x, b') => if x = c then (some x, b') else b'.findStartCode c := by
  rw [BitReader.findStartCode, BitReader.findLoop]
  cases e : b.nextStartCode with
  | mk answer d =>
    cases answer with
    | none => rfl
    | some x =>
      have less := nextStartCode_found e
      have bound : b.avail ≤ 8 * b.length := Nat.sub_le _ _
      have after : d.avail ≤ 8 * d.length := Nat.sub_le _ _
      have again : BitReader.findLoop c b.length d = d.findStartCode c :=
        findLoop_eq (by omega) (by omega)
      simp only [again]

/-! ### has_start_code (R411) -/

/-- The reader with another discard flag: no primitive reads the flag (R411). -/
def BitReader.withDiscard (d : Bool) (b : BitReader) : BitReader := { b with discardRead := d }

theorem BitReader.has_withDiscard (d : Bool) (n : Nat) (b : BitReader) :
    (b.withDiscard d).has n = ((b.has n).1, (b.has n).2.withDiscard d) := by
  by_cases h : n ≤ b.avail
  · rw [has_snd_of_le h, has_snd_of_le (b := b.withDiscard d) h]
  · rw [has_of_lt (not_le.1 h), has_of_lt (b := b.withDiscard d) (not_le.1 h)]
    rfl

theorem BitReader.seek_withDiscard (d : Bool) (k : Nat) (b : BitReader) :
    BitReader.seek k (b.withDiscard d) = ((BitReader.seek k b).1, (BitReader.seek k b).2.withDiscard d) := by
  induction k generalizing b with
  | zero => rfl
  | succ k ih =>
    have code : (b.withDiscard d).startCodeAt ((b.withDiscard d).bitIndex / 8) =
      b.startCodeAt (b.bitIndex / 8) := rfl
    have onward := ih { b with bitIndex := b.bitIndex + 8 }
    rw [BitReader.seek, BitReader.seek, has_withDiscard]
    dsimp only
    rw [code]
    split
    · rfl
    · split
      · rfl
      · exact onward

theorem BitReader.nextStartCode_withDiscard (d : Bool) (b : BitReader) :
    (b.withDiscard d).nextStartCode = (b.nextStartCode.1, b.nextStartCode.2.withDiscard d) := by
  have search : (b.withDiscard d).seekStartCode = (b.seekStartCode.1, b.seekStartCode.2.withDiscard d) :=
    seek_withDiscard d _ b.align
  rw [BitReader.nextStartCode, BitReader.nextStartCode, search]
  cases e : b.seekStartCode with
  | mk answer c =>
    cases answer with
    | none => rfl
    | some x =>
      have stored : 32 ≤ c.avail := (seek_found e).trans' (by omega)
      dsimp only
      rw [take_of_le stored, take_of_le (b := c.withDiscard d) stored]
      rfl

theorem BitReader.findLoop_withDiscard (d : Bool) (c : Byte) (k : Nat) (b : BitReader) :
    BitReader.findLoop c k (b.withDiscard d) =
      ((BitReader.findLoop c k b).1, (BitReader.findLoop c k b).2.withDiscard d) := by
  induction k generalizing b with
  | zero => rfl
  | succ k ih =>
    rw [BitReader.findLoop, BitReader.findLoop, nextStartCode_withDiscard]
    rcases b.nextStartCode with ⟨_ | x, b'⟩
    · rfl
    · dsimp only
      split
      · rfl
      · exact ih b'

theorem BitReader.seek_underrun (k : Nat) (b : BitReader) : (BitReader.seek k b).2.underrun = b.underrun := by
  induction k generalizing b with
  | zero => rfl
  | succ k ih =>
    rw [BitReader.seek]
    by_cases h : 40 ≤ b.avail
    · rw [has_snd_of_le h]
      simp only [Bool.not_true, Bool.false_eq_true, if_false]
      split
      · rfl
      · exact ih _
    · rw [has_of_lt (not_le.1 h)]
      rfl

/-- A start code found is stored, so that no search under-runs (R407). -/
theorem BitReader.nextStartCode_underrun (b : BitReader) : b.nextStartCode.2.underrun = b.underrun := by
  have search : b.seekStartCode.2.underrun = b.underrun := seek_underrun _ b.align
  unfold BitReader.nextStartCode
  split
  next x c found =>
    rw [found] at search
    rwa [take_of_le ((seek_found found).trans' (by omega))]
  next none => rwa [none] at search

theorem BitReader.findLoop_underrun (c : Byte) (k : Nat) (b : BitReader) :
    (BitReader.findLoop c k b).2.underrun = b.underrun := by
  induction k generalizing b with
  | zero => rfl
  | succ k ih =>
    have once := b.nextStartCode_underrun
    rw [BitReader.findLoop]
    split
    next x b' found =>
      rw [found] at once
      split
      · exact once
      · exact (ih b').trans once
    next b' none => rwa [none] at once

/-- `has_start_code` is `find_start_code` with the cursor and the discard flag restored (R411). -/
theorem BitReader.hasStartCode_eq (c : Byte) (b : BitReader) :
    b.hasStartCode c = ((b.findStartCode c).1,
      { (b.findStartCode c).2 with bitIndex := b.bitIndex, discardRead := b.discardRead }) := by
  have search : BitReader.findStartCode c { b with discardRead := false } = _ :=
    findLoop_withDiscard false c (b.length + 1) b
  rw [BitReader.hasStartCode, search]
  rfl

/-- What `has_start_code` leaves of the search: the two flags of R402 (R411). -/
theorem BitReader.hasStartCode_snd (c : Byte) (b : BitReader) :
    (b.hasStartCode c).2 =
      { b with needData := (b.findStartCode c).2.needData, ended := (b.findStartCode c).2.ended } := by
  have kept := findStartCode_follows c b
  have underrun : (b.findStartCode c).2.underrun = b.underrun := findLoop_underrun c _ b
  rw [hasStartCode_eq]
  dsimp only
  rw [kept.bytes, kept.totalSize, underrun]

/-- Settles O9: the first start code of the store, searched again until the target, and the search undone. -/
theorem startCodeSearchRules : Obligations.StartCodeSearchRules := by
  refine ⟨?next, ?find⟩
  case next =>
    intro b _ first at_
    exact ⟨fun i => BitReader.nextStartCode_of_first, BitReader.nextStartCode_of_none⟩
  case find =>
    intro c b _
    exact ⟨b.findStartCode_eq c, by rw [b.hasStartCode_eq c], b.hasStartCode_snd c⟩

end Sys2Proof.Machine
end

section
/-! Start codes that a search passes over, and those that begin a slice (R408, R504, R510, R601). -/

namespace Sys2Proof.Machine

/-! ### What a start code does to the engine (R302) -/

/-- The searches of R408 pass over every start code but their own (R510). -/
theorem Video.startCodeArrived_of_searched {x : Byte} {v : Video}
    (h : (v.pos = .sequenceSearch ∧ x ≠ 0xB3) ∨ (v.pos = .pictureSearch ∧ x ≠ 0x00)) :
    v.startCodeArrived x = v := by
  rcases h with ⟨pos, other⟩ | ⟨pos, other⟩
  · simp only [Video.startCodeArrived, pos, if_neg other]
  · simp only [Video.startCodeArrived, pos, if_neg other]

/-- The scan after a picture header passes over user data and extensions (R504). -/
theorem Video.startCodeArrived_of_passed {x : Byte} {v : Video} (pos : v.pos = .bodySearch)
    (h : x = 0xB2 ∨ x = 0xB5) : v.startCodeArrived x = { v with startCode := some x } := by
  simp only [Video.startCodeArrived, pos, if_pos h.symm]

theorem isSlice_iff (x : Byte) : isSlice x = true ↔ 1 ≤ x.toNat ∧ x.toNat ≤ 0xAF := by
  simp [isSlice]

/-- A slice start code in a picture begins its slice (R504, R601). -/
theorem Video.startCodeArrived_of_slice {x : Byte} {v : Video} (slice : isSlice x = true)
    (pos : v.pos = .bodySearch ∨ v.pos = .sliceSearch) :
    v.startCodeArrived x = { v with startCode := some x }.beginSlice x := by
  have begins : v.afterSlice x = { v with startCode := some x }.beginSlice x := by
    rw [Video.afterSlice, if_pos slice]
  have other : ¬ (x = 0xB5 ∨ x = 0xB2) := by
    rintro (rfl | rfl) <;> exact absurd slice (by decide)
  rcases pos with pos | pos
  · simp only [Video.startCodeArrived, pos, if_neg other, begins]
  · simp only [Video.startCodeArrived, pos, begins]

/-! ### A start code that does not end the command -/

/-- A start code that leaves the command running answers the engine as it has left it. -/
theorem exec_startCodeInstr_of_arrived {x : Byte} {s : State} {w : Video}
    (h : Video.startCodeArrived x { s.v with br := s.v.br.take 32 } = w) (running : w.pos ≠ .finished) :
    exec (startCodeInstr x) s = .next { s with v := w } := by
  rw [exec_startCodeInstr, Video.startCodeRow, h, deliverVideo_of_unfinished running]

/-- Settles O30: the engine before each start code, which consumes its 32 bits. -/
theorem startCodesPassedOverAndSlices : Obligations.StartCodesPassedOverAndSlices := by
  refine ⟨fun x s => ⟨?searched, ?passed⟩, ?slice⟩
  case searched =>
    intro h
    refine exec_startCodeInstr_of_arrived (Video.startCodeArrived_of_searched h) ?_
    rcases h with ⟨pos, _⟩ | ⟨pos, _⟩ <;> simp [pos]
  case passed =>
    intro pos h
    exact exec_startCodeInstr_of_arrived (Video.startCodeArrived_of_passed pos h) (by simp [pos])
  case slice =>
    intro x s low high pos
    rw [← startCodeInstr_slice low high]
    exact exec_startCodeInstr_of_arrived
      (Video.startCodeArrived_of_slice ((isSlice_iff x).2 ⟨low, high⟩) pos) (by simp)

end Sys2Proof.Machine
end

section
/-! The picture loop of VDECODE by the start code found (R501 step 3a). -/

namespace Sys2Proof.Machine

/-- A picture start code already found is not searched again (R501 step 3a). -/
theorem Video.pictureLoop_of_some {v : Video} {x : Byte} (code : v.startCode = some x) :
    v.pictureLoop = if x = 0x00 then v.beginPicture else { v with pos := .pictureSearch } := by
  simp only [Video.pictureLoop, code, Option.some.injEq]

/-- With no start code found the picture loop searches (R501 step 3a). -/
theorem Video.pictureLoop_of_none {v : Video} (code : v.startCode = none) :
    v.pictureLoop = { v with pos := .pictureSearch } := by
  rw [Video.pictureLoop, if_neg (by simp [code])]

end Sys2Proof.Machine
end

section
/-! The picture header: the vector codes, the pre-rotation, and the pictures that are dropped (R503, R505, R511). -/

namespace Sys2Proof.Machine

/-! ### The end of a picture header (R505, R511) -/

/-- In an I or P picture the forward index becomes the backward one before the body (R505). -/
theorem Video.beginBody_of_reference {v : Video} (h : v.pictureType = 1 ∨ v.pictureType = 2) :
    v.beginBody = { v with temp := v.fwd, fwd := v.bwd, pos := .bodySearch } := by
  rw [Video.beginBody, Video.preRotate, if_pos h]

/-- In any other picture the forward index stays, and is noted in `temp` (R505). -/
theorem Video.beginBody_of_other {v : Video} (h : ¬ (v.pictureType = 1 ∨ v.pictureType = 2)) :
    v.beginBody = { v with temp := v.fwd, pos := .bodySearch } := by
  rw [Video.beginBody, Video.preRotate, if_neg h]

/-- A dropped picture raises its cause, and the search for the next picture follows (R511). -/
theorem Video.dropPicture_eq (c : VideoCause) (v : Video) :
    v.dropPicture c = { v.raise c with startCode := none, pos := .pictureSearch } := by
  rw [Video.dropPicture, Video.pictureLoop_of_none rfl]

/-! ### The vector codes (R503) -/

/-- Step 4 of R503 with a code that is not 0: the body of a B picture. -/
theorem Video.backwardCode_of_code {c : VectorCode} {v : Video} (h : c.fCode ≠ 0) :
    v.backwardCode c =
      { v with br := v.br.takeFields [1, 3], mb := v.mb.setCode c }.beginBody := by
  rw [Video.backwardCode, if_neg h]
  rfl

/-- Step 4 of R503 with the code 0: the picture is dropped, its full-pel flag read. -/
theorem Video.backwardCode_of_zero {c : VectorCode} {v : Video} (h : c.fCode = 0) :
    v.backwardCode c =
      { v with br := v.br.takeFields [1, 3], mb.fullPx := c.fullPel }.dropPicture .fCodeZero := by
  rw [Video.backwardCode, if_pos h]

/-- Step 3 of R503 with a code that is not 0: step 4 in a B picture, the body in a P picture. -/
theorem Video.vectorCodes_of_code {h : PictureHeader} {c : VectorCode} {v : Video} (forward : h.forward = some c)
    (code : c.fCode ≠ 0) :
    v.vectorCodes h =
      let w : Video := { v with br := v.br.takeFields [1, 3], mf := v.mf.setCode c }
      if h.codingType = 3 then w.backwardCode (h.backward.getD noCode) else w.beginBody := by
  rw [Video.vectorCodes, forward, Option.getD_some, if_neg code]
  rfl

/-- Step 3 of R503 with the code 0. -/
theorem Video.vectorCodes_of_zero {h : PictureHeader} {c : VectorCode} {v : Video} (forward : h.forward = some c)
    (code : c.fCode = 0) :
    v.vectorCodes h =
      { v with br := v.br.takeFields [1, 3], mf.fullPx := c.fullPel }.dropPicture .fCodeZero := by
  rw [Video.vectorCodes, forward, Option.getD_some, if_pos code]

/-! ### Every picture type (R503) -/

/-- An I picture has no vector codes. -/
theorem Video.pictureHeaderRow_of_intra {h : PictureHeader} {v : Video} (type : h.codingType = 1) :
    v.pictureHeaderRow h = { v with
      br := v.br.takeFields [10, 3, 16], pictureType := h.codingType }.beginBody := by
  rw [Video.pictureHeaderRow, if_pos type]

/-- A P or B picture goes on with its vector codes. -/
theorem Video.pictureHeaderRow_of_inter {h : PictureHeader} {v : Video}
    (type : h.codingType = 2 ∨ h.codingType = 3) :
    v.pictureHeaderRow h = { v with
      br := v.br.takeFields [10, 3, 16], pictureType := h.codingType }.vectorCodes h := by
  rw [Video.pictureHeaderRow, if_neg, if_pos type]
  rcases type with type | type <;> rw [type] <;> decide

/-- A picture of any other type is dropped. -/
theorem Video.pictureHeaderRow_of_other {h : PictureHeader} {v : Video} (intra : h.codingType ≠ 1)
    (p : h.codingType ≠ 2) (b : h.codingType ≠ 3) :
    v.pictureHeaderRow h = { v with
      br := v.br.takeFields [10, 3, 16], pictureType := h.codingType }.dropPicture .pictureTypeUnsupported := by
  rw [Video.pictureHeaderRow, if_neg intra, if_neg (not_or.2 ⟨p, b⟩)]

/-- A picture header leaves the command running: it answers the engine as it has left it. -/
theorem exec_pictureHeader (h : PictureHeader) (s : State) :
    exec (.pictureHeader h) s = .next { s with v := s.v.pictureHeaderRow h } := by
  rw [exec_videoRow_next (e := .pictureHeader h) rfl, VideoEffect.apply, deliverVideo_of_unfinished]
  rcases s.v.pictureHeaderRow_cases h with drop | ⟨body, -⟩
  · simp [drop]
  · simp [body]

/-- Settles O36: the three picture types, each with the vector codes that it reads. -/
theorem pictureHeaderAccepted : Obligations.PictureHeaderAccepted := by
  intro temporal delay forward backward s
  refine ⟨?intra, fun code => ?predicted, fun code codeBack => ?bidirectional⟩
  case intra =>
    rw [exec_pictureHeader, Video.pictureHeaderRow_of_intra rfl, Video.beginBody_of_reference (.inl rfl)]
  case predicted =>
    rw [exec_pictureHeader, Video.pictureHeaderRow_of_inter (.inl rfl), Video.vectorCodes_of_code rfl code,
      if_neg (by simp), Video.beginBody_of_reference (.inr rfl)]
    dsimp only
    rw [← BitReader.takeFields_append]
    rfl
  case bidirectional =>
    rw [exec_pictureHeader, Video.pictureHeaderRow_of_inter (.inr rfl), Video.vectorCodes_of_code rfl code,
      if_pos rfl, Option.getD_some, Video.backwardCode_of_code codeBack, Video.beginBody_of_other (by simp)]
    dsimp only
    rw [← BitReader.takeFields_append, ← BitReader.takeFields_append]
    rfl

end Sys2Proof.Machine
end

section
/-! The sequence header: its check, the commit, and the matrices in natural order (R310, R331, R332, R502). -/

namespace Sys2Proof.Machine

/-! ### Natural order (R332, R502 step 4) -/

/-- Entries that are written at none of its positions leave a place of a list. -/
theorem foldl_set_getD_other {α : Type} {d : α} {p : Nat} (l : List (α × Nat)) (other : p ∉ l.map Prod.snd)
    (q : List α) : (l.foldl (fun q e => q.set e.2 e.1) q).getD p d = q.getD p d := by
  induction l generalizing q with
  | nil => rfl
  | cons e l ih =>
    rw [List.map_cons, List.mem_cons, not_or] at other
    obtain ⟨head, tail⟩ := other
    rw [List.foldl_cons, ih tail, List.getD_eq_getElem?_getD, List.getElem?_set_ne (Ne.symm head),
      ← List.getD_eq_getElem?_getD]

/-- Entries written at distinct positions of a list stand there afterwards. -/
theorem foldl_set_getD_mem {α : Type} {d : α} {e : α × Nat} {l : List (α × Nat)} (mem : e ∈ l)
    (apart : (l.map Prod.snd).Nodup) (q : List α) (room : e.2 < q.length) :
    (l.foldl (fun q e => q.set e.2 e.1) q).getD e.2 d = e.1 := by
  induction l generalizing q with
  | nil => cases mem
  | cons f l ih =>
    obtain ⟨head, tail⟩ := List.nodup_cons.1 apart
    rw [List.foldl_cons]
    rcases List.mem_cons.1 mem with rfl | mem
    · rw [foldl_set_getD_other l head, List.getD_eq_getElem?_getD, List.getElem?_set_self room,
        Option.getD_some]
    · exact ih mem tail _ (by rwa [List.length_set])

/-- Entry `i` of a matrix in transmission order stands at `ZZ[i]` of the matrix in natural order (R332). -/
theorem naturalOrder_getD {m : List Byte} (whole : m.length = 64) {i : Nat} (h : i < 64) :
    (naturalOrder m).getD (zigzag i) 0 = m.getD i 0 := by
  have length : (m.zip zigzagTable).length = 64 := by simp [whole, zigzagTable]
  have entry : (m.getD i 0, zigzag i) ∈ m.zip zigzagTable := by
    have at_i : (m.zip zigzagTable)[i]'(length ▸ h) = (m.getD i 0, zigzag i) := by
      rw [List.getElem_zip]
      exact Prod.ext (List.getD_eq_getElem m 0 _).symm (List.getD_eq_getElem zigzagTable 0 h).symm
    exact at_i ▸ List.getElem_mem _
  have positions : (m.zip zigzagTable).map Prod.snd = zigzagTable :=
    List.map_snd_zip (by rw [whole]; exact le_rfl)
  have apart : zigzagTable.Nodup := by decide
  have inside : ∀ p ∈ zigzagTable, p < 64 := by decide
  have position : zigzag i ∈ zigzagTable := positions ▸ List.mem_map_of_mem (f := Prod.snd) entry
  refine foldl_set_getD_mem entry (positions.symm ▸ apart) _ ?_
  rw [List.length_replicate]
  exact inside _ position

/-! ### Table ASPECT (R331) -/

/-- The ratio of every code that table ASPECT lists. -/
theorem pelAspect_of_listed (code : BitVec 4) :
    ∀ e ∈ [(1, 10000), (2, 6735), (3, 7031), (4, 7615), (5, 8055), (6, 8437), (7, 8935), (8, 9157), (9, 9815),
        (10, 10255), (11, 10695), (12, 10950), (13, 11575), (14, 12015)],
      code.toNat = e.1 → pelAspect code = some ((e.2 : Rat) / 10000) := by
  intro e listed h
  rw [pelAspect, h]
  fin_cases listed <;> norm_num

/-- The reserved codes have no ratio. -/
theorem pelAspect_of_reserved {code : BitVec 4} (h : code = 0 ∨ code = 15) : pelAspect code = none := by
  rcases h with rfl | rfl <;> rfl

/-! ### The check and the commit (R502 steps 3 to 5) -/

/-- The check of R502 step 3. -/
theorem sequenceAccepted_iff (h : SequenceHeader) :
    sequenceAccepted h = true ↔
      h.horizontalSize ≠ 0 ∧ h.verticalSize ≠ 0 ∧ 1 ≤ h.pictureRate.toNat ∧ h.pictureRate.toNat ≤ 8 := by
  have rate : h.pictureRate ≠ 0 ↔ 1 ≤ h.pictureRate.toNat := by
    rw [ne_eq, BitVec.toNat_eq]
    exact Nat.one_le_iff_ne_zero.symm
  simp only [sequenceAccepted, Bool.and_eq_true, bne_iff_ne, decide_eq_true_iff, rate, and_assoc]

/-- A rejected sequence header raises its cause, and VDECODE returns NONE (R502 step 3). -/
theorem Video.sequenceHeaderRow_of_rejected {h : SequenceHeader} (rejected : sequenceAccepted h = false)
    (v : Video) :
    v.sequenceHeaderRow h = { { v with br := v.br.takeFields sequenceFixedWidths }.raise .seqHeaderInvalid with
      startCode := none }.returnNone := by
  rw [Video.sequenceHeaderRow, if_neg (by simp [rejected])]

/-- The engine behind an accepted sequence header: its fields consumed and committed, before the search for a
picture (R502). -/
def Video.sequenceCommitted (h : SequenceHeader) (v : Video) : Video :=
  { Video.commitSequence h { v with
      br := v.br.takeFields
        (sequenceFixedWidths ++ matrixWidths h.intraMatrix ++ matrixWidths h.nonIntraMatrix) } with
    pos := .pictureSearch }

/-- What an accepted sequence header does to the engine (R502). -/
theorem Video.sequenceHeaderRow_of_accepted {h : SequenceHeader} (accepted : sequenceAccepted h = true)
    {v : Video} (code : v.startCode = some 0xB3) : v.sequenceHeaderRow h = v.sequenceCommitted h := by
  rw [Video.sequenceHeaderRow, if_pos accepted, Video.pictureLoop_of_some (by exact code), if_neg (by decide),
    Video.sequenceCommitted, List.append_assoc, BitReader.takeFields_append sequenceFixedWidths]

/-- The sizes of an accepted header, in macroblocks and in samples (R502 step 5). -/
theorem Video.sequenceCommitted_sizes {h : SequenceHeader} (accepted : sequenceAccepted h = true) (v : Video) :
    let t := v.sequenceCommitted h
    let w := (h.horizontalSize.toNat + 15) / 16
    let k := (h.verticalSize.toNat + 15) / 16
    t.mbWidth.toNat = w ∧ t.mbHeight.toNat = k ∧ t.mbSize.toNat = w * k ∧ t.lumaWidth.toNat = 16 * w ∧
      t.lumaHeight.toNat = 16 * k ∧ t.chromaWidth.toNat = 8 * w ∧ t.chromaHeight.toNat = 8 * k := by
  have legal := commitSequence_sizesLegal accepted v
  have width : (BitVec.ofNat 9 ((h.horizontalSize.toNat + 15) / 16)).toNat = (h.horizontalSize.toNat + 15) / 16 := by
    rw [BitVec.toNat_ofNat]
    omega
  have height : (BitVec.ofNat 9 ((h.verticalSize.toNat + 15) / 16)).toNat = (h.verticalSize.toNat + 15) / 16 := by
    rw [BitVec.toNat_ofNat]
    omega
  simp only [Video.sizesLegal, Video.commitSequence, width, height, Bool.and_eq_true, beq_iff_eq] at legal
  obtain ⟨⟨⟨⟨⟨-, size⟩, lumaWidth⟩, lumaHeight⟩, chromaWidth⟩, chromaHeight⟩ := legal
  simp only [Video.sequenceCommitted, Video.commitSequence]
  exact ⟨width, height, size, lumaWidth, lumaHeight, chromaWidth, chromaHeight⟩

/-- A matrix that the header holds is stored in natural order (R502 step 4). -/
theorem loadedMatrix_getD {m : Option (List Byte)} {l : List Byte} (loaded : m = some l)
    (whole : (m.all fun m => m.length == 64) = true) (default : List Byte) :
    ∀ i < 64, ((m.map naturalOrder).getD default).getD (zigzag i) 0 = l.getD i 0 := by
  subst loaded
  exact fun i h => naturalOrder_getD (by simpa using whole) h

/-- Where the header holds no matrix the default one is stored (R502 step 4). -/
theorem loadedMatrix_of_none {m : Option (List Byte)} (missing : m = none) (default : List Byte) :
    (m.map naturalOrder).getD default = default := by
  subst missing
  rfl

/-- Nothing is written in the planes of a new sequence (R108, R502 step 5). -/
theorem Video.sequenceCommitted_planeRead (h : SequenceHeader) (v : Video) (f : Fin 3) (p : Plane) (i : Nat) :
    (v.sequenceCommitted h).planeRead f p i = Config.unwrittenSample f.val p.number i := by
  fin_cases f <;> cases p <;> rfl

/-- A sequence header leaves the times of the frames (R502 step 5). -/
theorem Video.sequenceCommitted_frame_time (h : SequenceHeader) (v : Video) (f : Fin 3) :
    ((v.sequenceCommitted h).frame f).time = (v.frame f).time := by
  fin_cases f <;> rfl

/-- An accepted sequence header leaves the command running. -/
theorem exec_sequenceHeader_of_accepted {h : SequenceHeader} (accepted : sequenceAccepted h = true) {s : State}
    (code : s.v.startCode = some 0xB3) :
    exec (.sequenceHeader h) s = .next { s with v := s.v.sequenceCommitted h } := by
  rw [exec_videoRow_next (e := .sequenceHeader h) rfl, VideoEffect.apply,
    Video.sequenceHeaderRow_of_accepted accepted code, deliverVideo_of_unfinished]
  exact nofun

/-- Settles O34: the fields of the commit, and the search for a picture. -/
theorem sequenceHeaderAccepted : Obligations.SequenceHeaderAccepted := by
  intro h s wf width height low high code
  have accepted : sequenceAccepted h = true := (sequenceAccepted_iff h).2 ⟨width, height, low, high⟩
  obtain ⟨intra, nonIntra⟩ := (Bool.and_eq_true _ _).mp wf
  refine ⟨{ s with v := s.v.sequenceCommitted h }, exec_sequenceHeader_of_accepted accepted code,
    Video.sequenceCommitted_sizes accepted s.v, pelAspect_of_listed h.pelAspectRatio, pelAspect_of_reserved,
    ?intra, ?nonIntra, Video.sequenceCommitted_planeRead h s.v, Video.sequenceCommitted_frame_time h s.v, ?fields⟩
  case intra =>
    split
    · exact loadedMatrix_of_none ‹_› intraQ
    · exact loadedMatrix_getD ‹_› intra intraQ
  case nonIntra =>
    split
    · exact loadedMatrix_of_none ‹_› nonIntraQ
    · exact loadedMatrix_getD ‹_› nonIntra nonIntraQ
  case fields =>
    simp only [Video.sequenceCommitted, Video.commitSequence, sequenceFixedWidths, matrixWidths]

end Sys2Proof.Machine
end

section
/-! Rejected headers: a sequence header whose check fails, a dropped picture, and the MP2 headers that R904 and R905
reject, each with the bits read up to its check. -/

namespace Sys2Proof.Machine

/-! ### Sequence headers (R502 step 3) -/

/-- A rejected sequence header ends its VDECODE. -/
theorem exec_sequenceHeader_of_rejected {h : SequenceHeader} (rejected : sequenceAccepted h = false) (s : State) :
    exec (.sequenceHeader h) s = .next (videoReturns
      { { s.v with br := s.v.br.takeFields sequenceFixedWidths }.raise .seqHeaderInvalid with
        startCode := none } s) := by
  rw [exec_videoRow_next (e := .sequenceHeader h) rfl, VideoEffect.apply,
    Video.sequenceHeaderRow_of_rejected rejected, deliverVideo_of_finished s rfl, Video.returnNone,
    videoReturns_pos]

/-! ### Pictures (R503, R511) -/

/-- A picture header that drops its picture: the cause, and the search for the next picture. -/
theorem exec_pictureHeader_of_drop {h : PictureHeader} {s : State} {c : VideoCause} {w : Video}
    (drop : s.v.pictureHeaderRow h = w.dropPicture c) :
    exec (.pictureHeader h) s =
      .next { s with v := { w.raise c with startCode := none, pos := .pictureSearch } } := by
  rw [exec_pictureHeader, drop, Video.dropPicture_eq]

/-! ### MP2 headers (R904, R905, R909) -/

/-- One more field behind a row of fields (R403). -/
theorem BitReader.takeFields_take (l : List Nat) (n : Nat) (b : BitReader) :
    (b.takeFields l).take n = b.takeFields (l ++ [n]) := by
  rw [takeFields_append]
  rfl

/-- A header of another version or layer is read up to its protection bit (R904). -/
theorem Audio.otherHeaderRow_eq (h : Mp2SyncOther) (a : Audio) :
    a.otherHeaderRow h = { a with br := a.br.takeFields [11, 2, 2, 1] }.rejectHeader .versionLayer := rfl

/-- A header with a rejected bitrate is read up to its bitrate field (R905). -/
theorem Audio.headerRow_of_bitrate {h : Mp2Header} (bitrate : h.bitrateIndex = 0 ∨ h.bitrateIndex = 15)
    (a : Audio) :
    a.headerRow h = { a with br := a.br.takeFields [11, 2, 2, 1, 4] }.rejectHeader .bitrate := by
  rw [Audio.headerRow, if_pos bitrate]

/-- A header with a rejected sample rate is read up to its sample rate field (R905). -/
theorem Audio.headerRow_of_samplerate {h : Mp2Header} (bitrate : ¬ (h.bitrateIndex = 0 ∨ h.bitrateIndex = 15))
    (rate : h.samplingFrequency = 3) (a : Audio) :
    a.headerRow h = { a with br := a.br.takeFields [11, 2, 2, 1, 4, 2] }.rejectHeader .samplerate := by
  rw [Audio.headerRow, if_neg bitrate, if_pos rate, BitReader.takeFields_take]
  rfl

/-- A header that differs from the latched one is read up to its mode (R905). -/
theorem Audio.headerRow_of_change {h : Mp2Header} {a : Audio}
    (bitrate : ¬ (h.bitrateIndex = 0 ∨ h.bitrateIndex = 15)) (rate : h.samplingFrequency ≠ 3)
    (changed : a.headerChanged h = true) :
    a.headerRow h =
      { a with br := a.br.takeFields [11, 2, 2, 1, 4, 2, 1, 1, 2] }.rejectHeader .headerChange := by
  have changed (br : BitReader) : Audio.headerChanged h { a with br := br } = true := changed
  rw [Audio.headerRow, if_neg bitrate, if_neg rate, if_pos (changed _), BitReader.takeFields_take]
  dsimp only
  rw [← BitReader.takeFields_append]
  rfl

/-- Which headers differ from the latched one (R905). -/
theorem Audio.headerChanged_iff (h : Mp2Header) (a : Audio) :
    a.headerChanged h = true ↔ a.hasHeader = true ∧
      (h.bitrateIndex ≠ a.bitrateIndex ∨ h.samplingFrequency ≠ a.samplerateIndex ∨ h.mode ≠ a.mode) := by
  simp only [Audio.headerChanged, Bool.and_eq_true, Bool.or_eq_true, bne_iff_ne, or_assoc]

/-- A rejected header ends its ADECODE with no output (R909). -/
theorem deliverAudio_of_rejected {s : State} {a b : Audio} {c : AudioCause} (rejected : a = b.rejectHeader c) :
    deliverAudio { s with a := a } = audioReturns { b.raise c with nextFrameDataSize := 0 } s := by
  rw [rejected, deliverAudio_of_finished s rfl, Audio.rejectHeader, Audio.returnNone, audioReturns_pos]

/-- What an MP2 header does, as one equation. -/
theorem exec_mp2Header (h : Mp2Header) (s : State) :
    exec (.mp2Header h) s = .next (deliverAudio { s with a := s.a.headerRow h }) := rfl

/-- What a header of another version or layer does, as one equation. -/
theorem exec_mp2SyncOther (h : Mp2SyncOther) (s : State) :
    exec (.mp2SyncOther h) s = .next (deliverAudio { s with a := s.a.otherHeaderRow h }) := rfl

/-- Settles O35: each check in its order, with the fields read before it. -/
theorem rejectedHeaders : Obligations.RejectedHeaders := by
  refine ⟨⟨?sequence, ?picture⟩, ?audio⟩
  case sequence =>
    intro h s ground
    refine exec_sequenceHeader_of_rejected (Bool.eq_false_iff.2 fun accepted => ?_) s
    obtain ⟨width, height, low, high⟩ := (sequenceAccepted_iff h).1 accepted
    rcases ground with zero | zero | zero | large
    · exact width zero
    · exact height zero
    · simp [zero] at low
    · omega
  case picture =>
    intro temporal delay kind forward backward s
    refine ⟨fun intra p b => ?type, fun zero type => ?forward, fun code zero => ?backward⟩
    case type => exact exec_pictureHeader_of_drop (Video.pictureHeaderRow_of_other intra p b)
    case forward =>
      refine exec_pictureHeader_of_drop ?_
      rw [Video.pictureHeaderRow_of_inter type, Video.vectorCodes_of_zero rfl zero, ← BitReader.takeFields_append]
      rfl
    case backward =>
      refine exec_pictureHeader_of_drop ?_
      rw [Video.pictureHeaderRow_of_inter (.inr rfl), Video.vectorCodes_of_code rfl code, if_pos rfl,
        Option.getD_some, Video.backwardCode_of_zero zero]
      dsimp only
      rw [← BitReader.takeFields_append, ← BitReader.takeFields_append]
      rfl
  case audio =>
    intro s rejected
    refine ⟨fun h => ?other, fun h => ⟨fun bitrate => ?bitrate, fun low high rate => ?samplerate,
      fun low high rate latched differs => ?change⟩⟩
    case other => rw [exec_mp2SyncOther, deliverAudio_of_rejected (Audio.otherHeaderRow_eq h s.a)]
    case bitrate => rw [exec_mp2Header, deliverAudio_of_rejected (Audio.headerRow_of_bitrate bitrate s.a)]
    case samplerate =>
      rw [exec_mp2Header, deliverAudio_of_rejected (Audio.headerRow_of_samplerate (not_or.2 ⟨low, high⟩) rate s.a)]
    case change =>
      have changed := (Audio.headerChanged_iff h s.a).2 ⟨latched, differs⟩
      rw [exec_mp2Header, deliverAudio_of_rejected (Audio.headerRow_of_change (not_or.2 ⟨low, high⟩) rate changed)]

end Sys2Proof.Machine
end

section
/-! The searches of VDECODE: the start codes that they look for, those that end a picture, and a search that finds
none (R501, R502, R504, R506-R508). -/

namespace Sys2Proof.Machine

/-! ### Waiting for a picture or a sequence header (R501 step 3b, R502 step 1) -/

/-- A picture is decoded once the next picture start code is stored or the end is known (R501 step 3b). -/
theorem Video.beginPicture_eq {v : Video} {next : Option Byte} {br : BitReader}
    (search : v.br.hasStartCode 0x00 = (next, br)) :
    v.beginPicture =
      if next = none ∧ br.ended = false then { v with br := br }.returnNone
      else { v with br := br, pos := .pictureHeader } := by
  rw [Video.beginPicture, search]
  simp

/-- A sequence header is read once 1088 bits are stored or the end is known (R502 step 1). -/
theorem Video.beginSequenceHeader_eq {v : Video} {stored : Bool} {br : BitReader}
    (has : v.br.has 1088 = (stored, br)) :
    v.beginSequenceHeader =
      if stored = false ∧ br.ended = false then { v with br := br }.returnNone
      else { v with br := br, pos := .sequenceHeader } := by
  rw [Video.beginSequenceHeader, has]
  simp

/-- A VDECODE that returns NONE (R501). -/
theorem deliverVideo_returnNone (v : Video) (s : State) :
    deliverVideo { s with v := v.returnNone } = videoReturns v s := by
  rw [deliverVideo_of_finished s rfl, Video.returnNone, videoReturns_pos]

/-- A VDECODE that waits for more bytes returns NONE; with no need to wait it goes on (R501). -/
theorem deliverVideo_wait {waits : Prop} [Decidable waits] {v w : Video} (s : State) (running : w.pos ≠ .finished) :
    deliverVideo { s with v := if waits then v.returnNone else w } =
      if waits then videoReturns v s else { s with v := w } := by
  split
  · exact deliverVideo_returnNone v s
  · exact deliverVideo_of_unfinished running

/-- The picture start code that a search has found (R501 step 3a). -/
theorem Video.startCodeArrived_of_picture {v : Video} (pos : v.pos = .pictureSearch) :
    v.startCodeArrived 0x00 = { v with startCode := some 0x00 }.beginPicture := by
  simp only [Video.startCodeArrived, pos, if_true]

/-- The sequence start code that a search has found (R502). -/
theorem Video.startCodeArrived_of_sequence {v : Video} (pos : v.pos = .sequenceSearch) :
    v.startCodeArrived 0xB3 = { v with startCode := some 0xB3 }.beginSequenceHeader := by
  simp only [Video.startCodeArrived, pos, if_true]

/-- Settles O31: each search with the wait behind its start code. -/
theorem searchedStartCodes : Obligations.SearchedStartCodes := by
  refine ⟨fun s pos => ?picture, fun s pos => ?sequence⟩
  case picture =>
    have row : exec .pictureStart s = .next (deliverVideo { s with
        v := { s.v with br := s.v.br.take 32, startCode := some 0x00 }.beginPicture }) := by
      rw [exec_videoRow_next (e := .startCode 0x00) rfl, VideoEffect.apply, Video.startCodeRow,
        Video.startCodeArrived_of_picture (by exact pos)]
    rw [row]
    intro v
    rcases search : v.br.hasStartCode 0x00 with ⟨next, br⟩
    rw [Video.beginPicture_eq search, deliverVideo_wait s (by exact nofun)]
    refine ⟨fun ready => ?_, fun missing unknown => by rw [if_pos ⟨missing, unknown⟩]⟩
    have goesOn : ¬ (next = none ∧ br.ended = false) := by
      rintro ⟨missing, unknown⟩
      simp [missing, unknown] at ready
    rw [if_neg goesOn]
  case sequence =>
    have row : exec .sequenceHeaderStart s = .next (deliverVideo { s with
        v := { s.v with br := s.v.br.take 32, startCode := some 0xB3 }.beginSequenceHeader }) := by
      rw [exec_videoRow_next (e := .startCode 0xB3) rfl, VideoEffect.apply, Video.startCodeRow,
        Video.startCodeArrived_of_sequence (by exact pos)]
    rw [row]
    intro v
    rcases has : v.br.has 1088 with ⟨stored, br⟩
    rw [Video.beginSequenceHeader_eq has, deliverVideo_wait s (by exact nofun)]
    refine ⟨fun ready => ?_, fun missing unknown => by rw [if_pos ⟨missing, unknown⟩]⟩
    have goesOn : ¬ (stored = false ∧ br.ended = false) := by
      rintro ⟨missing, unknown⟩
      simp [missing, unknown] at ready
    rw [if_neg goesOn]

/-! ### The end of a picture (R506-R508) -/

/-- The engine after the emission of frame `f` (R508), its position left out. -/
def Video.emitted (f : Fin 3) (v : Video) : Video :=
  { v.setFrame f { v.frame f with time := v.time } with
    framesDecoded := v.framesDecoded + 1
    time := ((v.framesDecoded + 1 : Nat) : Rat) / v.framerate
    outFrame := some f }

/-- An emission ends its VDECODE (R508). -/
theorem Video.emit_eq (f : Fin 3) (v : Video) : v.emit f = { v.emitted f with pos := .finished } := by
  simp only [Video.emit, Video.emitted, Video.setFrame_framesDecoded, Video.setFrame_framerate]

/-- A VDECODE that returns a frame (R508). -/
theorem deliverVideo_emit (f : Fin 3) (v : Video) (s : State) :
    deliverVideo { s with v := v.emit f } = videoReturns (v.emitted f) s := by
  rw [deliverVideo_of_finished s rfl, Video.emit_eq, videoReturns_pos]

/-- The post-rotation, field by field (R506). -/
theorem Video.postRotate_eq (v : Video) :
    v.postRotate = { v with
      bwd := if v.pictureType = 1 ∨ v.pictureType = 2 then v.cur else v.bwd
      cur := if v.pictureType = 1 ∨ v.pictureType = 2 then v.temp else v.cur } := by
  unfold Video.postRotate
  split <;> rfl

/-- The four cases of output selection (R507, R509). -/
theorem deliverVideo_selectOutput (v : Video) (s : State) :
    deliverVideo { s with v := v.selectOutput } =
      if v.noDelay then
        videoReturns (Video.emitted v.bwd (if v.pictureType = 3 then v.raise .noDelayBPicture else v)) s
      else if v.pictureType = 3 then videoReturns (v.emitted v.cur) s
      else if v.hasReferenceFrame then videoReturns (v.emitted v.fwd) s
      else deliverVideo { s with v := { v with hasReferenceFrame := true }.pictureLoop } := by
  have bwd : (if v.pictureType = 3 then v.raise .noDelayBPicture else v).bwd = v.bwd := by split <;> rfl
  unfold Video.selectOutput
  split
  · dsimp only
    rw [deliverVideo_emit, bwd]
  · split
    · exact deliverVideo_emit _ _ _
    · split
      · exact deliverVideo_emit _ _ _
      · rfl

/-- A start code in a picture that begins no slice and is not passed over ends the picture (R504). -/
theorem Video.startCodeArrived_of_end {x : Byte} {v : Video} (other : x = 0x00 ∨ 0xAF < x.toNat)
    (pos : v.pos = .sliceSearch ∨ (v.pos = .bodySearch ∧ x ≠ 0xB2 ∧ x ≠ 0xB5)) :
    v.startCodeArrived x = { v with startCode := some x }.endPicture := by
  have noSlice : ¬ isSlice x = true := by
    rw [isSlice_iff]
    rcases other with rfl | high
    · decide
    · omega
  have ends : v.afterSlice x = { v with startCode := some x }.endPicture := by
    rw [Video.afterSlice, if_neg noSlice]
  rcases pos with pos | ⟨pos, userData, extension⟩
  · simp only [Video.startCodeArrived, pos, ends]
  · simp only [Video.startCodeArrived, pos, ends, userData, extension, or_self, if_false]

/-- Settles O32: the post-rotation, and the four cases of output selection. -/
theorem otherStartCodesEndThePicture : Obligations.OtherStartCodesEndThePicture := by
  intro x s other pos reference v emitted
  have returns : emitted = fun out w => videoReturns (w.emitted out) s := rfl
  have ends : exec (startCodeInstr x) s = .next (deliverVideo { s with v := v.selectOutput }) := by
    rw [exec_startCodeInstr, Video.startCodeRow, Video.startCodeArrived_of_end other (by exact pos),
      Video.endPicture, Video.postRotate_eq]
  have code : v.startCode = some x := rfl
  clear_value v emitted
  rw [ends, deliverVideo_selectOutput, returns]
  refine congrArg _ (if_congr Iff.rfl rfl (if_congr Iff.rfl rfl (if_congr Iff.rfl rfl ?_)))
  rw [Video.pictureLoop_of_some (by exact code)]
  dsimp only
  split
  · rcases search : v.br.hasStartCode 0x00 with ⟨next, br⟩
    rw [Video.beginPicture_eq (by exact search), deliverVideo_wait s (by exact nofun)]
  · exact deliverVideo_of_unfinished nofun

/-! ### A search that finds nothing (R501, R502, R504) -/

/-- A step at a search that finds no start code (R407). -/
theorem step_of_exhausted {s : State} {br : BitReader} (stands : s.v.syntaxPosition = some .startCode)
    (missing : s.v.br.seekStartCode = (none, br)) :
    step s = .next (deliverVideo { s with v := Video.startCodeExhausted { s.v with br := br } }) := by
  rw [step_of_video_exhausted (Video.busy_of_syntaxPosition stands) (fetchVideo_of_none stands missing)]
  rfl

/-- The search for a sequence header returns NONE (R502). -/
theorem Video.startCodeExhausted_of_sequence {v : Video} (pos : v.pos = .sequenceSearch) :
    v.startCodeExhausted = { v with startCode := none }.returnNone := by
  simp only [Video.startCodeExhausted, pos]

/-- The search for a picture flushes the held-back reference at a known end, or returns NONE (R501 step 3a). -/
theorem Video.startCodeExhausted_of_picture {v : Video} (pos : v.pos = .pictureSearch) :
    v.startCodeExhausted =
      if v.hasReferenceFrame = true ∧ v.noDelay = false ∧ v.br.ended = true then
        { v with startCode := none, hasReferenceFrame := false }.emit v.bwd
      else { v with startCode := none }.returnNone := by
  simp only [Video.startCodeExhausted, pos, Video.endOfPictures, Bool.and_eq_true, Bool.not_eq_true', and_assoc]

/-- The scans behind a picture header and behind a slice end the picture (R504). -/
theorem Video.startCodeExhausted_of_scan {v : Video} (pos : v.pos = .bodySearch ∨ v.pos = .sliceSearch) :
    v.startCodeExhausted = { v with startCode := none }.endPicture := by
  rcases pos with pos | pos <;> simp only [Video.startCodeExhausted, pos]

/-- Settles O33: the four searches, each with what its rule does where no start code is. -/
theorem failedSearches : Obligations.FailedSearches := by
  intro s br stands missing v emitted
  have returns : emitted = fun out w => videoReturns (w.emitted out) s := rfl
  have first := step_of_exhausted stands missing
  refine ⟨fun pos => ?sequence, fun pos => ⟨fun reference delay ended => ?flush, fun noFlush => ?noPicture⟩,
    fun pos => ?picture⟩
  case sequence =>
    rw [first, Video.startCodeExhausted_of_sequence (by exact pos), deliverVideo_returnNone]
  case flush =>
    rw [first, Video.startCodeExhausted_of_picture (by exact pos), if_pos (by exact ⟨reference, delay, ended⟩),
      deliverVideo_emit, returns]
  case noPicture =>
    have stays : ¬ (v.hasReferenceFrame = true ∧ v.noDelay = false ∧ br.ended = true) := by
      rintro ⟨reference, delay, ended⟩
      simp [reference, delay, ended] at noFlush
    rw [first, Video.startCodeExhausted_of_picture (by exact pos), if_neg (by exact stays), deliverVideo_returnNone]
  case picture =>
    intro reference v
    have ends : step s = .next (deliverVideo { s with v := v.selectOutput }) := by
      rw [first, Video.startCodeExhausted_of_scan (by exact pos), Video.endPicture, Video.postRotate_eq]
    have code : v.startCode = none := rfl
    clear_value v emitted
    rw [ends, deliverVideo_selectOutput, returns]
    refine congrArg _ (if_congr Iff.rfl rfl (if_congr Iff.rfl rfl (if_congr Iff.rfl rfl ?_)))
    rw [Video.pictureLoop_of_none (by exact code)]
    exact deliverVideo_of_unfinished nofun

end Sys2Proof.Machine
end

section
/-! What a VDECODE emits: every element but the end of a picture and the flush leaves the frame counter and the
frame that is out; those two may emit one frame, and then the command ends (R501, R507, R508). -/

namespace Sys2Proof.Machine

/-- The frame counter and the frame that is out are as before. -/
structure Video.KeepsOutput (v w : Video) : Prop where
  frames : w.framesDecoded = v.framesDecoded
  out : w.outFrame = v.outFrame

theorem Video.KeepsOutput.refl (v : Video) : v.KeepsOutput v := ⟨rfl, rfl⟩

theorem Video.KeepsOutput.trans {u v w : Video} (h : u.KeepsOutput v) (k : v.KeepsOutput w) : u.KeepsOutput w :=
  ⟨k.frames.trans h.frames, k.out.trans h.out⟩

/-- `w` keeps the output of a state with that of `v`. -/
theorem Video.KeepsOutput.of_same {u v w : Video} (h : u.KeepsOutput w) (frames : u.framesDecoded = v.framesDecoded)
    (out : u.outFrame = v.outFrame) : v.KeepsOutput w := .trans ⟨frames, out⟩ h

/-- Samples and causes are no output. -/
theorem Video.SamplesOnly.keepsOutput {v w : Video} (h : v.SamplesOnly w) : v.KeepsOutput w :=
  ⟨h.framesDecoded, h.outFrame⟩

/-! ### Macroblocks and blocks (R603-R612, R700-R720) -/

theorem Video.sliceError_keepsOutput (c : VideoCause) (v : Video) : v.KeepsOutput (v.sliceError c) := ⟨rfl, rfl⟩

theorem Video.endMacroblock_keepsOutput (v : Video) : v.KeepsOutput v.endMacroblock := by
  unfold Video.endMacroblock
  split
  · dsimp only
    split <;> exact ⟨rfl, rfl⟩
  · exact ⟨rfl, rfl⟩

theorem Video.blocksFrom_keepsOutput (i : Nat) (v : Video) : v.KeepsOutput (v.blocksFrom i) := by
  unfold Video.blocksFrom
  split
  · exact ⟨rfl, rfl⟩
  · exact v.endMacroblock_keepsOutput

theorem Video.patternStage_keepsOutput (v : Video) : v.KeepsOutput v.patternStage := by
  unfold Video.patternStage
  split
  · exact ⟨rfl, rfl⟩
  · exact (blocksFrom_keepsOutput 0 _).of_same rfl rfl

theorem Video.placeCoefficient_keepsOutput (run : Nat) (level : Int) (v : Video) :
    v.KeepsOutput (v.placeCoefficient run level) := by
  unfold Video.placeCoefficient
  dsimp only
  split
  · exact v.sliceError_keepsOutput _
  · exact ⟨rfl, rfl⟩

theorem Video.endBlock_keepsOutput (v : Video) : v.KeepsOutput v.endBlock :=
  (blocksFrom_keepsOutput _ _).of_same v.reconstruct_framesDecoded v.reconstruct_outFrame

/-! ### Addresses (R605) -/

theorem Video.skipMacroblocks_keepsOutput (n : Nat) (v : Video) : v.KeepsOutput (v.skipMacroblocks n) := by
  induction n generalizing v with
  | zero => exact .refl v
  | succ n ih =>
    exact ((predictMacroblock_samplesOnly _).keepsOutput.trans (ih _)).of_same rfl rfl

theorem Video.resetForSkip_keepsOutput (v : Video) : v.KeepsOutput v.resetForSkip := by
  unfold Video.resetForSkip
  dsimp only
  split <;> exact ⟨rfl, rfl⟩

theorem Video.updateAddress_keepsOutput (v : Video) : v.KeepsOutput v.updateAddress := by
  unfold Video.updateAddress
  dsimp only
  split
  · split <;> exact ⟨rfl, rfl⟩
  · split
    · exact v.sliceError_keepsOutput _
    · have reset : v.KeepsOutput (if 1 < v.increment then v.resetForSkip else v) := by
        split
        · exact v.resetForSkip_keepsOutput
        · exact .refl v
      exact (reset.trans (skipMacroblocks_keepsOutput _ _)).trans ⟨rfl, rfl⟩

/-! ### Motion vectors and macroblock types (R606-R609, R801) -/

theorem Video.endMotion_keepsOutput (v : Video) : v.KeepsOutput v.endMotion :=
  v.predictMacroblock_samplesOnly.keepsOutput.trans (patternStage_keepsOutput _)

theorem Video.backwardMotion_keepsOutput (v : Video) : v.KeepsOutput v.backwardMotion := by
  unfold Video.backwardMotion
  split
  · exact ⟨rfl, rfl⟩
  · exact v.endMotion_keepsOutput

theorem Video.beginMotion_keepsOutput (v : Video) : v.KeepsOutput v.beginMotion := by
  unfold Video.beginMotion
  split
  · exact ⟨rfl, rfl⟩
  · split
    · exact (backwardMotion_keepsOutput _).of_same rfl rfl
    · exact v.backwardMotion_keepsOutput

theorem Video.motionElement_keepsOutput (code : Int) (v : Video) : v.KeepsOutput (v.motionElement code) := by
  unfold Video.motionElement
  obtain ⟨backward, vertical⟩ := v.motionTarget
  dsimp only
  generalize MotionState.update vertical code (if backward then v.mb else v.mf) v.br = u
  obtain ⟨m, br⟩ := u
  cases backward <;> cases vertical
  · exact ⟨rfl, rfl⟩
  · exact (backwardMotion_keepsOutput _).of_same rfl rfl
  · exact ⟨rfl, rfl⟩
  · exact (endMotion_keepsOutput _).of_same rfl rfl

theorem Video.macroblockHeader_keepsOutput (t : BitVec 5) (v : Video) : v.KeepsOutput (v.macroblockHeader t) := by
  unfold Video.macroblockHeader
  dsimp only
  generalize scale : (if typeQscale t = true then _ else _ : Video) = w
  have scaled : v.KeepsOutput w := by
    rw [← scale]
    split <;> exact ⟨rfl, rfl⟩
  split
  · exact scaled.trans ((patternStage_keepsOutput _).of_same rfl rfl)
  · exact scaled.trans ((beginMotion_keepsOutput _).of_same rfl rfl)

/-- A codeword emits nothing. -/
theorem VideoEffect.apply_keepsOutput {e : VideoEffect} (h : 0 < e.codeLength) (v : Video) :
    v.KeepsOutput (e.apply v) := by
  cases e with
  | startCode x => cases h
  | sequenceHeader s => cases h
  | pictureHeader p => cases h
  | sliceHeader s => cases h
  | address len t => exact (Video.updateAddress_keepsOutput _).of_same rfl rfl
  | stuffing len => exact ⟨rfl, rfl⟩
  | addressEscape len => exact ⟨rfl, rfl⟩
  | type len t => exact (Video.macroblockHeader_keepsOutput t _).of_same rfl rfl
  | pattern len p => exact (Video.blocksFrom_keepsOutput 0 _).of_same rfl rfl
  | motionZero len => exact (Video.motionElement_keepsOutput 0 _).of_same rfl rfl
  | motion len m sign => exact (Video.motionElement_keepsOutput _ _).of_same rfl rfl
  | dcSize len z => exact ⟨rfl, rfl⟩
  | endOfBlock len => exact (Video.endBlock_keepsOutput _).of_same rfl rfl
  | coefficient len run level sign => exact (Video.placeCoefficient_keepsOutput _ _ _).of_same rfl rfl
  | escape len => exact (Video.placeCoefficient_keepsOutput _ _ _).of_same rfl rfl
  | completedEscape len widths run level => exact (Video.placeCoefficient_keepsOutput _ _ _).of_same rfl rfl
  | reserved len => exact (Video.sliceError_keepsOutput _ _).of_same rfl rfl

/-! ### Headers and searches (R501-R503, R511) -/

theorem Video.beginPicture_keepsOutput (v : Video) : v.KeepsOutput v.beginPicture := by
  unfold Video.beginPicture
  dsimp only
  split <;> exact ⟨rfl, rfl⟩

theorem Video.pictureLoop_keepsOutput (v : Video) : v.KeepsOutput v.pictureLoop := by
  unfold Video.pictureLoop
  split
  · exact v.beginPicture_keepsOutput
  · exact ⟨rfl, rfl⟩

theorem Video.dropPicture_keepsOutput (c : VideoCause) (v : Video) : v.KeepsOutput (v.dropPicture c) :=
  (pictureLoop_keepsOutput _).of_same rfl rfl

theorem Video.beginSequenceHeader_keepsOutput (v : Video) : v.KeepsOutput v.beginSequenceHeader := by
  unfold Video.beginSequenceHeader
  dsimp only
  split <;> exact ⟨rfl, rfl⟩

theorem Video.sequenceLoop_keepsOutput (v : Video) : v.KeepsOutput v.sequenceLoop := by
  unfold Video.sequenceLoop
  split
  · exact v.beginSequenceHeader_keepsOutput
  · exact ⟨rfl, rfl⟩

theorem Video.sequenceHeaderRow_keepsOutput (h : SequenceHeader) (v : Video) :
    v.KeepsOutput (v.sequenceHeaderRow h) := by
  unfold Video.sequenceHeaderRow
  generalize v.br.takeFields sequenceFixedWidths = br
  dsimp only
  split
  · generalize br.takeFields _ = br
    exact (pictureLoop_keepsOutput _).of_same rfl rfl
  · exact ⟨rfl, rfl⟩

theorem Video.beginBody_keepsOutput (v : Video) : v.KeepsOutput v.beginBody := by
  unfold Video.beginBody Video.preRotate
  dsimp only
  split <;> exact ⟨rfl, rfl⟩

theorem Video.backwardCode_keepsOutput (c : VectorCode) (v : Video) : v.KeepsOutput (v.backwardCode c) := by
  unfold Video.backwardCode
  dsimp only
  split
  · exact (dropPicture_keepsOutput _ _).of_same rfl rfl
  · exact (beginBody_keepsOutput _).of_same rfl rfl

theorem Video.vectorCodes_keepsOutput (h : PictureHeader) (v : Video) : v.KeepsOutput (v.vectorCodes h) := by
  unfold Video.vectorCodes
  dsimp only
  split
  · exact (dropPicture_keepsOutput _ _).of_same rfl rfl
  · split
    · exact (backwardCode_keepsOutput _ _).of_same rfl rfl
    · exact (beginBody_keepsOutput _).of_same rfl rfl

theorem Video.pictureHeaderRow_keepsOutput (h : PictureHeader) (v : Video) :
    v.KeepsOutput (v.pictureHeaderRow h) := by
  unfold Video.pictureHeaderRow
  dsimp only
  split
  · exact (beginBody_keepsOutput _).of_same rfl rfl
  · split
    · exact (vectorCodes_keepsOutput _ _).of_same rfl rfl
    · exact (dropPicture_keepsOutput _ _).of_same rfl rfl

/-! ### The end of a picture (R506-R508) -/

/-- An element emits nothing, or it emits one frame and ends the command. -/
inductive Video.Outputs (v w : Video) : Prop
  | nothing (keeps : v.KeepsOutput w)
  | frame (ended : w.pos = .finished) (counted : w.framesDecoded = v.framesDecoded + 1)
      (out : w.outFrame.isSome = true)

theorem Video.Outputs.of_same {u v w : Video} (h : u.Outputs w) (frames : u.framesDecoded = v.framesDecoded)
    (out : u.outFrame = v.outFrame) : v.Outputs w := by
  cases h with
  | nothing keeps => exact .nothing (keeps.of_same frames out)
  | frame ended counted emitted => exact .frame ended (frames ▸ counted) emitted

theorem Video.emit_outputs (f : Fin 3) (v : Video) : v.Outputs (v.emit f) :=
  .frame rfl (by rw [Video.emit_eq, Video.emitted]) rfl

theorem Video.selectOutput_outputs (v : Video) : v.Outputs v.selectOutput := by
  unfold Video.selectOutput
  split
  · dsimp only
    split
    · exact (emit_outputs _ _).of_same rfl rfl
    · exact emit_outputs _ _
  · split
    · exact emit_outputs _ _
    · split
      · exact emit_outputs _ _
      · exact .nothing ((pictureLoop_keepsOutput _).of_same rfl rfl)

theorem Video.endPicture_outputs (v : Video) : v.Outputs v.endPicture := by
  rw [Video.endPicture, Video.postRotate_eq]
  exact (selectOutput_outputs _).of_same rfl rfl

theorem Video.endOfPictures_outputs (v : Video) : v.Outputs v.endOfPictures := by
  unfold Video.endOfPictures
  dsimp only
  split
  · exact (emit_outputs _ _).of_same rfl rfl
  · exact .nothing ⟨rfl, rfl⟩

/-- What an element of a VDECODE emits (R501). -/
theorem Video.Becomes.outputs {v w : Video} (h : v.Becomes w) : v.Outputs w := by
  cases h with
  | passed br code reader busy => exact .nothing ⟨rfl, rfl⟩
  | sequenceFound br code reader search =>
    exact .nothing ((beginSequenceHeader_keepsOutput _).of_same rfl rfl)
  | pictureFound br code reader search => exact .nothing ((beginPicture_keepsOutput _).of_same rfl rfl)
  | sliceFound br code x reader search => exact .nothing ⟨rfl, rfl⟩
  | pictureEnded br code reader search => exact (endPicture_outputs _).of_same rfl rfl
  | noSequence br reader search => exact .nothing ⟨rfl, rfl⟩
  | noPicture br reader search => exact (endOfPictures_outputs _).of_same rfl rfl
  | sequenceHeader h stands => exact .nothing (v.sequenceHeaderRow_keepsOutput h)
  | pictureHeader h stands => exact .nothing (v.pictureHeaderRow_keepsOutput h)
  | sliceHeader h stands => exact .nothing ⟨rfl, rfl⟩
  | codeword e length inside motion => exact .nothing (e.apply_keepsOutput length v)

/-- The engine with the command-local flags and the frame that is out cleared (R1155). -/
def Video.cleared (v : Video) : Video := { v with outFrame := none, raised := false, br.needData := false }

/-- A VDECODE clears, and goes to the loop of the pictures or of the sequence header (R501 steps 1 and 2). -/
theorem Video.beginDecode_eq (v : Video) :
    v.beginDecode = if v.hasSequenceHeader then v.cleared.pictureLoop else v.cleared.sequenceLoop := rfl

/-- A VDECODE begins with no frame out (R1155). -/
theorem Video.beginDecode_keepsOutput (v : Video) : v.cleared.KeepsOutput v.beginDecode := by
  rw [Video.beginDecode_eq]
  split
  · exact pictureLoop_keepsOutput _
  · exact sequenceLoop_keepsOutput _

/-- A VDECODE begins where the cursor stands (R1155). -/
theorem Video.beginDecode_bitIndex (v : Video) : v.br.bitIndex ≤ v.beginDecode.br.bitIndex := by
  rw [Video.beginDecode_eq]
  split
  · exact (pictureLoop_advances v.cleared).reader.cursor
  · exact (sequenceLoop_advances v.cleared).reader.cursor

/-! ### A whole VDECODE (R501, R1152, R1155) -/

/-- What holds behind every element of a VDECODE that `s` has begun. -/
structure State.DecodesTo (s t : State) : Prop where
  audio : t.a = s.a
  queue : t.host = s.host
  bytes : t.v.br.bytes = s.v.br.bytes
  cursor : s.v.br.bitIndex ≤ t.v.br.bitIndex
  counted : t.v.framesDecoded = s.v.framesDecoded + t.v.outFrame.isSome.toNat
  /-- Inside the command no frame is out yet. -/
  running : t.v.pos ≠ .idle → t.v.outFrame = none
  /-- At its end the response word has been delivered. -/
  answered : t.v.pos = .idle → ∃ (v : Video) (u : State), t = videoReturns v u

/-- The delivery of a response word that may be due keeps all this (R1152). -/
theorem State.DecodesTo.delivered {s u : State} {w : Video} (audio : u.a = s.a) (queue : u.host = s.host)
    (bytes : w.br.bytes = s.v.br.bytes) (cursor : s.v.br.bitIndex ≤ w.br.bitIndex)
    (counted : w.framesDecoded = s.v.framesDecoded + w.outFrame.isSome.toNat)
    (running : w.pos ≠ .finished → w.outFrame = none) (busy : w.pos ≠ .idle) :
    s.DecodesTo (deliverVideo { u with v := w }) := by
  by_cases ended : w.pos = .finished
  · rw [deliverVideo_of_finished u ended]
    exact ⟨audio, queue, bytes, cursor, counted, fun inside => absurd rfl inside, fun _ => ⟨w, u, rfl⟩⟩
  · rw [deliverVideo_of_unfinished ended]
    exact ⟨audio, queue, bytes, cursor, counted, fun _ => running ended, fun idle => absurd idle busy⟩

/-- So does the beginning of a VDECODE (R1155). -/
theorem State.DecodesTo.begin (s : State) :
    s.DecodesTo (deliverVideo { s with v := s.v.beginDecode, response := none }) := by
  have frames : s.v.beginDecode.framesDecoded = s.v.framesDecoded := s.v.beginDecode_keepsOutput.frames
  have out : s.v.beginDecode.outFrame = none := s.v.beginDecode_keepsOutput.out
  exact .delivered (u := { s with response := none }) rfl rfl s.v.beginDecode_bytes s.v.beginDecode_bitIndex
    (by simp [frames, out]) (fun _ => out) s.v.beginDecode_outside.1

/-- And so does every element (R501). -/
theorem State.DecodesTo.element {s u : State} {w : Video} (h : s.DecodesTo u) (e : u.v.Element w) :
    s.DecodesTo (deliverVideo { u with v := w }) := by
  have becomes := e.becomes
  have noFrame := h.running becomes.of_busy
  have before : u.v.framesDecoded = s.v.framesDecoded := by simpa [noFrame] using h.counted
  have out : w.framesDecoded = s.v.framesDecoded + w.outFrame.isSome.toNat ∧
      (w.pos ≠ .finished → w.outFrame = none) := by
    cases becomes.outputs with
    | nothing keeps =>
      have still : w.outFrame = none := keeps.out.trans noFrame
      exact ⟨by simp [keeps.frames, before, still], fun _ => still⟩
    | frame ended counted emitted => exact ⟨by simp [counted, before, emitted], fun running => absurd ended running⟩
  exact .delivered h.audio h.queue (becomes.reader.bytes.trans h.bytes) (h.cursor.trans becomes.reader.cursor)
    out.1 out.2 becomes.busy

/-- Settles O16: it ends as its single steps do, and its elements emit one frame at most. -/
theorem vdecodeEnds : Obligations.VdecodeEnds := by
  intro s idle
  obtain ⟨-, t, runs, ended, -⟩ := vdecodeIsItsSteps s idle
  have whole : decodeVideo s = .next t := (videoCommand_next runs).2
  have decodes : s.DecodesTo t := runVideo_keeps (P := s.DecodesTo) (fun e h => h.element e) whole (.begin s)
  obtain ⟨v, u, rfl⟩ := decodes.answered ended
  exact ⟨_, runs, ended, decodes.audio, decodes.queue, decodes.bytes, decodes.cursor, decodes.counted,
    v.br.needData, v.raised, rfl⟩

end Sys2Proof.Machine
end

section
/-! Codewords that leave the command running; the slice header, macroblock stuffing and escape (R601, R602, R604). -/

namespace Sys2Proof.Machine

/-- A codeword leaves the command running: it answers the engine as its row has left it. -/
theorem exec_codeword {i : Instr} {e : VideoEffect} (h : videoEffect i = some e) (code : 0 < e.codeLength)
    (s : State) : exec i s = .next { s with v := e.apply s.v } := by
  rw [exec_videoRow_next h, deliverVideo_of_unfinished]
  intro ended
  have inside := (e.apply_staysInPicture code s.v).1
  rw [ended] at inside
  cases inside

/-- So does the row of a VLC table. -/
theorem exec_tableRow {T : List VlcRow} (table : T ∈ vlcTables) {r : VlcRow} (row : r ∈ T) {sign : Bool}
    {e : VideoEffect} (h : videoEffect (r.make sign) = some e) (s : State) :
    exec (r.make sign) s = .next { s with v := e.apply s.v } := by
  obtain ⟨f, hf, code⟩ := vlc_rows T table r row sign
  obtain rfl : e = f := Option.some.inj (h.symm.trans hf)
  exact exec_codeword h code s

/-- A slice header has a flag and a byte for each extra byte, whatever the bytes are (R312, R602). -/
theorem sliceHeaderWidths_eq (extra : List Byte) :
    sliceHeaderWidths extra = 5 :: (List.replicate extra.length [1, 8]).flatten ++ [1] := by
  rw [sliceHeaderWidths, List.flatMap_def, List.map_const']

/-- Settles O37: the widths of a slice header, and the two codewords that another increment follows. -/
theorem sliceHeaderAndStuffing : Obligations.SliceHeaderAndStuffing := by
  refine ⟨fun h s => ?header, fun s => ⟨?stuffing, ?escape⟩⟩
  case header =>
    have running : (s.v.sliceHeaderRow h).pos ≠ .finished := nofun
    rw [exec_videoRow_next (e := .sliceHeader h) rfl, VideoEffect.apply, deliverVideo_of_unfinished running,
      Video.sliceHeaderRow, sliceHeaderWidths_eq, Video.beginMacroblock]
  case stuffing =>
    rw [exec_codeword (e := .stuffing 11) rfl (by decide), VideoEffect.apply, Video.stuffingRow, Video.takeCodeword]
  case escape =>
    rw [exec_codeword (e := .addressEscape 11) rfl (by decide), VideoEffect.apply, Video.addressEscapeRow,
      Video.takeCodeword]

end Sys2Proof.Machine
end

section
/-! Coded block patterns and the block loop (R603, R610, R611). -/

namespace Sys2Proof.Machine

/-- Block `i` is coded where bit `5 - i` of the pattern is set (R611). -/
theorem blockCoded_eq (cbp : BitVec 6) {i : Nat} (h : i < 6) : blockCoded cbp i = cbp.getLsbD (5 - i) := by
  have mask : ∀ i < 6, 0x20#6 >>> i = BitVec.twoPow 6 (5 - i) ∧ BitVec.twoPow 6 (5 - i) ≠ 0#6 := by decide
  obtain ⟨shifted, nonzero⟩ := mask i h
  rw [blockCoded, shifted, BitVec.and_twoPow]
  cases cbp.getLsbD (5 - i) <;> simp [nonzero]

/-- The block loop goes on with the first coded block (R611). -/
theorem nextCoded_of_first {cbp : BitVec 6} {k i j : Nat} (from_ : i ≤ j) (room : j < i + k)
    (coded : blockCoded cbp j = true) (first : ∀ m, i ≤ m → m < j → blockCoded cbp m = false) :
    nextCoded cbp k i = some j := by
  induction k generalizing i with
  | zero => omega
  | succ k ih =>
    rw [nextCoded]
    rcases from_.eq_or_lt with rfl | later
    · rw [if_pos coded]
    · rw [if_neg (by simp [first i le_rfl later])]
      exact ih later (by omega) fun m low => first m (by omega)

/-- The block loop ends where no block is left that is coded (R611). -/
theorem nextCoded_of_none {cbp : BitVec 6} {k i : Nat} (none_ : ∀ m, i ≤ m → m < i + k → blockCoded cbp m = false) :
    nextCoded cbp k i = none := by
  induction k generalizing i with
  | zero => rfl
  | succ k ih =>
    rw [nextCoded, if_neg (by simp [none_ i le_rfl (by omega)])]
    exact ih fun m low high => none_ m (by omega) (by omega)

/-- The first coded block of a macroblock from block `i` on begins (R611). -/
theorem Video.blocksFrom_of_first {v : Video} {i j : Nat} (from_ : i ≤ j) (room : j < 6)
    (coded : v.cbp.getLsbD (5 - j) = true) (first : ∀ k, i ≤ k → k < j → v.cbp.getLsbD (5 - k) = false) :
    v.blocksFrom i = v.beginBlock j := by
  rw [Video.blocksFrom, nextCoded_of_first from_ (by omega) (by rwa [blockCoded_eq _ room])
    fun m low high => by rw [blockCoded_eq _ (high.trans room), first m low high]]

/-- The macroblock ends where no block is coded from block `i` on (R603, R611). -/
theorem Video.blocksFrom_of_none {v : Video} {i : Nat} (none_ : ∀ j, i ≤ j → j < 6 → v.cbp.getLsbD (5 - j) = false) :
    v.blocksFrom i = v.endMacroblock := by
  rw [Video.blocksFrom, nextCoded_of_none fun m low high => ?_]
  have room : m < 6 := by omega
  rw [blockCoded_eq _ room, none_ m low room]

/-- A pattern that is not 0 has a first coded block. -/
theorem exists_first_coded {pattern : Nat} (some_ : 1 ≤ pattern) (bound : pattern < 64) :
    ∃ i < 6, pattern.testBit (5 - i) = true ∧ ∀ j < i, pattern.testBit (5 - j) = false := by
  have coded : ∃ i, i < 6 ∧ pattern.testBit (5 - i) = true := by
    obtain ⟨k, bit⟩ := Nat.exists_testBit_of_ne_zero (Nat.ne_of_gt some_)
    have high : k < 6 := (Nat.pow_lt_pow_iff_right (by decide)).1
      ((Nat.ge_two_pow_of_testBit bit).trans_lt bound)
    exact ⟨5 - k, by omega, by rwa [show 5 - (5 - k) = k by omega]⟩
  refine ⟨Nat.find coded, (Nat.find_spec coded).1, (Nat.find_spec coded).2, fun j before => ?_⟩
  have room := (Nat.find_spec coded).1
  have notFirst := Nat.find_min coded before
  simpa [before.trans room] using notFirst

/-- Settles O41: the first coded block of a pattern, the next one behind a block, and the end of the macroblock. -/
theorem codedBlockPatternsAndLoop : Obligations.CodedBlockPatternsAndLoop := by
  refine ⟨?patterns, fun i v bound => ⟨?next, ?last⟩⟩
  case patterns =>
    intro r row pattern value s
    obtain ⟨some_, bound, effect⟩ := pattern_rows r row pattern value
    obtain ⟨i, room, coded, first⟩ := exists_first_coded some_ bound
    have latched : ∀ j, (BitVec.ofNat 6 pattern).getLsbD (5 - j) = pattern.testBit (5 - j) := fun j => by
      rw [BitVec.getLsbD_ofNat, decide_eq_true (by omega), Bool.true_and]
    refine ⟨i, room, coded, first, ?_⟩
    rw [exec_tableRow (T := cbpTable) (by simp [vlcTables]) row effect, VideoEffect.apply, Video.patternRow,
      Video.blocksFrom_of_first (Nat.zero_le i) room ((latched i).trans coded)
        fun j _ before => (latched j).trans (first j before)]
    rfl
  case next =>
    intro j low high coded first
    exact Video.blocksFrom_of_first low high coded first
  case last =>
    intro none_
    rw [Video.blocksFrom_of_none none_]
    rfl

end Sys2Proof.Machine
end

section
/-! Macroblock types: the type and its quantizer scale, then blocks without prediction, or the vectors and the
prediction (R606-R610, R801, R809). -/

namespace Sys2Proof.Machine

/-! ### The flags of a type (R106, R321) -/

@[simp] theorem typeIntra_ofNat (t : Nat) : typeIntra (BitVec.ofNat 5 t) = t.testBit 0 := BitVec.getLsbD_ofNat 5 t 0

@[simp] theorem typePattern_ofNat (t : Nat) : typePattern (BitVec.ofNat 5 t) = t.testBit 1 :=
  BitVec.getLsbD_ofNat 5 t 1

@[simp] theorem typeBackward_ofNat (t : Nat) : typeBackward (BitVec.ofNat 5 t) = t.testBit 2 :=
  BitVec.getLsbD_ofNat 5 t 2

@[simp] theorem typeForward_ofNat (t : Nat) : typeForward (BitVec.ofNat 5 t) = t.testBit 3 :=
  BitVec.getLsbD_ofNat 5 t 3

@[simp] theorem typeQscale_ofNat (t : Nat) : typeQscale (BitVec.ofNat 5 t) = t.testBit 4 :=
  BitVec.getLsbD_ofNat 5 t 4

/-- An intra type has neither a pattern nor a vector (R321). -/
theorem intra_type_rows : ∀ T ∈ [mbtITable, mbtPTable, mbtBTable], ∀ r ∈ T, ∀ t ∈ r.value, t.testBit 0 = true →
    t.testBit 1 = false ∧ t.testBit 2 = false ∧ t.testBit 3 = false := by decide +kernel

/-- A type of a P picture has no backward vector; one with no vector at all and not intra has a pattern (R321). -/
theorem predicted_type_rows : ∀ r ∈ mbtPTable, ∀ t ∈ r.value,
    t.testBit 2 = false ∧ (t.testBit 0 = false → t.testBit 3 = false → t.testBit 1 = true) := by decide +kernel

/-! ### The type latched (R606, R607) -/

/-- The engine with a type latched, and the quantizer scale where the type has one (R606, R607). -/
def Video.typeLatched (t : BitVec 5) (v : Video) : Video :=
  { v with
    br := if typeQscale t then v.br.take 5 else v.br
    quantizerScale := if typeQscale t then BitVec.ofNat 5 (v.br.read 5).1 else v.quantizerScale
    macroblockType := t
    macroblockIntra := typeIntra t
    mf.isSet := typeForward t
    mb.isSet := typeBackward t }

@[simp] theorem Video.typeLatched_pictureType (t : BitVec 5) (v : Video) :
    (v.typeLatched t).pictureType = v.pictureType := rfl
@[simp] theorem Video.typeLatched_macroblockType (t : BitVec 5) (v : Video) :
    (v.typeLatched t).macroblockType = t := rfl
@[simp] theorem Video.typeLatched_macroblockIntra (t : BitVec 5) (v : Video) :
    (v.typeLatched t).macroblockIntra = typeIntra t := rfl
@[simp] theorem Video.typeLatched_forward (t : BitVec 5) (v : Video) :
    (v.typeLatched t).mf.isSet = typeForward t := rfl
@[simp] theorem Video.typeLatched_backward (t : BitVec 5) (v : Video) :
    (v.typeLatched t).mb.isSet = typeBackward t := rfl

/-- The type is latched; then R608 or R609. -/
theorem Video.macroblockHeader_eq (t : BitVec 5) (v : Video) :
    v.macroblockHeader t =
      let w := v.typeLatched t
      if typeIntra t then { w with mf := w.mf.zeroVector, mb := w.mb.zeroVector }.patternStage
      else { w with dcPredictor := dcReset }.beginMotion := by
  rw [Video.macroblockHeader, Video.typeLatched]
  cases typeQscale t <;> rfl

/-! ### What follows a type (R608-R610, R801) -/

/-- With every block coded, block 0 begins (R611). -/
theorem Video.blocksFrom_of_whole {v : Video} (whole : v.cbp = 0x3F) : v.blocksFrom 0 = v.beginBlock 0 :=
  blocksFrom_of_first le_rfl (by decide) (by rw [whole]; decide) fun _ _ before => absurd before (Nat.not_lt_zero _)

/-- The pattern stage of an intra macroblock without a pattern: every block is coded, and block 0 begins (R610). -/
theorem Video.patternStage_of_intra {v : Video} (implied : typePattern v.macroblockType = false)
    (intra : v.macroblockIntra = true) :
    v.patternStage = { v with cbp := 0x3F, block := 0, coefficientPos := 0, pos := .dcSize } := by
  rw [Video.patternStage, if_neg (by simp [implied]), if_pos intra, Video.blocksFrom_of_whole (by exact rfl),
    Video.beginBlock, if_pos (by exact intra)]

/-- The pattern stage of a macroblock whose type has a pattern (R610). -/
theorem Video.patternStage_of_pattern {v : Video} (pattern : typePattern v.macroblockType = true) :
    v.patternStage = { v with pos := .codedBlockPattern } := by
  rw [Video.patternStage, if_pos pattern]

/-- The vectors begin with the forward one where it is set (R801). -/
theorem Video.beginMotion_of_forward {v : Video} (forward : v.mf.isSet = true) :
    v.beginMotion = { v with pos := .motion false false } := by
  rw [Video.beginMotion, if_pos forward]

/-- Without a forward vector, but in a P picture, they begin with the backward one where it is set (R801). -/
theorem Video.beginMotion_of_backward {v : Video} (noForward : v.mf.isSet = false) (other : v.pictureType ≠ 2)
    (backward : v.mb.isSet = true) : v.beginMotion = { v with pos := .motion true false } := by
  rw [Video.beginMotion, if_neg (by simp [noForward]), if_neg other, Video.backwardMotion, if_pos backward]

/-- Without a vector a macroblock of a P picture is predicted from the forward vector 0 (R801, R809). -/
theorem Video.beginMotion_of_noVector {v : Video} (noForward : v.mf.isSet = false) (predicted : v.pictureType = 2)
    (noBackward : v.mb.isSet = false) : v.beginMotion = { v with mf := v.mf.zeroVector }.endMotion := by
  rw [Video.beginMotion, if_neg (by simp [noForward]), if_pos predicted, Video.backwardMotion,
    if_neg (by simp [noBackward])]

/-! ### The rows of the tables -/

/-- The meaning of a row of a table of types, by the bits of its flag mask (R606). -/
theorem exec_typeRow {T : List VlcRow} (table : T ∈ [mbtITable, mbtPTable, mbtBTable]) {r : VlcRow} (row : r ∈ T)
    {t : Nat} (value : r.value = some t) (s : State) :
    exec (r.make false) s =
      .next { s with v := (s.v.takeCodeword r.len).macroblockHeader (BitVec.ofNat 5 t) } := by
  obtain ⟨-, effect⟩ := type_rows T table r row t value
  have listed : T ∈ vlcTables := (by simp [vlcTables] : [mbtITable, mbtPTable, mbtBTable] ⊆ vlcTables) table
  exact exec_tableRow listed row effect s

/-- Settles O39: an intra type has no pattern and no vector, so all six blocks are coded and both vectors are 0. -/
theorem intraMacroblockTypes : Obligations.IntraMacroblockTypes := by
  intro T table r row t value intra s
  obtain ⟨noPattern, noBackward, noForward⟩ := intra_type_rows T table r row t value intra
  rw [exec_typeRow table row value, Video.macroblockHeader_eq, if_pos (by simpa using intra),
    Video.patternStage_of_intra (by simpa using noPattern) (by simpa using intra)]
  simp [Video.typeLatched, MotionState.zeroVector, intra, noBackward, noForward]

/-- Settles O40: with a vector its first component follows; without one, in a P picture, the macroblock is
predicted. -/
theorem nonIntraMacroblockTypes : Obligations.NonIntraMacroblockTypes := by
  refine ⟨?vector, ?noVector⟩
  case vector =>
    rintro e listed r row t value nonIntra vector s picture
    have table : e.1 ∈ [mbtITable, mbtPTable, mbtBTable] := by
      rcases List.mem_pair.1 listed with rfl | rfl <;> simp
    rw [exec_typeRow table row value, Video.macroblockHeader_eq, if_neg (by simp [nonIntra])]
    cases forward : t.testBit 3 with
    | true =>
      rw [Video.beginMotion_of_forward (by simpa using forward)]
      simp [Video.typeLatched, dcReset, nonIntra, forward]
    | false =>
      have backward : t.testBit 2 = true := by simpa [forward] using vector
      have other : s.v.pictureType ≠ 2 := by
        rcases List.mem_pair.1 listed with rfl | rfl
        · exact absurd backward (by simp [(predicted_type_rows r row t value).1])
        · simp [picture]
      rw [Video.beginMotion_of_backward (by simpa using forward) (by simpa using other) (by simpa using backward)]
      simp [Video.typeLatched, dcReset, nonIntra, forward, backward]
  case noVector =>
    intro r row t value nonIntra noForward s picture
    obtain ⟨noBackward, hasPattern⟩ := predicted_type_rows r row t value
    have pattern := hasPattern nonIntra noForward
    rw [exec_typeRow (T := mbtPTable) (by simp) row value, Video.macroblockHeader_eq, if_neg (by simp [nonIntra]),
      Video.beginMotion_of_noVector (by simpa using noForward) (by simpa using picture) (by simpa using noBackward),
      Video.endMotion, Video.patternStage_of_pattern (by simpa using pattern)]
    simp [Video.typeLatched, MotionState.zeroVector, dcReset, nonIntra, noForward, noBackward]

end Sys2Proof.Machine
end

section
/-! The address update: the first macroblock of a slice, and those skipped up to the next coded one (R605, R206). -/

namespace Sys2Proof.Machine

/-! ### Skipped macroblocks -/

/-- The engine at the macroblock of address `a`, in a picture so many macroblocks wide (R206). -/
def Video.placedAt (width : BitVec 9) (a : Word) (v : Video) : Video :=
  { v with
    macroblockAddress := a
    mbRow := BitVec.ofInt 9 (a.toInt.tdiv width.toNat)
    mbCol := BitVec.ofInt 9 (a.toInt.tmod width.toNat) }

/-- The engine with its new address has the row and the column of that address (R206). -/
theorem Video.locate_eq_placedAt {v : Video} {width : BitVec 9} (h : v.mbWidth = width) (a : Word) :
    { v with macroblockAddress := a }.locate = v.placedAt width a := by
  subst h
  rfl

/-- The address register so many macroblocks on. -/
theorem add_ofNat_eq_ofInt (x : Word) (n : Nat) : x + BitVec.ofNat 32 n = BitVec.ofInt 32 (x.toInt + n) := by
  rw [BitVec.ofInt_add, BitVec.ofInt_toInt, BitVec.ofInt_natCast]

/-- A skip run is its macroblocks up to the last, and then the last (R605). -/
theorem Video.skipMacroblocks_succ (n : Nat) (v : Video) :
    v.skipMacroblocks (n + 1) =
      { v.skipMacroblocks n with
        macroblockAddress := (v.skipMacroblocks n).macroblockAddress + 1 }.locate.predictMacroblock := by
  induction n generalizing v with
  | zero => rfl
  | succ n ih => rw [Video.skipMacroblocks, ih, ← Video.skipMacroblocks]

/-- The address behind a skip run (R605). -/
theorem Video.skipMacroblocks_macroblockAddress (n : Nat) (v : Video) :
    (v.skipMacroblocks n).macroblockAddress = v.macroblockAddress + BitVec.ofNat 32 n := by
  rw [v.skipMacroblocks_eq n]

theorem Video.skipMacroblocks_mbWidth (n : Nat) (v : Video) : (v.skipMacroblocks n).mbWidth = v.mbWidth := by
  rw [v.skipMacroblocks_eq n]

/-- The macroblock behind a skip run of `n` (R605). -/
theorem Video.locate_behind_skip (n : Nat) (v : Video) :
    { v.skipMacroblocks n with macroblockAddress := (v.skipMacroblocks n).macroblockAddress + 1 }.locate =
      (v.skipMacroblocks n).placedAt v.mbWidth (BitVec.ofInt 32 (v.macroblockAddress.toInt + 1 + n)) := by
  have next : v.macroblockAddress + BitVec.ofNat 32 n + 1 = BitVec.ofInt 32 (v.macroblockAddress.toInt + 1 + n) := by
    rw [add_ofNat_eq_ofInt, Int.add_right_comm, BitVec.ofInt_add _ 1]
    rfl
  rw [Video.locate_eq_placedAt (v.skipMacroblocks_mbWidth n), Video.skipMacroblocks_macroblockAddress, next]

/-- A skip run places the engine at each of its macroblocks and predicts it (R605, R809). -/
theorem Video.skipMacroblocks_eq_foldl (n : Nat) (v : Video) :
    v.skipMacroblocks n = (List.range n).foldl (fun w k =>
      (w.placedAt v.mbWidth (BitVec.ofInt 32 (v.macroblockAddress.toInt + 1 + k))).predictMacroblock) v := by
  induction n with
  | zero => rfl
  | succ n ih =>
    rw [Video.skipMacroblocks_succ, Video.locate_behind_skip, List.range_succ, List.foldl_append, ← ih,
      List.foldl_cons, List.foldl_nil]

/-! ### The address update (R605) -/

/-- Behind the first macroblock of a slice the flag is clear (R605). -/
theorem Video.eq_of_begun {v : Video} (begun : v.sliceBegin = false) : v = { v with sliceBegin := false } := by
  rw [← begun]

/-- A first macroblock at or beyond the end of the picture ends the slice (R605, R612). -/
theorem Video.updateAddress_of_first_outside {v : Video} (begins : v.sliceBegin = true)
    (outside : (v.mbSize.toNat : Int) ≤ v.macroblockAddress.toInt + v.increment) :
    v.updateAddress =
      { v with
        sliceBegin := false
        macroblockAddress := storedAddress (v.macroblockAddress.toInt + v.increment) }.sliceError
          .mbAddressRange := by
  rw [Video.updateAddress, if_pos begins, if_pos outside]

/-- So does a next macroblock there, and the address stays (R605, R612). -/
theorem Video.updateAddress_of_next_outside {v : Video} (begun : v.sliceBegin = false)
    (outside : (v.mbSize.toNat : Int) ≤ v.macroblockAddress.toInt + v.increment) :
    v.updateAddress = v.sliceError .mbAddressRange := by
  rw [Video.updateAddress, if_neg (by simp [begun]), if_pos outside]

/-- The first macroblock of a slice (R605). -/
theorem Video.updateAddress_of_first {v : Video} (begins : v.sliceBegin = true)
    (inside : v.macroblockAddress.toInt + v.increment < (v.mbSize.toNat : Int)) :
    v.updateAddress =
      { { v with sliceBegin := false }.placedAt v.mbWidth
          (storedAddress (v.macroblockAddress.toInt + v.increment)) with pos := .macroblockType } := by
  rw [Video.updateAddress, if_pos begins, if_neg (not_le.2 inside)]
  rfl

/-- The predictor resets before a next macroblock, made where macroblocks are skipped (R605). -/
theorem Video.resetForSkip_eq (v : Video) :
    v.resetForSkip = { v with
      dcPredictor := dcReset
      mf := if v.pictureType = 2 then v.mf.zeroVector else v.mf } := by
  rw [Video.resetForSkip]
  split <;> rfl

/-- A next macroblock of a slice, behind the skipped ones (R605). -/
theorem Video.updateAddress_of_next {v : Video} (begun : v.sliceBegin = false) (some_ : 1 ≤ v.increment)
    (inside : v.macroblockAddress.toInt + v.increment < (v.mbSize.toNat : Int)) :
    v.updateAddress =
      let reset := if 1 < v.increment then v.resetForSkip else v
      let skipped := ((List.range (v.increment - 1)).map Nat.cast).foldl (fun w (k : Int) =>
        (w.placedAt v.mbWidth (BitVec.ofInt 32 (v.macroblockAddress.toInt + 1 + k))).predictMacroblock) reset
      { skipped.placedAt v.mbWidth (BitVec.ofInt 32 (v.macroblockAddress.toInt + v.increment)) with
        pos := .macroblockType } := by
  rw [Video.updateAddress, if_neg (by simp [begun]), if_neg (not_le.2 inside)]
  have same : ∀ u : Video, (if 1 < v.increment then v.resetForSkip else v) = u →
      u.macroblockAddress = v.macroblockAddress ∧ u.mbWidth = v.mbWidth ∧ u.increment = v.increment := by
    rintro u rfl
    rw [Video.resetForSkip_eq]
    split <;> exact ⟨rfl, rfl, rfl⟩
  generalize (if 1 < v.increment then v.resetForSkip else v) = u at same ⊢
  obtain ⟨address, width, increment⟩ := same u rfl
  have last : v.macroblockAddress.toInt + 1 + (v.increment - 1 : Nat) =
      v.macroblockAddress.toInt + v.increment := by omega
  dsimp only
  rw [List.foldl_map, Video.locate_behind_skip, Video.skipMacroblocks_eq_foldl, address, width, increment, last]

/-- Settles O38: the address of the sum where it lies in the picture, and the end of the slice where it does not. -/
theorem addressIncrements : Obligations.AddressIncrements := by
  refine ⟨?stored, ?position, ?rows⟩
  case stored =>
    intro x low high
    rw [storedAddress_of_fits low high, BitVec.toInt_ofInt_eq_self (by decide) low high]
  case position =>
    intro a w h inside hw hh
    have pos : 0 < w := Nat.pos_of_mul_pos_right (Nat.zero_lt_of_lt inside)
    have row : a / w < h := Nat.div_lt_of_lt_mul inside
    have col : a % w < w := Nat.mod_lt _ pos
    refine ⟨?_, ?_, row, col⟩
    · rw [← Int.ofNat_tdiv, toNat_ofInt9 (by omega)]
    · rw [← Int.ofNat_tmod, toNat_ofInt9 (by omega)]
  case rows =>
    intro r row inc value small s total old address v located outside
    obtain ⟨some_, effect⟩ := address_rows r row inc value small
    rw [exec_tableRow (T := mbaTable) (by simp [vlcTables]) row effect, VideoEffect.apply, Video.addressRow]
    refine congrArg (fun w => Host.Outcome.next { s with v := w }) ?_
    have test : (s.v.mbSize.toNat : Int) ≤ address ↔ ¬ address < s.v.mbSize.toNat := not_lt.symm
    cases begins : s.v.sliceBegin with
    | true =>
      rw [if_pos rfl]
      split
      · next inside => exact Video.updateAddress_of_first begins inside
      · next beyond => exact Video.updateAddress_of_first_outside begins (test.2 beyond)
    | false =>
      rw [if_neg (by decide)]
      refine (congrArg Video.updateAddress (Video.eq_of_begun (by exact begins))).trans ?_
      split
      · next inside =>
        refine (Video.updateAddress_of_next rfl (Nat.le_add_left_of_le some_) inside).trans ?_
        rw [Video.resetForSkip_eq, bind_pure_comp, List.map_eq_map]
        rfl
      · next beyond => exact Video.updateAddress_of_next_outside rfl (test.2 beyond)

end Sys2Proof.Machine
end

section
/-! The floor shift, and blocks up to their last coefficient: the intra DC, the dequantized coefficients, and the
escape (R9, R702, R703, R706-R713). -/

namespace Sys2Proof.Machine

/-! ### Numbers (R9, R315, R702) -/

/-- The floor shift is the floor of the quotient (R9). -/
theorem floor_div_of_pow {d : Rat} {n : Nat} (power : d = (2 ^ n : Nat)) (m : Int) :
    ⌊(m : Rat) / d⌋ = floorShift m n := by
  rw [power, Rat.floor_intCast_div_natCast, floorShift]
  norm_cast

/-- The highest bit of a field is set in its upper half. -/
theorem testBit_pred_iff {z u : Nat} (some_ : z ≠ 0) (field : u < 2 ^ z) :
    u.testBit (z - 1) = true ↔ 2 ^ (z - 1) ≤ u := by
  refine ⟨Nat.ge_two_pow_of_testBit, fun upper => ?_⟩
  obtain ⟨k, rfl⟩ := Nat.exists_eq_succ_of_ne_zero some_
  exact Nat.testBit_of_two_pow_le_and_two_pow_add_one_gt upper field

/-- A differential by the half of its field (R702). -/
theorem dcDifferential_eq {z u : Nat} (field : u < 2 ^ z) :
    dcDifferential z u = if z = 0 then 0 else if 2 ^ (z - 1) ≤ u then (u : Int) else u + 1 - 2 ^ z := by
  rw [dcDifferential]
  split
  · rfl
  · next some_ =>
    simp only [testBit_pred_iff some_ field]
    split
    · rfl
    · ring

/-- The level of a short escape is its byte as a signed number; 128 is the long form's (R315). -/
theorem shortLevel_eq_toInt {l : Byte} (long : l ≠ 128) : shortLevel l = l.toInt := by
  have other : l.toNat ≠ 128 := fun e => long (BitVec.eq_of_toNat_eq e)
  rw [shortLevel, BitVec.toInt_eq_toNat_cond]
  split <;> split <;> omega

/-- The level fields of an escape, by its first byte (R706). -/
theorem readEscapeLevel_eq (b : BitReader) :
    let level8 := (b.read 8).1
    let b2 := (b.read 8).2
    let level2 := (b2.read 8).1
    readEscapeLevel b =
      (if level8 = 0 then (level2 : Int)
        else if level8 = 128 then (level2 : Int) - 256
        else if 128 < level8 then (level8 : Int) - 256
        else (level8 : Int),
        if level8 = 0 ∨ level8 = 128 then (b2.read 8).2 else b2) := by
  have byte (c : BitReader) : (BitVec.ofNat 8 (c.read 8).1).toNat = (c.read 8).1 :=
    Nat.mod_eq_of_lt (c.read_lt 8)
  unfold readEscapeLevel
  dsimp only
  split
  · next zero => simp [zero, longPositiveLevel, byte]
  · next nonzero =>
    split
    · next high => simp [high, longNegativeLevel, byte]
    · next other => simp [nonzero, other, shortLevel, byte]

/-! ### Coefficients (R708-R713) -/

/-- The value of a coefficient (R710-R713). -/
theorem Video.coefficient_eq (v : Video) (natural : Nat) (level : Int) :
    let matrix := if v.macroblockIntra then v.intraQuantMatrix else v.nonIntraQuantMatrix
    let doubled :=
      if v.macroblockIntra then 2 * level
      else if level < 0 then 2 * level - 1 else 2 * level + 1
    let scaled :=
      ⌊((doubled * v.quantizerScale.toNat * (matrix.getD natural 0).toNat : Int) : Rat) / 16⌋
    let odd := if scaled % 2 = 0 then (if 0 < scaled then scaled - 1 else scaled + 1) else scaled
    v.coefficient natural level = min 2047 (max (-2048) odd) * premultiplier natural := by
  have sixteenth := floor_div_of_pow (d := 16) (n := 4) (by norm_num)
  have negative : 2 * level < 0 ↔ level < 0 := by omega
  simp only [sixteenth, Video.coefficient, dequantize, clip, oddCorrect, scaleLevel, Video.quantMatrix, negative,
    mul_comm level 2]

/-- A coefficient within the block (R708, R709). -/
theorem Video.placeCoefficient_of_lt {v : Video} {run : Nat} (room : v.coefficientPos + run < 64) (level : Int) :
    v.placeCoefficient run level = { v with
      blockData := v.blockData.set (zigzag (v.coefficientPos + run))
        (v.coefficient (zigzag (v.coefficientPos + run)) level)
      coefficientPos := v.coefficientPos + run + 1
      pos := .coefficient } := by
  rw [Video.placeCoefficient, if_neg (not_le.2 room)]

/-- A coefficient beyond position 63 ends the slice (R708, R612). -/
theorem Video.placeCoefficient_of_le {v : Video} {run : Nat} (beyond : 64 ≤ v.coefficientPos + run) (level : Int) :
    v.placeCoefficient run level = v.sliceError .coefPositionRange := by
  rw [Video.placeCoefficient, if_pos beyond]

/-- A row of a coefficient, completed or from the table: its bits are consumed and its coefficient is placed. -/
def PlacesCoefficient (i : Instr) (b : BitReader → BitReader) (run : Nat) (level : Int) : Prop :=
  ∀ s, exec i s = .next { s with v := { s.v with br := b s.v.br }.placeCoefficient run level }

/-- A coefficient of table DCT (R705, R707). -/
theorem tableRow_placesCoefficient {T : List VlcRow} (table : T ∈ [dctFirstTable, dctNextTable]) {r : VlcRow}
    (row : r ∈ T) (signed : r.signed = true) {packed : Nat} (value : r.value = some packed) (sign : Bool) :
    PlacesCoefficient (r.make sign) (fun b => (b.takeOnes r.len).take 1) (packed / 256)
      (if sign then -((packed % 256 : Nat) : Int) else ((packed % 256 : Nat) : Int)) := by
  have listed : T ∈ vlcTables := (by simp [vlcTables] : [dctFirstTable, dctNextTable] ⊆ vlcTables) table
  exact exec_tableRow listed row (coefficient_rows T table r row signed packed value sign)

/-- A completed escape (R315, R706). -/
theorem escape_placesCoefficient {i : Instr} {widths : List Nat} {run : BitVec 6} {level : Int}
    (fields : BitReader → BitReader) (consumes : ∀ b : BitReader, b.takeFields widths = fields b)
    (effect : videoEffect i = some (.completedEscape 6 widths run level)) :
    PlacesCoefficient i (fun b => fields (b.takeOnes 6)) run.toNat level := by
  simp only [← consumes]
  exact exec_codeword effect (by decide : 0 < 6)

/-- Settles O46: every coefficient row places its coefficient, in the block or beyond it. -/
theorem coefficients : Obligations.Coefficients := by
  intro i b run level row s
  have places : PlacesCoefficient i b run level := by
    rcases row with ⟨T, table, r, listed, packed, sign, signed, value, rfl, rfl, rfl, rfl⟩ |
      ⟨r, l, rfl, -, short, rfl, rfl, rfl⟩ | ⟨r, l, rfl, rfl, rfl, rfl⟩ | ⟨r, l, rfl, rfl, rfl, rfl⟩
    · exact tableRow_placesCoefficient table listed signed value sign
    · rw [← shortLevel_eq_toInt short]
      exact escape_placesCoefficient (fun b => (b.take 6).take 8) (fun _ => rfl) rfl
    · exact escape_placesCoefficient (fun b => ((b.take 6).take 8).take 8) (fun _ => rfl) rfl
    · exact escape_placesCoefficient (fun b => ((b.take 6).take 8).take 8) (fun _ => rfl) rfl
  refine ⟨fun room => ?placed, fun beyond => ?outside⟩
  case placed =>
    rw [places, Video.placeCoefficient_of_lt (by exact room), Video.coefficient_eq]
  case outside =>
    rw [places, Video.placeCoefficient_of_le (by exact beyond)]
    rfl

/-- A DC size reads its differential behind the codeword (R702). -/
theorem Video.dcSizeRow_eq (len z : Nat) (v : Video) :
    v.dcSizeRow len z =
      { v with br := (v.br.takeOnes len).take z }.placeDc
        (dcDifferential z ((v.br.takeOnes len).read z).1) := rfl

/-- The bare escape reads its run and its level behind the codeword (R706). -/
theorem Video.escapeRow_eq (len : Nat) (v : Video) :
    v.escapeRow len =
      let run := (v.br.takeOnes len).read 6
      let level := readEscapeLevel run.2
      { v with br := level.2 }.placeCoefficient run.1 level.1 := rfl

/-- Settles O45: the differential by the half of its field, added to the predictor of the block's plane. -/
theorem dcSizes : Obligations.DcSizes := by
  intro T table r row z value s b
  have listed : T ∈ vlcTables := (by simp [vlcTables] : [dcYTable, dcCTable] ⊆ vlcTables) table
  obtain ⟨-, effect⟩ := dcSize_rows T table r row z value
  rw [exec_tableRow listed row effect, VideoEffect.apply, Video.dcSizeRow_eq,
    dcDifferential_eq (BitReader.read_lt z b), Video.placeDc]
  simp only [mul_comm _ (256 : Int)]
  rfl

/-- Settles O47: the run and the level fields, read one behind the other. -/
theorem bareEscape : Obligations.BareEscape := by
  intro s
  rw [exec_videoRow_next (e := .escape 6) rfl, VideoEffect.apply, Video.escapeRow_eq]
  simp only [readEscapeLevel_eq]

end Sys2Proof.Machine
end

section
/-! The inverse transform: T8, its two passes, and the transform of the DC coefficient alone (R716, R717, R721). -/

namespace Sys2Proof.Machine

/-! ### T8 (R716) -/

theorem transform8_length (c : Nat → Int) : (transform8 c).length = 8 := rfl

/-- With the first input alone every output of T8 is that input (R716, R721). -/
theorem transform8_of_first {c : Nat → Int} (zero : ∀ j, 0 < j → j < 8 → c j = 0) :
    transform8 c = List.replicate 8 (c 0) := by
  simp [transform8, floorShift, zero]

/-! ### The passes (R717) -/

/-- An entry of rows of one length, written one behind the other. -/
theorem getD_flatMap_range {α : Type} (f : Nat → List α) {m n r x : Nat} (length : ∀ k < n, (f k).length = m)
    (row : r < n) (column : x < m) (d : α) : ((List.range n).flatMap f).getD (m * r + x) d = (f r).getD x d := by
  induction n with
  | zero => omega
  | succ n ih =>
    have short : ∀ k < n, (f k).length = m := fun k bound => length k (Nat.lt_succ_of_lt bound)
    have before : ((List.range n).flatMap f).length = m * n := by
      rw [List.length_flatMap, List.map_congr_left fun k inside => short k (List.mem_range.1 inside)]
      simp [Nat.mul_comm]
    rw [List.range_succ, List.flatMap_append, List.flatMap_singleton]
    rcases Nat.lt_succ_iff_lt_or_eq.1 row with earlier | rfl
    · have inside : m * r + x < m * n :=
        (Nat.add_lt_add_left column _).trans_le (Nat.mul_le_mul_left m earlier)
      rw [List.getD_append _ _ _ _ (before ▸ inside)]
      exact ih short earlier
    · rw [List.getD_append_right _ _ _ _ (by omega), before, Nat.add_sub_cancel_left]

theorem columnPass_length (block : List Int) : (columnPass block).length = 64 := by
  simp [columnPass]

/-- Column `x` behind the column pass is T8 of column `x` (R717). -/
theorem columnPass_getD (block : List Int) {x y : Nat} (column : x < 8) (row : y < 8) :
    (columnPass block).getD (8 * y + x) 0 = (transform8 fun j => block.getD (8 * j + x) 0).getD y 0 := by
  have index : 8 * y + x < 64 := by omega
  have quotient : (8 * y + x) / 8 = y := by omega
  have remainder : (8 * y + x) % 8 = x := by omega
  simp [columnPass, List.getD_eq_getElem?_getD, index, quotient, remainder, column]

theorem inverseTransform_length (block : List Int) : (inverseTransform block).length = 64 := by
  simp [inverseTransform, rowPass, transform8_length, List.length_flatMap]

/-- Row `y` of the transform is T8 of row `y` behind the column pass, rounded (R717). -/
theorem inverseTransform_getD (block : List Int) {x y : Nat} (column : x < 8) (row : y < 8) :
    (inverseTransform block).getD (8 * y + x) 0 =
      floorShift ((transform8 fun j => (columnPass block).getD (8 * y + j) 0).getD x 0 + 128) 8 := by
  rw [inverseTransform, rowPass, getD_flatMap_range _ (fun k _ => by simp [transform8_length]) row column]
  rw [List.getD_eq_getElem _ _ (by simpa [transform8_length] using column), List.getElem_map,
    List.getD_eq_getElem _ _ column]
  rfl

/-- With the DC coefficient alone every entry of the transform is the DC, rounded (R721). -/
theorem inverseTransform_of_dc (c : Int) :
    inverseTransform (c :: List.replicate 63 0) = List.replicate 64 (floorShift (c + 128) 8) := by
  have entry : ∀ i, 0 < i → (c :: List.replicate 63 0).getD i 0 = 0 := by
    intro i later
    obtain ⟨k, rfl⟩ := Nat.exists_eq_succ_of_ne_zero (Nat.ne_of_gt later)
    rw [List.getD_cons_succ]
    exact List.getElem?_getD_replicate_default_eq ..
  have columns : ∀ x < 8, ∀ y < 8,
      (columnPass (c :: List.replicate 63 0)).getD (8 * y + x) 0 = if x = 0 then c else 0 := by
    intro x column y row
    rw [columnPass_getD _ column row, transform8_of_first fun j later _ => entry _ (by omega),
      List.getD_replicate _ row]
    split
    · next first => simp [first]
    · next later => exact entry _ (by omega)
  refine List.ext_getElem (by rw [inverseTransform_length, List.length_replicate]) fun i bound _ => ?_
  rw [inverseTransform_length] at bound
  have column : i % 8 < 8 := Nat.mod_lt _ (by decide)
  have row : i / 8 < 8 := by omega
  rw [List.getElem_replicate, ← List.getD_eq_getElem _ 0, ← Nat.div_add_mod i 8, inverseTransform_getD _ column row,
    transform8_of_first fun j later bound => by rw [columns j bound _ row, if_neg (Nat.ne_of_gt later)],
    List.getD_replicate _ column, columns 0 (by decide) _ row, if_pos rfl]

/-- Settles O49: T8 as its definition has it, the two passes entry by entry, and the DC alone. -/
theorem inverseTransformRules : Obligations.InverseTransformRules := by
  have rounded := floor_div_of_pow (d := 256) (n := 8) (by norm_num)
  simp only [Obligations.InverseTransformRules, rounded]
  exact ⟨fun c => rfl,
    fun block x y column row => ⟨columnPass_length block, inverseTransform_length block,
      columnPass_getD block column row, inverseTransform_getD block column row⟩,
    inverseTransform_of_dc⟩

end Sys2Proof.Machine
end

section
/-! The end of a block: its 64 samples are written where it lies in its plane (R714, R718-R720). -/

namespace Sys2Proof.Machine

/-! ### Frame buffers alone -/

/-- The two states differ in the frame buffers only. -/
def Video.FramesOnly (v w : Video) : Prop := w = { v with fb0 := w.fb0, fb1 := w.fb1, fb2 := w.fb2 }

theorem Video.FramesOnly.trans {u v w : Video} (h : u.FramesOnly v) (k : v.FramesOnly w) : u.FramesOnly w := by
  unfold Video.FramesOnly at *
  rw [k, h]

/-- Frame buffers are samples (R108). -/
theorem Video.FramesOnly.samplesOnly {v w : Video} (h : v.FramesOnly w) : v.SamplesOnly w := by
  unfold Video.FramesOnly at h
  rw [h]
  rfl

theorem Video.planeWrite_framesOnly (v : Video) (f : Fin 3) (p : Plane) (i : Nat) (x : Byte) :
    v.FramesOnly (v.planeWrite f p i x) := by
  unfold Video.FramesOnly Video.planeWrite
  fin_cases f <;> rfl

/-- A row of writes changes the frame buffers only. -/
theorem Video.foldl_framesOnly {g : Video → Nat → Video} (h : ∀ (v : Video) k, v.FramesOnly (g v k))
    (l : List Nat) (v : Video) : v.FramesOnly (l.foldl g v) := by
  induction l generalizing v with
  | nil => rfl
  | cons k l ih => exact (h v k).trans (ih _)

/-- Two rows of steps are the same where the steps agree on every state they can reach, one that differs from `v`
in samples and causes only. -/
theorem Video.foldl_congr_of_samplesOnly {v w : Video} {g h : Video → Nat → Video}
    (keeps : ∀ (w : Video) k, w.SamplesOnly (g w k)) (same : ∀ w k, v.SamplesOnly w → g w k = h w k)
    (reached : v.SamplesOnly w) (l : List Nat) : l.foldl g w = l.foldl h w := by
  induction l generalizing w with
  | nil => rfl
  | cons k l ih =>
    rw [List.foldl_cons, List.foldl_cons, ← same w k reached]
    exact ih (reached.trans (keeps w k))

/-! ### The samples of a block (R714, R718, R719) -/

/-- A clamped sample as a number (R9, R204). -/
theorem clampSample_toNat (x : Int) : ((clampSample x).toNat : Int) = min 255 (max 0 x) := by
  rw [clampSample, clip, BitVec.toNat_ofNat]
  omega

/-- The destinations of the six blocks (R714). -/
theorem Video.blockTarget_eq (v : Video) {i : Nat} (bound : i < 6) :
    v.blockTarget i =
      { plane := if i < 4 then .y else if i = 4 then .cb else .cr
        base :=
          if i < 4 then
            (v.mbRow.toNat * v.lumaWidth.toNat + v.mbCol.toNat) * 16 +
              (if i % 2 = 1 then 8 else 0) + (if 2 ≤ i then 8 * v.lumaWidth.toNat else 0)
          else v.mbRow.toNat * v.lumaWidth.toNat * 4 + v.mbCol.toNat * 8
        stride := if i < 4 then v.lumaWidth.toNat else v.chromaWidth.toNat } := by
  interval_cases i <;> simp [Video.blockTarget, Nat.mul_comm]

/-- The 64 indices of a block are distinct in a plane at least as wide as the block (R714). -/
theorem BlockTarget.index_injective {t : BlockTarget} (wide : 8 ≤ t.stride) {j k : Nat}
    (same : t.index j = t.index k) : j = k := by
  have column (k : Nat) : k % 8 < t.stride := (Nat.mod_lt k (by decide)).trans_le wide
  have index (k : Nat) : t.index k = t.base + (k % 8 + t.stride * (k / 8)) := by
    rw [BlockTarget.index, Nat.mul_comm]; omega
  rw [index, index, Nat.add_left_cancel_iff] at same
  have pos : 0 < t.stride := by omega
  have row := congrArg (· / t.stride) same
  have rest := congrArg (· % t.stride) same
  simp only [Nat.add_mul_div_left _ _ pos, Nat.div_eq_of_lt (column _), Nat.add_mul_mod_self_left,
    Nat.mod_eq_of_lt (column _)] at row rest
  omega

/-- What is written for sample `k` of a block (R718, R719). -/
def Video.blockSample (residual : List Int) (t : BlockTarget) (v : Video) (k : Nat) : Byte :=
  clampSample (residual.getD k 0 +
    if v.macroblockIntra then 0 else ((v.planeRead v.cur t.plane (t.index k)).toNat : Int))

theorem Video.writeBlockSample_eq (residual : List Int) (t : BlockTarget) (v : Video) (k : Nat) :
    v.writeBlockSample residual t k = v.planeWrite v.cur t.plane (t.index k) (v.blockSample residual t k) := by
  rw [Video.writeBlockSample, Video.blockSample]
  cases v.macroblockIntra <;> simp [add_comm]

/-- A block is written sample by sample, each from what stood at its own place, and nothing else is (R714, R718,
R719). -/
theorem Video.writeBlock_planeRead (v : Video) (residual : List Int) {t : BlockTarget} (wide : 8 ≤ t.stride) :
    let w := (List.range 64).foldl (Video.writeBlockSample residual t) v
    (∀ k < 64, w.planeRead v.cur t.plane (t.index k) = v.blockSample residual t k) ∧
    ∀ f q i, (f = v.cur → q = t.plane → ∀ k < 64, i ≠ t.index k) → w.planeRead f q i = v.planeRead f q i := by
  dsimp only
  rw [Video.foldl_congr_of_samplesOnly (g := Video.writeBlockSample residual t)
    (h := fun w k => w.planeWrite v.cur t.plane (t.index k) (w.blockSample residual t k))
    (fun w k => w.planeWrite_samplesOnly _ _ _ _)
    (fun w k reached => by rw [Video.writeBlockSample_eq, reached.cur]) (.refl v)]
  refine Video.foldl_planeWrite _ _ _ _ v 64 (fun j _ k _ => BlockTarget.index_injective wide) ?_
  intro k _ w reached _ unwritten
  rw [Video.blockSample, Video.blockSample, reached.macroblockIntra, reached.cur, unwritten]

/-- The writes of a reconstruction (R714). -/
def Video.blockWritten (v : Video) : Video :=
  (List.range 64).foldl (Video.writeBlockSample (inverseTransform v.blockData) (v.blockTarget v.block)) v

/-- The coefficient registers are cleared behind the writes (R720). -/
theorem Video.reconstruct_eq_blockWritten (v : Video) :
    v.reconstruct = { v.blockWritten with blockData := zeroBlock } := rfl

theorem Video.blockWritten_framesOnly (v : Video) : v.FramesOnly v.blockWritten :=
  Video.foldl_framesOnly (fun w _ => w.planeWrite_framesOnly _ _ _ _) _ v

theorem Video.blockWritten_frame_time (v : Video) (f : Fin 3) :
    (v.blockWritten.frame f).time = (v.frame f).time :=
  Video.frame_foldl_time _ (fun w _ g => w.frame_planeWrite_time _ g _ _ _) _ v f

/-- The frame buffers behind a reconstruction are those behind its writes. -/
theorem Video.frame_reconstruct (v : Video) : v.reconstruct.frame = v.blockWritten.frame := by
  rw [Video.reconstruct_eq_blockWritten]
  generalize v.blockWritten = w
  rfl

theorem Video.planeRead_reconstruct (v : Video) : v.reconstruct.planeRead = v.blockWritten.planeRead := by
  funext f p i
  rw [Video.planeRead, Video.planeRead, v.frame_reconstruct]

/-- A reconstruction changes the frame buffers and clears the coefficient registers, nothing else (R720). -/
theorem Video.reconstruct_eq (v : Video) :
    v.reconstruct = { v with
      fb0 := v.reconstruct.fb0, fb1 := v.reconstruct.fb1, fb2 := v.reconstruct.fb2, blockData := zeroBlock } := by
  rw [Video.reconstruct_eq_blockWritten]
  generalize v.blockWritten = w, v.blockWritten_framesOnly = frames
  unfold Video.FramesOnly at frames
  rw [frames]

/-- Settles O48: the samples by the row of writes, at the destination of the block. -/
theorem endOfBlock : Obligations.EndOfBlock := by
  intro s bound luma chroma plane stride base index residual
  have target : s.v.blockTarget s.v.block = ⟨plane, base, stride⟩ := s.v.blockTarget_eq bound
  have place (x y : Nat) (column : x < 8) : (BlockTarget.mk plane base stride).index (8 * y + x) = index x y := by
    rw [BlockTarget.index, show (8 * y + x) / 8 = y by omega, show (8 * y + x) % 8 = x by omega]
  have wide : 8 ≤ stride := by
    dsimp only [stride]
    split
    · exact luma
    · exact chroma
  let v := s.v.takeCodeword 2
  obtain ⟨written, kept⟩ := v.writeBlock_planeRead residual (t := ⟨plane, base, stride⟩) wide
  have writes : v.blockWritten = (List.range 64).foldl (Video.writeBlockSample residual ⟨plane, base, stride⟩) v := by
    rw [← target]
    rfl
  rw [← writes, ← v.planeRead_reconstruct] at written kept
  refine ⟨v.reconstruct, ?runs, v.reconstruct_eq, ?samples, ?others, ?times⟩
  case runs =>
    rw [exec_codeword (e := .endOfBlock 2) rfl (by decide), VideoEffect.apply, Video.endOfBlockRow, Video.endBlock]
    rfl
  case samples =>
    intro x column y row
    rw [← place x y column]
    refine (congrArg (fun sample : Byte => (sample.toNat : Int)) (written (8 * y + x) (by omega))).trans ?_
    rw [Video.blockSample, clampSample_toNat]
    rfl
  case others =>
    intro f q i outside
    refine kept f q i fun frame plane k inside => ?_
    have := outside frame plane (k % 8) (Nat.mod_lt k (by decide)) (k / 8) (by omega)
    rwa [← place _ _ (Nat.mod_lt k (by decide)), Nat.div_add_mod] at this
  case times =>
    intro f
    rw [v.frame_reconstruct, v.blockWritten_frame_time]
    rfl

end Sys2Proof.Machine
end

section
/-! Motion codes: the component at the cursor, and what follows it (R801-R803, R610). -/

namespace Sys2Proof.Machine

/-! ### One component (R802, R803) -/

/-- The magnitude of a differential by the magnitude of its code (R802). -/
def motionMagnitude (k m residual : Nat) : Int := if m ≠ 0 ∧ k ≠ 0 then ((m : Int) - 1) * 2 ^ k + residual + 1 else m

/-- A differential has the sign of its code (R802). -/
theorem motionDelta_signedLevel (k m residual : Nat) (sign : Bool) :
    motionDelta k (signedLevel sign m) residual =
      if sign ∧ m ≠ 0 then -motionMagnitude k m residual else motionMagnitude k m residual := by
  by_cases noDelta : m = 0
  · cases sign <;> simp [motionDelta, signedLevel, motionMagnitude, noDelta]
  · by_cases noResidual : k = 0
    · simp [motionDelta, signedLevel, motionMagnitude, noDelta, noResidual]
    · cases sign <;> simp [motionDelta, signedLevel, motionMagnitude, noDelta, noResidual]

/-- A code is 0 where its magnitude is (R323). -/
theorem signedLevel_eq_zero_iff {sign : Bool} {m : Nat} : signedLevel sign m = 0 ↔ m = 0 := by
  cases sign <;> simp [signedLevel]

/-- The wrap with the constants of the rule (R803). -/
theorem wrapMotion_eq (k : Nat) (x : Int) :
    wrapMotion k x =
      if 16 * 2 ^ k - 1 < x then x - 32 * 2 ^ k else if x < -(16 * 2 ^ k) then x + 32 * 2 ^ k else x := by
  simp only [wrapMotion, mul_comm]

/-- MVC by the magnitude and the sign of the code (R802, R803). -/
theorem motionComponent_signedLevel (k m : Nat) (sign : Bool) (x : Int) (b : BitReader) :
    motionComponent k (signedLevel sign m) x b =
      let size := motionMagnitude k m (b.read k).1
      let moved := x + if sign ∧ m ≠ 0 then -size else size
      (if 16 * 2 ^ k - 1 < moved then moved - 32 * 2 ^ k
        else if moved < -(16 * 2 ^ k) then moved + 32 * 2 ^ k else moved,
        if m ≠ 0 ∧ k ≠ 0 then b.take k else b) := by
  dsimp only
  simp only [← wrapMotion_eq, motionComponent, motionDelta_signedLevel, ne_eq, signedLevel_eq_zero_iff]
  by_cases residual : ¬m = 0 ∧ ¬k = 0
  · simp only [if_pos residual]
    rfl
  · simp only [motionMagnitude, ne_eq, if_neg residual]

/-- The engine after MVC of one component: its motion record and its reader have moved (R801, R802). -/
def Video.componentMoved (backward vertical : Bool) (code : Int) (v : Video) : Video :=
  let m := if backward then v.mb else v.mf
  let c := motionComponent m.rSize.toNat code (if vertical then m.v else m.h) v.br
  let m := if vertical then { m with v := c.1 } else { m with h := c.1 }
  { v with br := c.2, mf := if backward then v.mf else m, mb := if backward then m else v.mb }

/-- MVC leaves the directions of the macroblock (R802). -/
theorem Video.componentMoved_backward (backward vertical : Bool) (code : Int) (v : Video) :
    (v.componentMoved backward vertical code).mb.isSet = v.mb.isSet := by
  cases backward <;> cases vertical <;> rfl

/-! ### What follows a component (R801, R809, R610) -/

/-- A macroblock that is not intra is predicted; then its pattern follows, or no block is coded (R809, R610). -/
theorem Video.endMotion_of_nonIntra {v : Video} (nonIntra : v.macroblockIntra = false) :
    v.endMotion =
      if v.macroblockType.getLsbD 1 then { v.predictMacroblock with pos := .codedBlockPattern }
      else Video.blocksFrom 0 { v.predictMacroblock with cbp := 0 } := by
  simp [Video.endMotion, Video.patternStage, typePattern, nonIntra]

/-- What follows a component: the vertical one behind the horizontal one, the backward vector behind the forward one,
and then the end of the vectors (R801). -/
def Video.afterComponent (backward vertical : Bool) (v : Video) : Video :=
  if !vertical then { v with pos := .motion backward true }
  else if !backward && v.mb.isSet then { v with pos := .motion true false }
  else v.endMotion

/-- The component at the cursor moves (R801). -/
theorem Video.motionElement_eq {v : Video} {backward vertical : Bool} (here : v.pos = .motion backward vertical)
    (code : Int) :
    v.motionElement code = (v.componentMoved backward vertical code).afterComponent backward vertical := by
  have target : v.motionTarget = (backward, vertical) := by rw [Video.motionTarget, here]
  rw [Video.motionElement, target]
  cases vertical with
  | false => cases backward <;> rfl
  | true => cases backward <;> rfl

/-- The meaning of a row of table MOTION: the code 0 has no sign bit (R323, R409). -/
theorem exec_motionRow {r : VlcRow} (row : r ∈ motionTable) {m : Nat} (value : r.value = some m) (sign : Bool)
    (s : State) :
    exec (r.make sign) s = .next { s with
      v := (s.v.takeCodeword (if m = 0 then r.len else r.len + 1)).motionElement (signedLevel sign m) } := by
  obtain ⟨-, effect⟩ := motion_rows r row m value sign
  rw [exec_tableRow (T := motionTable) (by simp [vlcTables]) row effect]
  split
  · next zero =>
    rw [VideoEffect.apply, Video.motionZeroRow, signedLevel_eq_zero_iff.2 zero]
  · rfl

/-- Settles O42: the component by its magnitude and sign, then the next one or the prediction. -/
theorem motionCodes : Obligations.MotionCodes := by
  intro r row m value sign s backward vertical here nonIntra
  rw [exec_motionRow row value, Video.motionElement_eq (backward := backward) (vertical := vertical) (by exact here),
    Video.afterComponent, Video.componentMoved_backward, Video.endMotion_of_nonIntra (by exact nonIntra),
    Video.componentMoved, motionComponent_signedLevel]
  rfl

end Sys2Proof.Machine
end

section
/-! PLANE_PREDICT: the rectangle read, the samples written, and all that stays (R805, R807). -/

namespace Sys2Proof.Machine

/-! ### Interpolation (R805) -/

/-- The four rows of the table, by the half-sample bits as numbers (R805). -/
theorem interpolate_eq (s : Int → Int → Nat) (mh mv x y : Int) :
    interpolate s (oddComponent mh) (oddComponent mv) x y =
      if mh % 2 = 0 ∧ mv % 2 = 0 then s x y
      else if mv % 2 = 0 then (s x y + s (x + 1) y + 1) / 2
      else if mh % 2 = 0 then (s x y + s x (y + 1) + 1) / 2
      else (s x y + s (x + 1) y + s x (y + 1) + s (x + 1) (y + 1) + 2) / 4 := by
  rcases Int.emod_two_eq_zero_or_one mh with h | h <;> rcases Int.emod_two_eq_zero_or_one mv with k | k <;>
    simp [interpolate, oddComponent, h, k]

/-- What is interpolated from samples is a sample. -/
theorem interpolate_lt {s : Int → Int → Nat} (samples : ∀ x y, s x y < 256) (oddH oddV : Bool) (x y : Int) :
    interpolate s oddH oddV x y < 256 := by
  have a := samples x y
  have b := samples (x + 1) y
  have c := samples x (y + 1)
  have e := samples (x + 1) (y + 1)
  cases oddH <;> cases oddV <;> simp only [interpolate] <;> omega

/-! ### The range check (R807) -/

theorem Video.predictionOrigin_eq (v : Video) (mh mv : Int) (size : Nat) :
    v.predictionOrigin mh mv size =
      (v.mbCol.toNat * size + ⌊(mh : Rat) / 2⌋, v.mbRow.toNat * size + ⌊(mv : Rat) / 2⌋) := by
  rw [Video.predictionOrigin, floor_half, floor_half, Int.natCast_mul, Int.natCast_mul]

theorem Video.predictionInRange_iff (v : Video) (p : Plane) (mh mv : Int) (size : Nat) :
    v.predictionInRange p mh mv size = true ↔
      let o := v.predictionOrigin mh mv size
      0 ≤ o.1 ∧ 0 ≤ o.2 ∧ o.1 + size - 1 + mh % 2 < v.planeWidth p ∧ o.2 + size - 1 + mv % 2 < v.planeHeight p := by
  have bit (m : Int) : ((oddComponent m).toNat : Int) = m % 2 := by
    rw [oddComponent_toNat, Int.toNat_of_nonneg (Int.emod_nonneg m (by decide))]
  simp [Video.predictionInRange, bit, and_assoc]

/-- The plane is at least as wide as the rectangle that lies in it (R807). -/
theorem Video.predictionInRange_wide {v : Video} {p : Plane} {mh mv : Int} {size : Nat}
    (inside : v.predictionInRange p mh mv size = true) : size ≤ v.planeWidth p := by
  obtain ⟨left, -, right, -⟩ := (v.predictionInRange_iff p mh mv size).1 inside
  have := Int.emod_nonneg mh (show (2 : Int) ≠ 0 by decide)
  omega

/-! ### What samples do not change (R805) -/

theorem Video.SamplesOnly.planeWidth {v w : Video} (h : v.SamplesOnly w) : w.planeWidth = v.planeWidth := by
  rw [h]
  rfl

theorem Video.SamplesOnly.predictionOrigin {v w : Video} (h : v.SamplesOnly w) :
    w.predictionOrigin = v.predictionOrigin := by
  rw [h]
  rfl

theorem Video.SamplesOnly.predictionInRange {v w : Video} (h : v.SamplesOnly w) :
    w.predictionInRange = v.predictionInRange := by
  rw [h]
  rfl

theorem Video.SamplesOnly.predictionIndex {v w : Video} (h : v.SamplesOnly w) :
    w.predictionIndex = v.predictionIndex := by
  rw [h]
  rfl

/-! ### The samples of a block (R805) -/

/-- The samples of a block in row-major order. -/
theorem rowMajor_lt {size x y : Nat} (column : x < size) (row : y < size) : size * y + x < size * size := by
  have below := Nat.mul_le_mul_left size (Nat.succ_le_of_lt row)
  rw [Nat.mul_succ] at below
  omega

theorem rowMajor_row {size x : Nat} (y : Nat) (column : x < size) : (size * y + x) / size = y := by
  rw [Nat.mul_add_div (Nat.zero_lt_of_lt column), Nat.div_eq_of_lt column, Nat.add_zero]

theorem rowMajor_column {size x : Nat} (y : Nat) (column : x < size) : (size * y + x) % size = x := by
  rw [Nat.mul_add_mod, Nat.mod_eq_of_lt column]

/-- Sample `k` of a block in row-major order stands in row `k / size` (R805). -/
theorem Video.predictionIndex_rowMajor (v : Video) (p : Plane) {size x : Nat} (y : Nat) (column : x < size) :
    v.predictionIndex p size (size * y + x) =
      (v.mbRow.toNat * size + y) * v.planeWidth p + v.mbCol.toNat * size + x := by
  rw [Video.predictionIndex, rowMajor_row y column, rowMajor_column y column]

/-- The indices of a block are distinct in a plane at least as wide as the block (R805). -/
theorem Video.predictionIndex_injective {v : Video} {p : Plane} {size : Nat} (some_ : 0 < size)
    (wide : size ≤ v.planeWidth p) {j k : Nat} (same : v.predictionIndex p size j = v.predictionIndex p size k) :
    j = k := by
  have column (k : Nat) : k % size < v.planeWidth p := (Nat.mod_lt k some_).trans_le wide
  have place (k : Nat) : v.predictionIndex p size k =
      v.mbRow.toNat * size * v.planeWidth p + v.mbCol.toNat * size + (k % size + v.planeWidth p * (k / size)) := by
    rw [Video.predictionIndex]
    ring
  rw [place, place, Nat.add_left_cancel_iff] at same
  have pos : 0 < v.planeWidth p := by omega
  have row := congrArg (· / v.planeWidth p) same
  have rest := congrArg (· % v.planeWidth p) same
  simp only [Nat.add_mul_div_left _ _ pos, Nat.div_eq_of_lt (column _), Nat.add_mul_mod_self_left,
    Nat.mod_eq_of_lt (column _), Nat.zero_add] at row rest
  rw [← Nat.div_add_mod j size, ← Nat.div_add_mod k size, row, rest]

/-- The value copied or interpolated for sample `k` of a block (R805). -/
def Video.sourceValue (s : Fin 3) (p : Plane) (mh mv : Int) (size : Nat) (v : Video) (k : Nat) : Nat :=
  let o := v.predictionOrigin mh mv size
  interpolate (fun x y => (v.planeRead s p (y * v.planeWidth p + x).toNat).toNat) (oddComponent mh) (oddComponent mv)
    (o.1 + (k % size : Nat)) (o.2 + (k / size : Nat))

/-- What is written for sample `k` of a block (R805). -/
def Video.predictedValue (average : Bool) (s : Fin 3) (p : Plane) (mh mv : Int) (size : Nat) (v : Video) (k : Nat) :
    Nat :=
  let value := v.sourceValue s p mh mv size k
  if average then ((v.planeRead v.cur p (v.predictionIndex p size k)).toNat + value + 1) / 2 else value

section
variable (average : Bool) (s : Fin 3) (p : Plane) (mh mv : Int) (size : Nat)

theorem Video.predictSample_eq (v : Video) (k : Nat) :
    v.predictSample average s p mh mv size k =
      v.planeWrite v.cur p (v.predictionIndex p size k)
        (BitVec.ofNat 8 (v.predictedValue average s p mh mv size k)) := rfl

theorem Video.sourceValue_lt (v : Video) (k : Nat) : v.sourceValue s p mh mv size k < 256 := by
  rw [Video.sourceValue]
  exact interpolate_lt (fun _ _ => BitVec.isLt _) ..

/-- What is written is a sample (R805). -/
theorem Video.predictedValue_lt (v : Video) (k : Nat) : v.predictedValue average s p mh mv size k < 256 := by
  have source := v.sourceValue_lt s p mh mv size k
  have there := (v.planeRead v.cur p (v.predictionIndex p size k)).isLt
  unfold Video.predictedValue
  dsimp only
  split <;> omega

/-- The value from the source depends on the samples of the source plane (R805). -/
theorem Video.sourceValue_congr {v w : Video} (only : v.SamplesOnly w)
    (source : ∀ i, w.planeRead s p i = v.planeRead s p i) (k : Nat) :
    w.sourceValue s p mh mv size k = v.sourceValue s p mh mv size k := by
  simp only [Video.sourceValue, only.planeWidth, only.predictionOrigin, source]

/-- What is written depends on those and on the sample that stood there (R805). -/
theorem Video.predictedValue_congr {v w : Video} (only : v.SamplesOnly w)
    (source : ∀ i, w.planeRead s p i = v.planeRead s p i) {k : Nat}
    (there : w.planeRead v.cur p (v.predictionIndex p size k) = v.planeRead v.cur p (v.predictionIndex p size k)) :
    w.predictedValue average s p mh mv size k = v.predictedValue average s p mh mv size k := by
  rw [Video.predictedValue, Video.predictedValue, Video.sourceValue_congr s p mh mv size only source,
    only.predictionIndex, only.cur, there]

end

/-! ### PLANE_PREDICT (R805, R807) -/

section
variable {v : Video} {s : Fin 3} {p : Plane} {mh mv : Int} {size : Nat}

/-- From within the plane of another frame every sample of the block is predicted, and every other sample stays
(R805). -/
theorem Video.planePredict_planeRead (average : Bool) (other : s ≠ v.cur) (some_ : 0 < size)
    (inside : v.predictionInRange p mh mv size = true) :
    let t := v.planePredict average s p mh mv size
    (∀ k < size * size, (t.planeRead v.cur p (v.predictionIndex p size k)).toNat =
      v.predictedValue average s p mh mv size k) ∧
    ∀ f q i, (f = v.cur → q = p → ∀ k < size * size, i ≠ v.predictionIndex p size k) →
      t.planeRead f q i = v.planeRead f q i := by
  have writes : v.planePredict average s p mh mv size = (List.range (size * size)).foldl (fun w k =>
      w.planeWrite v.cur p (v.predictionIndex p size k)
        (BitVec.ofNat 8 (w.predictedValue average s p mh mv size k))) v := by
    rw [Video.planePredict, if_pos inside]
    refine Video.foldl_congr_of_samplesOnly (g := Video.predictSample average s p mh mv size)
      (fun w k => w.planeWrite_samplesOnly _ _ _ _) (fun w k reached => ?_) (.refl v) _
    rw [Video.predictSample_eq, reached.cur, reached.predictionIndex]
  obtain ⟨written, kept⟩ := Video.foldl_planeWrite v.cur p (v.predictionIndex p size)
    (fun w k => BitVec.ofNat 8 (w.predictedValue average s p mh mv size k)) v (size * size)
    (fun j _ k _ => Video.predictionIndex_injective some_ (Video.predictionInRange_wide inside))
    fun k _ w reached elsewhere there => congrArg (BitVec.ofNat 8) <|
      Video.predictedValue_congr _ _ _ _ _ _ reached (fun i => elsewhere s p i (.inl other)) there
  rw [← writes] at written kept
  refine ⟨fun k bound => ?_, kept⟩
  rw [written k bound, BitVec.toNat_ofNat, Nat.mod_eq_of_lt (v.predictedValue_lt average s p mh mv size k)]

/-- A prediction from within the plane changes the frame buffers only (R805). -/
theorem Video.planePredict_framesOnly (average : Bool) (inside : v.predictionInRange p mh mv size = true) :
    v.FramesOnly (v.planePredict average s p mh mv size) := by
  rw [Video.planePredict, if_pos inside]
  exact Video.foldl_framesOnly (fun w _ => w.planeWrite_framesOnly _ _ _ _) _ v

theorem Video.planePredict_frame_time (average : Bool) (inside : v.predictionInRange p mh mv size = true)
    (f : Fin 3) : ((v.planePredict average s p mh mv size).frame f).time = (v.frame f).time := by
  rw [Video.planePredict, if_pos inside]
  exact Video.frame_foldl_time _ (fun w _ g => w.frame_planeWrite_time _ g _ _ _) _ v f

end

/-- Settles O43: the range check in the terms of the rule, then the row of writes of the block. -/
theorem planePrediction : Obligations.PlanePrediction := by
  intro average source p mh mv v other size w x0 y0 oh ov inside sample value index t
  have some_ : 0 < size := by cases p <;> decide
  have check : v.predictionInRange p mh mv size = true ↔ inside := by
    rw [v.predictionInRange_iff, v.predictionOrigin_eq]
  refine ⟨fun h => ?_, fun h => if_neg (check.not.2 h)⟩
  have range := check.2 h
  obtain ⟨written, kept⟩ := Video.planePredict_planeRead average other some_ range
  refine ⟨fun x column y row => ?sample, fun f q i outside => ?others, Video.planePredict_frame_time average range,
    Video.planePredict_framesOnly average range⟩
  case sample =>
    have block : size * y + x < size * size := rowMajor_lt column row
    have place : v.predictionIndex p size (size * y + x) = index x y := v.predictionIndex_rowMajor p y column
    have interpolated : v.sourceValue source p mh mv size (size * y + x) = value x y := by
      rw [Video.sourceValue, v.predictionOrigin_eq, interpolate_eq, rowMajor_row y column, rowMajor_column y column]
    rw [← place, written _ block, Video.predictedValue, interpolated]
  case others =>
    exact kept f q i fun frame plane k block =>
      outside frame plane (k % size) (Nat.mod_lt k some_) (k / size) (Nat.div_lt_of_lt_mul block)

end Sys2Proof.Machine
end

section
/-! PREDICT_MACROBLOCK: the three planes of a direction, the directions of a macroblock, and the mean of two
predictions (R804, R806, R808). -/

namespace Sys2Proof.Machine

/-! ### Vectors (R804, R806) -/

/-- A chroma component is half a luma component, toward zero (R806). -/
theorem halveVector_eq (c : Int) : halveVector c = if 0 ≤ c then c / 2 else -((-c) / 2) := by
  rw [halveVector]
  split
  · next positive => exact Int.tdiv_eq_ediv_of_nonneg positive
  · next negative => rw [← Int.tdiv_eq_ediv_of_nonneg (by omega), Int.neg_tdiv, neg_neg]

/-- The luma vector is doubled where its unit is a full sample (R804). -/
theorem MotionState.lumaVector_eq (m : MotionState) :
    m.lumaVector = if m.fullPx then (2 * m.h, 2 * m.v) else (m.h, m.v) := by
  rw [MotionState.lumaVector, mul_comm m.h, mul_comm m.v]

/-- The vector that a plane is predicted with (R806). -/
def Plane.vector (p : Plane) (luma : Int × Int) : Int × Int :=
  (if p = .y then luma.1 else halveVector luma.1, if p = .y then luma.2 else halveVector luma.2)

theorem Plane.blockSize_eq (p : Plane) : p.blockSize = if p = .y then 16 else 8 := by cases p <;> rfl

/-! ### One direction (R806) -/

/-- One plane of a direction (R806). -/
def Video.predictPlane (average : Bool) (s : Fin 3) (luma : Int × Int) (v : Video) (p : Plane) : Video :=
  v.planePredict average s p (p.vector luma).1 (p.vector luma).2 p.blockSize

/-- A direction is predicted plane by plane (R806). -/
theorem Video.predictFrom_eq_foldl (average : Bool) (s : Fin 3) (luma : Int × Int) (v : Video) :
    v.predictFrom average s luma = [Plane.y, .cb, .cr].foldl (Video.predictPlane average s luma) v := rfl

/-- The rectangle of a plane lies in it (R807). -/
def Video.planeInRange (luma : Int × Int) (v : Video) (p : Plane) : Prop :=
  v.predictionInRange p (p.vector luma).1 (p.vector luma).2 p.blockSize = true

theorem Video.SamplesOnly.planeInRange {v w : Video} (h : v.SamplesOnly w) {luma : Int × Int}
    (inside : ∀ p, v.planeInRange luma p) (p : Plane) : w.planeInRange luma p := by
  rw [Video.planeInRange, h.predictionInRange]
  exact inside p

/-- What a direction writes for sample `k` of a plane's block (R805, R806). -/
def Video.planeValue (average : Bool) (s : Fin 3) (luma : Int × Int) (v : Video) (p : Plane) (k : Nat) : Nat :=
  v.predictedValue average s p (p.vector luma).1 (p.vector luma).2 p.blockSize k

/-- Planes predicted one after another from within another frame: each from what stood at its own place, and nothing
else changes (R805, R806). -/
theorem Video.foldl_predictPlane {s : Fin 3} {luma : Int × Int} (average : Bool) {planes : List Plane}
    (distinct : planes.Nodup) {v : Video} (other : s ≠ v.cur) (inside : ∀ p, v.planeInRange luma p) :
    let t := planes.foldl (Video.predictPlane average s luma) v
    (∀ p ∈ planes, ∀ k < p.blockSize * p.blockSize,
      (t.planeRead v.cur p (v.predictionIndex p p.blockSize k)).toNat = v.planeValue average s luma p k) ∧
    ∀ f q i, (f = v.cur → q ∉ planes) → t.planeRead f q i = v.planeRead f q i := by
  induction planes generalizing v with
  | nil => exact ⟨nofun, fun _ _ _ _ => rfl⟩
  | cons p planes ih =>
    obtain ⟨fresh, distinct⟩ := List.nodup_cons.1 distinct
    obtain ⟨written, kept⟩ := Video.planePredict_planeRead average other (by cases p <;> decide) (inside p)
    have only : v.SamplesOnly (v.predictPlane average s luma p) := v.planePredict_samplesOnly ..
    obtain ⟨later, rest⟩ := ih distinct (v := v.predictPlane average s luma p) (by rwa [only.cur])
      (only.planeInRange inside)
    rw [only.cur] at later rest
    rw [only.predictionIndex] at later
    rw [List.foldl_cons]
    refine ⟨fun q listed k bound => ?_, fun f q i outside => ?_⟩
    · rcases List.mem_cons.1 listed with rfl | behind
      · rw [rest _ _ _ fun _ => fresh]
        exact written k bound
      · have apart : q ≠ p := fun e => fresh (e ▸ behind)
        rw [later q behind k bound]
        exact Video.predictedValue_congr _ _ _ _ _ _ only (fun i => kept s q i fun e => absurd e other)
          (kept _ q _ fun _ e => absurd e apart)
    · rw [rest f q i fun e behind => outside e (List.mem_cons_of_mem p behind)]
      exact kept f q i fun e e' => absurd (e' ▸ List.mem_cons_self) (outside e)

/-- A direction predicted from within another frame writes the macroblock of the current frame, and no sample of
another frame (R805, R806). -/
theorem Video.predictFrom_planeRead {s : Fin 3} {luma : Int × Int} (average : Bool) {v : Video} (other : s ≠ v.cur)
    (inside : ∀ p, v.planeInRange luma p) :
    (∀ p, ∀ k < p.blockSize * p.blockSize,
      ((v.predictFrom average s luma).planeRead v.cur p (v.predictionIndex p p.blockSize k)).toNat =
        v.planeValue average s luma p k) ∧
    ∀ f ≠ v.cur, ∀ q i, (v.predictFrom average s luma).planeRead f q i = v.planeRead f q i := by
  obtain ⟨written, kept⟩ := Video.foldl_predictPlane average (planes := [.y, .cb, .cr]) (by decide) other inside
  rw [Video.predictFrom_eq_foldl]
  exact ⟨fun p => written p (by cases p <;> decide), fun f apart q i => kept f q i fun e => absurd e apart⟩

/-! ### Two directions (R808) -/

/-- Forward and then backward with the average: every sample is the mean of the two single predictions (R805,
R808). -/
theorem Video.predictFrom_mean {v : Video} {s s' : Fin 3} {luma luma' : Int × Int} (other : s ≠ v.cur)
    (other' : s' ≠ v.cur) (inside : ∀ p, v.planeInRange luma p) (inside' : ∀ p, v.planeInRange luma' p) (p : Plane)
    {k : Nat} (bound : k < p.blockSize * p.blockSize) :
    let i := v.predictionIndex p p.blockSize k
    (((v.predictFrom false s luma).predictFrom true s' luma').planeRead v.cur p i).toNat =
      (((v.predictFrom false s luma).planeRead v.cur p i).toNat +
        ((v.predictFrom false s' luma').planeRead v.cur p i).toNat + 1) / 2 := by
  have only : v.SamplesOnly (v.predictFrom false s luma) := v.predictFrom_samplesOnly ..
  have kept := (Video.predictFrom_planeRead false other inside).2
  obtain ⟨mean, -⟩ := Video.predictFrom_planeRead true (s := s') (luma := luma') (v := v.predictFrom false s luma)
    (by rwa [only.cur]) (only.planeInRange inside')
  have second := mean p k bound
  rw [only.cur, only.predictionIndex, Video.planeValue, Video.predictedValue, only.cur, only.predictionIndex,
    Video.sourceValue_congr s' p _ _ _ only (kept s' other' p)] at second
  exact second.trans (by rw [(Video.predictFrom_planeRead false other' inside').1 p k bound]; rfl)

/-- Settles O44: each direction by the vectors of the rule; two directions by the mean of their predictions. -/
theorem predictMacroblockRules : Obligations.PredictMacroblockRules := by
  intro v luma half predicted forward backward
  have lumaVector (m : MotionState) : m.lumaVector = luma m := m.lumaVector_eq
  have direction (average : Bool) (source : Fin 3) (m : MotionState) (v : Video) :
      v.predictFrom average source m.lumaVector = predicted average source m v := by
    simp only [Video.predictFrom, lumaVector, halveVector_eq]
    rfl
  refine ⟨fun other => ?notB, fun isB set unset => ?forwardOnly, fun isB unset => ?backwardOnly,
    fun isB set set' => ?bothDirections⟩
  case notB => rw [Video.predictMacroblock, if_neg other, direction]
  case forwardOnly => rw [Video.predictMacroblock, if_pos isB, if_pos set, if_neg (by simp [unset]), direction]
  case backwardOnly => rw [Video.predictMacroblock, if_pos isB, if_neg (by simp [unset]), direction]
  case bothDirections =>
    have both : v.predictMacroblock = predicted true v.bwd v.mb forward := by
      have only : v.SamplesOnly (v.predictFrom false v.fwd v.mf.lumaVector) := v.predictFrom_samplesOnly ..
      rw [Video.predictMacroblock, if_pos isB, if_pos set, if_pos set', only.bwd, direction, direction]
    refine ⟨both, fun apart apart' inside p x y => ?_⟩
    intro size i column row
    have range (m : MotionState) (listed : luma m ∈ [luma v.mf, luma v.mb]) (q : Plane) :
        v.planeInRange m.lumaVector q := by
      rw [Video.planeInRange, Plane.vector, q.blockSize_eq, lumaVector, halveVector_eq, halveVector_eq]
      exact inside q _ listed
    have size_eq : p.blockSize = size := p.blockSize_eq
    have place : v.predictionIndex p p.blockSize (size * y + x) = i := by
      rw [size_eq, v.predictionIndex_rowMajor p y column]
    have mean := Video.predictFrom_mean apart.symm apart'.symm (range v.mf (by simp)) (range v.mb (by simp)) p
      (k := size * y + x) (by rw [size_eq]; exact rowMajor_lt column row)
    rw [place, direction, direction, direction] at mean
    rw [both]
    exact mean

end Sys2Proof.Machine
end

section
/-! What DECODE_FRAME leaves of the clocks and of the delay-line offset (R1000-R1012, R1101). -/

namespace Sys2Proof.Machine

/-- Decoding of frame data with `n` synthesis steps leads from `a` to `b`: the sample rate and the clocks are as
before, and the delay-line offset has moved by `n` steps (R1101). -/
structure Audio.DecodesFrameData (n : Nat) (a b : Audio) : Prop where
  samplerateIndex : b.samplerateIndex = a.samplerateIndex
  samplesDecoded : b.samplesDecoded = a.samplesDecoded
  time : b.time = a.time
  vPos : b.vPos = a.vPos - BitVec.ofNat 10 (64 * n)

theorem Audio.DecodesFrameData.trans {m n : Nat} {a b c : Audio} (h : a.DecodesFrameData m b)
    (k : b.DecodesFrameData n c) : a.DecodesFrameData (m + n) c := by
  refine ⟨k.samplerateIndex.trans h.samplerateIndex, k.samplesDecoded.trans h.samplesDecoded, k.time.trans h.time, ?_⟩
  rw [k.vPos, h.vPos, Nat.mul_add, BitVec.ofNat_add]
  ring

/-- Without synthesis the delay-line offset stays. -/
theorem Audio.DecodesFrameData.of_reads {a b : Audio} (rate : b.samplerateIndex = a.samplerateIndex)
    (count : b.samplesDecoded = a.samplesDecoded) (time : b.time = a.time) (offset : b.vPos = a.vPos) :
    a.DecodesFrameData 0 b :=
  ⟨rate, count, time, offset.trans (BitVec.sub_zero _).symm⟩

theorem Audio.DecodesFrameData.refl (a : Audio) : a.DecodesFrameData 0 a := .of_reads rfl rfl rfl rfl

/-- A row of steps, each with `n` synthesis steps. -/
theorem Audio.foldl_decodesFrameData {α : Type} {n : Nat} {f : Audio → α → Audio}
    (step : ∀ (b : Audio) x, b.DecodesFrameData n (f b x)) (l : List α) (a : Audio) :
    a.DecodesFrameData (n * l.length) (l.foldl f a) := by
  induction l generalizing a with
  | nil => exact .refl a
  | cons x l ih =>
    rw [List.length_cons, Nat.mul_succ, Nat.add_comm]
    exact (step a x).trans (ih _)

/-- A row of steps without synthesis. -/
theorem Audio.foldl_readsFrameData {α : Type} {f : Audio → α → Audio}
    (step : ∀ (b : Audio) x, b.DecodesFrameData 0 (f b x)) (l : List α) (a : Audio) :
    a.DecodesFrameData 0 (l.foldl f a) :=
  Nat.zero_mul l.length ▸ foldl_decodesFrameData step l a

theorem Audio.forBands_decodesFrameData {f : Nat → Nat → Audio → Audio}
    (step : ∀ ch sb (b : Audio), b.DecodesFrameData 0 (f ch sb b)) (bands : List Nat) (a : Audio) :
    a.DecodesFrameData 0 (a.forBands bands f) :=
  foldl_readsFrameData (fun b sb => foldl_readsFrameData (fun c ch => step ch sb c) _ b) bands a

/-! ### Allocations and scalefactors (R1003-R1005) -/

theorem Audio.setAllocation_decodesFrameData (x : Option QuantClass) (sb : Nat) (a : Audio) (ch : Nat) :
    a.DecodesFrameData 0 (Audio.setAllocation x sb a ch) := .of_reads rfl rfl rfl rfl

theorem Audio.readAllocation_decodesFrameData (channels : List Nat) (sb : Nat) (a : Audio) :
    a.DecodesFrameData 0 (a.readAllocation channels sb) :=
  have read : a.DecodesFrameData 0 { a with br := (a.br.read (a.table.nbal sb)).2 } := .of_reads rfl rfl rfl rfl
  read.trans (foldl_readsFrameData (setAllocation_decodesFrameData _ sb) channels _)

theorem Audio.readAllocations_decodesFrameData (a : Audio) : a.DecodesFrameData 0 a.readAllocations :=
  have own := forBands_decodesFrameData (fun ch sb b => b.readAllocation_decodesFrameData [ch] sb) _ a
  have shared := own.trans (foldl_readsFrameData (fun b sb => b.readAllocation_decodesFrameData [0, 1] sb) _ _)
  shared.trans (foldl_readsFrameData
    (fun b sb => foldl_readsFrameData (setAllocation_decodesFrameData none sb) [0, 1] b) _ _)

theorem Audio.readSelector_decodesFrameData (ch sb : Nat) (a : Audio) :
    a.DecodesFrameData 0 (a.readSelector ch sb) := by
  unfold Audio.readSelector
  split
  · exact .of_reads rfl rfl rfl rfl
  · exact .refl a

theorem Audio.readScalefactors_decodesFrameData (ch sb : Nat) (a : Audio) :
    a.DecodesFrameData 0 (a.readScalefactors ch sb) := by
  unfold Audio.readScalefactors
  split
  · exact .of_reads rfl rfl rfl rfl
  · exact .refl a

/-! ### Samples and synthesis (R1006-R1011, R1101) -/

theorem Audio.setTriple_decodesFrameData (ch sb : Nat) (xs : List Surd) (a : Audio) :
    a.DecodesFrameData 0 (a.setTriple ch sb xs) := .of_reads rfl rfl rfl rfl

theorem Audio.readCodes_decodesFrameData (q : QuantClass) (a : Audio) : a.DecodesFrameData 0 (a.readCodes q).2 := by
  unfold Audio.readCodes
  dsimp only
  split
  · split <;> exact .of_reads rfl rfl rfl rfl
  · exact .of_reads rfl rfl rfl rfl

theorem Audio.requantizeTriple_decodesFrameData (q : QuantClass) (codes : List Nat) (ch sb part : Nat) (a : Audio) :
    a.DecodesFrameData 0 (a.requantizeTriple q codes ch sb part) := by
  unfold Audio.requantizeTriple
  dsimp only
  split <;> exact .of_reads rfl rfl rfl rfl

theorem Audio.readTriple_decodesFrameData (part ch sb : Nat) (a : Audio) :
    a.DecodesFrameData 0 (a.readTriple part ch sb) := by
  unfold Audio.readTriple
  split
  · exact setTriple_decodesFrameData ..
  · exact (readCodes_decodesFrameData _ a).trans (requantizeTriple_decodesFrameData ..)

theorem Audio.readSharedTriple_decodesFrameData (part : Nat) (a : Audio) (sb : Nat) :
    a.DecodesFrameData 0 (a.readSharedTriple part sb) := by
  unfold Audio.readSharedTriple
  split
  · exact (setTriple_decodesFrameData ..).trans (setTriple_decodesFrameData ..)
  · rename_i q _
    have first := (readCodes_decodesFrameData q a).trans
      (requantizeTriple_decodesFrameData q (a.readCodes q).1 0 sb part _)
    dsimp only
    split
    · exact first
    · split
      · exact first.trans (requantizeTriple_decodesFrameData ..)
      · exact first.trans (setTriple_decodesFrameData ..)

theorem Audio.duplicateMono_decodesFrameData (a : Audio) : a.DecodesFrameData 0 a.duplicateMono := by
  unfold Audio.duplicateMono
  split
  · exact .of_reads rfl rfl rfl rfl
  · exact .refl a

theorem Audio.synthesisStep_decodesFrameData (part granule : Nat) (a : Audio) (k : Nat) :
    a.DecodesFrameData 1 (a.synthesisStep part granule k) := ⟨rfl, rfl, rfl, rfl⟩

/-- A granule has three synthesis steps (R1006). -/
theorem Audio.decodeGranule_decodesFrameData (part : Nat) (a : Audio) (granule : Nat) :
    a.DecodesFrameData 3 (a.decodeGranule part granule) := by
  have zeros (b : Audio) (sb : Nat) : b.DecodesFrameData 0 ((b.setTriple 0 sb zeroTriple).setTriple 1 sb zeroTriple) :=
    (b.setTriple_decodesFrameData 0 sb zeroTriple).trans (setTriple_decodesFrameData 1 sb zeroTriple _)
  have own := forBands_decodesFrameData (readTriple_decodesFrameData part) (numbersFrom 0 a.effectiveBound) a
  have shared := own.trans (foldl_readsFrameData (readSharedTriple_decodesFrameData part)
    (numbersFrom a.effectiveBound a.table.sblimit) _)
  have whole := shared.trans (foldl_readsFrameData zeros (numbersFrom a.table.sblimit 32) _)
  have mono := whole.trans (duplicateMono_decodesFrameData _)
  exact mono.trans (foldl_decodesFrameData (synthesisStep_decodesFrameData part granule) (List.range 3) _)

/-- A frame has twelve granules (R1000). -/
theorem Audio.decodeFrame_decodesFrameData (a : Audio) : a.DecodesFrameData 36 a.decodeFrame := by
  have granules (b : Audio) (part : Nat) : b.DecodesFrameData 12 ((List.range 4).foldl (Audio.decodeGranule part) b) :=
    foldl_decodesFrameData (decodeGranule_decodesFrameData part) (List.range 4) b
  have allocations := a.readAllocations_decodesFrameData
  have selectors := allocations.trans
    (forBands_decodesFrameData readSelector_decodesFrameData (numbersFrom 0 a.table.sblimit) _)
  have factors := selectors.trans
    (forBands_decodesFrameData readScalefactors_decodesFrameData (numbersFrom 0 a.table.sblimit) _)
  have parts := factors.trans (foldl_decodesFrameData granules (List.range 3) _)
  have align (b : Audio) : b.DecodesFrameData 0 { b with br := b.br.align } := .of_reads rfl rfl rfl rfl
  exact parts.trans (align _)

/-! ### What a frame leaves (R901 step 5) -/

@[simp] theorem Audio.decodeFrame_samplerateIndex (a : Audio) : a.decodeFrame.samplerateIndex = a.samplerateIndex :=
  a.decodeFrame_decodesFrameData.samplerateIndex

@[simp] theorem Audio.decodeFrame_samplesDecoded (a : Audio) : a.decodeFrame.samplesDecoded = a.samplesDecoded :=
  a.decodeFrame_decodesFrameData.samplesDecoded

@[simp] theorem Audio.decodeFrame_time (a : Audio) : a.decodeFrame.time = a.time :=
  a.decodeFrame_decodesFrameData.time

/-- The 36 synthesis steps move the delay-line offset by 2304, which is 256 in its 10 bits (R113, R1101). -/
@[simp] theorem Audio.decodeFrame_vPos (a : Audio) : a.decodeFrame.vPos = a.vPos - 256 :=
  a.decodeFrame_decodesFrameData.vPos

end Sys2Proof.Machine
end

section
/-! The body of a frame, and the header that is accepted before it (R901 steps 3 to 5, R904-R908). -/

namespace Sys2Proof.Machine

/-! ### Bits left, in the terms of the rules (R400, R402) -/

/-- Fewer than `n` bits are left where the store ends before they do. -/
theorem BitReader.avail_lt_iff {n : Nat} (b : BitReader) (some_ : 0 < n) :
    b.avail < n ↔ 8 * b.bytes.length < b.bitIndex + n := by
  rw [BitReader.avail, BitReader.length]
  omega

/-- `n` bits are left where they end before the store does. -/
theorem BitReader.le_avail_of_le {n : Nat} {b : BitReader} (h : b.bitIndex + n ≤ 8 * b.bytes.length) :
    n ≤ b.avail := by
  rw [BitReader.avail, BitReader.length]
  omega

/-- With a bit left, the bits that are left end before the store does (R400). -/
theorem BitReader.le_of_le_avail {n : Nat} {b : BitReader} (left : 0 < b.avail) (h : n ≤ b.avail) :
    b.bitIndex + n ≤ 8 * b.bytes.length := by
  rw [BitReader.avail, BitReader.length] at left h
  omega

/-! ### The body of a frame (R901 steps 3 to 5) -/

/-- The engine after the frame at its cursor: its samples are out, the clocks are a frame on, and no header is
pending (R901 steps 4 and 5). -/
def Audio.frameReturned (a : Audio) : Audio :=
  { a.decodeFrame with
      nextFrameDataSize := 0
      samplesTime := a.time
      samplesDecoded := a.samplesDecoded + 1152
      time := ((a.samplesDecoded + 1152 : Nat) : Rat) / sampleRate a.samplerateIndex
      outValid := true }

/-- With the whole body stored the frame is decoded, and its samples are returned (R901). -/
theorem Audio.decodeBody_of_stored {a : Audio} (pending : a.nextFrameDataSize ≠ 0)
    (stored : 8 * a.nextFrameDataSize.toNat ≤ a.br.avail) :
    a.decodeBody = { a.frameReturned with pos := .finished } := by
  rw [Audio.decodeBody, if_neg pending, BitReader.has_snd_of_le stored]
  simp only [if_true, Audio.emitSamples, Audio.frameReturned, Audio.decodeFrame_samplerateIndex,
    Audio.decodeFrame_samplesDecoded, Audio.decodeFrame_time]

/-- With fewer bits the header stays pending (R901). -/
theorem Audio.decodeBody_of_short {a : Audio} (pending : a.nextFrameDataSize ≠ 0)
    (short : a.br.avail < 8 * a.nextFrameDataSize.toNat) :
    a.decodeBody = { a with br := a.br.short }.returnNone := by
  rw [Audio.decodeBody, if_neg pending, BitReader.has_of_lt short]
  exact if_neg (by decide)

/-- The body ends its ADECODE, decoded or not (R901). -/
@[simp] theorem Audio.decodeBody_pos (a : Audio) : a.decodeBody.pos = .finished := by
  unfold Audio.decodeBody
  split
  · rfl
  · dsimp only
    split <;> rfl

/-! ### The header (R904-R908) -/

/-- The body of an accepted header has 90 to 1725 bytes (R908). -/
theorem bodySize_bounds : ∀ (bitrateIndex : BitVec 4) (samplerateIndex : BitVec 2) (padding hasCrc : Bool),
    bitrateIndex ≠ 0 → bitrateIndex ≠ 15 → samplerateIndex ≠ 3 →
      90 ≤ bodySize bitrateIndex samplerateIndex padding hasCrc ∧
        bodySize bitrateIndex samplerateIndex padding hasCrc ≤ 1725 := by
  decide +kernel

/-- A header that no check rejects is latched, and its body follows (R901, R905-R908). -/
theorem Audio.headerRow_of_accepted {h : Mp2Header} {a : Audio}
    (bitrate : ¬ (h.bitrateIndex = 0 ∨ h.bitrateIndex = 15)) (rate : h.samplingFrequency ≠ 3)
    (same : a.headerChanged h = false) :
    a.headerRow h =
      (Audio.latchHeader h { a with
        br := a.br.takeFields ([11, 2, 2, 1, 4, 2, 1, 1, 2, 2, 4] ++ if h.protection then [] else [16])
        }).decodeBody := by
  have same (br : BitReader) : ¬ Audio.headerChanged h { a with br := br } = true := Bool.eq_false_iff.1 same
  rw [Audio.headerRow, if_neg bitrate, if_neg rate, if_neg (same _), BitReader.takeFields_take]
  dsimp only
  rw [← BitReader.takeFields_append, ← BitReader.takeFields_append]
  rfl

/-- Settles O51: the body size is never 0, so what follows the latch is the two branches of the body. -/
theorem audioHeaderAccepted : Obligations.AudioHeaderAccepted := by
  intro h s low high rate latched size b accepted
  have size_eq : bodySize h.bitrateIndex h.samplingFrequency h.padding (!h.protection) = size := by
    have padding : h.padding.toNat = if h.padding then 1 else 0 := by cases h.padding <;> rfl
    have crc : (if (!h.protection) = true then 6 else 4) = if h.protection = true then 4 else 6 := by
      cases h.protection <;> rfl
    rw [bodySize, padding, crc]
  have same : s.a.headerChanged h = false := by
    refine Bool.eq_false_iff.2 fun changed => ?_
    obtain ⟨header, differs⟩ := (Audio.headerChanged_iff h s.a).1 changed
    obtain ⟨bitrate, sampling, mode⟩ := latched header
    exact differs.elim (· bitrate) (·.elim (· sampling) (· mode))
  have bounds := bodySize_bounds h.bitrateIndex h.samplingFrequency h.padding (!h.protection) low high rate
  rw [size_eq] at bounds
  have latch : Audio.latchHeader h { s.a with br := b } = { accepted with br := b } := by
    simp only [Audio.latchHeader, size_eq, stereoBound, Nat.mul_comm 4, accepted]
  have ends : exec (.mp2Header h) s = .next (audioReturns (Audio.decodeBody { accepted with br := b }) s) := by
    rw [exec_mp2Header, Audio.headerRow_of_accepted (not_or.2 ⟨low, high⟩) rate same, latch,
      deliverAudio_of_finished s (Audio.decodeBody_pos _)]
  have whole : accepted.nextFrameDataSize.toNat = size := by
    show (BitVec.ofNat 16 size).toNat = size
    rw [BitVec.toNat_ofNat, Nat.mod_eq_of_lt (by omega)]
  have pending : accepted.nextFrameDataSize ≠ 0 := by
    intro zero
    rw [zero] at whole
    exact absurd whole (by simp only [BitVec.ofNat_eq_ofNat, BitVec.toNat_ofNat]; omega)
  have sampling : accepted.samplerateIndex = h.samplingFrequency := rfl
  clear_value accepted b size
  refine ⟨bounds.1, bounds.2, fun stored => ?decoded, fun short => ?waiting⟩
  case decoded =>
    have body := Audio.decodeBody_of_stored (a := { accepted with br := b }) pending
      (whole ▸ BitReader.le_avail_of_le stored)
    rw [ends, body, audioReturns_pos, Audio.frameReturned]
    simp only [Audio.decodeFrame_samplesDecoded, Audio.decodeFrame_time, sampling]
  case waiting =>
    have few : b.avail < 8 * size := (b.avail_lt_iff (by omega)).2 short
    have body := Audio.decodeBody_of_short (a := { accepted with br := b }) pending (whole ▸ few)
    rw [ends, body, Audio.returnNone, audioReturns_pos, BitReader.has_of_lt few]

end Sys2Proof.Machine
end

section
/-! A syncword under the cursor, and what the header search of an ADECODE finds (R318, R412, R902, R903). -/

namespace Sys2Proof

/-! ### Header bits (R318) -/

/-- Bits that begin with the syncword are those of a header. -/
theorem decodeMp2Header_of_sync {bits : List Bool} (sync : (takeField 11 bits).1 = 0x7FF) :
    ∃ i rest, decodeMp2Header bits = .ok (i, rest) := by
  unfold decodeMp2Header
  dsimp only
  rw [if_neg (by rw [sync]; decide)]
  split
  · exact ⟨_, _, rfl⟩
  · exact ⟨_, _, rfl⟩

end Sys2Proof

namespace Sys2Proof.Machine

/-- What the bits of a header decode to is one of the two header rows (R318). -/
theorem decode_mp2Header_ok {bits rest : List Bool} {i : Instr} (d : decode .mp2Header bits = .ok (i, rest)) :
    (∃ m, i = .mp2Header m) ∨ ∃ m, i = .mp2SyncOther m := decodeMp2Header_ok d

/-! ### Syncwords (R403, R412) -/

/-- Bits that are stored (R400). -/
theorem BitReader.upcoming_of_le {n : Nat} {b : BitReader} (h : n ≤ b.avail) :
    b.upcoming n = b.bitsFrom b.bitIndex n := by
  rw [BitReader.upcoming, Nat.min_eq_left h]

/-- A field that reads as anything but 0 is the number of the next bits (R403). -/
theorem BitReader.natOfBits_upcoming_of_read {n x : Nat} {b : BitReader} (h : (b.read n).1 = x) (k : x ≠ 0) :
    natOfBits (b.upcoming n) = x := by
  have stored := le_avail_of_read h k
  rw [upcoming_of_le stored, ← h, read_of_le stored]

/-- The bits at a syncword decode to a header row (R318). -/
theorem BitReader.decode_of_sync {b : BitReader} (sync : (b.read 11).1 = 0x7FF) :
    ∃ i rest, decode .mp2Header (b.upcoming 48) = .ok (i, rest) := by
  have stored : 11 ≤ b.avail := le_avail_of_read sync (by decide)
  obtain ⟨m, more⟩ : ∃ m, min 48 b.avail = 11 + m := ⟨min 48 b.avail - 11, by omega⟩
  have lead : b.upcoming 48 = b.upcoming 11 ++ b.bitsFrom (b.bitIndex + 11) m := by
    rw [BitReader.upcoming, more, bitsFrom_add, upcoming_of_le stored]
  refine decodeMp2Header_of_sync ?_
  rw [lead, takeField_append (by rw [upcoming_of_le stored, bitsFrom_length])]
  exact natOfBits_upcoming_of_read sync (by decide)

/-- The second byte of a syncword begins with three 1 bits (R412). -/
theorem take_bitsOf_of_sync : ∀ x : Byte, x &&& 0xFE = 0xFC → (bitsOf x).take 3 = [true, true, true] := by
  decide +kernel

/-- The 11 bits in front of the cursor that a search has left are the syncword (R412). -/
theorem BitReader.read_of_found {b d : BitReader} (found : b.findFrameSync = (true, d)) :
    (BitReader.read 11 { d with bitIndex := d.bitIndex - 11 }).1 = 0x7FF := by
  unfold BitReader.findFrameSync at found
  split at found
  case h_2 => cases found
  case h_1 i h =>
    cases found
    obtain ⟨-, stored, sync⟩ := syncFrom_spec h
    simp only [BitReader.frameSyncAt, Bool.and_eq_true, beq_iff_eq] at sync
    obtain ⟨first, second⟩ := sync
    have back : 8 * (i + 1) + 3 - 11 = 8 * i := by omega
    have three : b.bitsFrom (8 * i + 8) 3 = [true, true, true] := by
      have whole := b.bitsFrom_byte (i + 1)
      rw [← take_bitsOf_of_sync _ second, ← whole, show 8 * (i + 1) = 8 * i + 8 by omega, b.bitsFrom_add _ 3 5,
        List.take_left' (b.bitsFrom_length ..)]
    have bits : b.bitsFrom (8 * i) 11 = bitsOf (0xFF : Byte) ++ [true, true, true] := by
      rw [b.bitsFrom_add _ 8 3, bitsFrom_byte, first, three]
    simp only [back]
    rw [read_of_le (by simp only [BitReader.avail, BitReader.length]; omega)]
    exact (congrArg natOfBits bits).trans (by decide)

/-! ### Behind garbage (R903) -/

/-- Bits behind the stuffing that are no syncword start the resynchronisation. -/
theorem fetchAudio_of_garbage {a : Audio} {c : BitReader} (p : a.pos = .header)
    (skips : (a.br.skipBytes 0x00).2 = c) (garbage : (c.read 11).1 ≠ 0x7FF) :
    fetchAudio a = resync { a with br := c.take 11 } := by
  subst skips
  unfold fetchAudio
  rw [p]
  exact if_neg garbage

/-- A search that meets a syncword stands behind it. -/
theorem resync_of_met {a : Audio} {d : BitReader} (met : a.br.findFrameSync = (true, d)) :
    resync a = headerBehindSearch { a.raise .resync with br := d } := by
  unfold resync
  simp only [Audio.raise_br, met, if_true]

/-- A search that meets none ends the command. -/
theorem resync_of_lost {a : Audio} {d : BitReader} (lost : a.br.findFrameSync = (false, d)) :
    resync a = .ended { a.raise .resync with br := d }.returnNone := by
  unfold resync
  simp only [Audio.raise_br, lost, Bool.false_eq_true, if_false]

/-! ### Rows that are fetched (R902-R907) -/

/-- A header row reads some bits at least (R902, R904-R907). -/
theorem Audio.headerReads_pos (i : Instr) (a : Audio) : 0 < a.headerReads i := by
  unfold Audio.headerReads
  split
  · split <;> [omega; split <;> [omega; split <;> [omega; split <;> omega]]]
  · omega

/-- A row that is fetched stands at a syncword (R902, R903). -/
theorem fetchAudio_row_sync {a b : Audio} {i : Instr} (h : fetchAudio a = .row i b) : (b.br.read 11).1 = 0x7FF := by
  rcases (fetchAudio_row h).2 with ⟨sync, row⟩ | ⟨-, found, row⟩
  · obtain ⟨rfl, -, -⟩ := headerBehindStuffing_row row
    exact sync
  · obtain ⟨-, rfl⟩ := headerBehindSearch_row row
    exact BitReader.read_of_found (Prod.ext found rfl)

/-! ### Every search -/

/-- What a header search changes at most: the reader without its bytes, and the registers of AudioResync. -/
def Audio.Searched (a b : Audio) : Prop :=
  b.br.bytes = a.br.bytes ∧ (b = { a with br := b.br } ∨ b = { a.raise .resync with br := b.br })

/-- A header search finds a row, or it ends the command (R902, R903). -/
theorem fetchAudio_cases {a : Audio} (p : a.pos = .header) :
    (∃ i b, fetchAudio a = .row i b ∧ a.Searched b) ∨ ∃ b, fetchAudio a = .ended b.returnNone ∧ a.Searched b := by
  by_cases sync : ((a.br.skipBytes 0x00).2.read 11).1 = 0x7FF
  · obtain ⟨i, rest, d⟩ := BitReader.decode_of_sync sync
    have row := headerAt_of_decode (a := { a with br := (a.br.skipBytes 0x00).2 }) d
    by_cases stored : a.headerReads i ≤ (a.br.skipBytes 0x00).2.avail
    · exact .inl ⟨i, _, fetchAudio_of_stored p sync row stored, by simp, .inl rfl⟩
    · exact .inr ⟨_, fetchAudio_of_short p sync row (Nat.not_le.1 stored), by simp, .inl rfl⟩
  · rw [fetchAudio_of_garbage p rfl sync]
    rcases search : (BitReader.take 11 (a.br.skipBytes 0x00).2).findFrameSync with ⟨found, d⟩
    have bytes : d.bytes = a.br.bytes := by
      rw [show d = (BitReader.take 11 (a.br.skipBytes 0x00).2).findFrameSync.2 by rw [search]]
      simp
    cases found with
    | false => exact .inr ⟨_, resync_of_lost search, bytes, .inr rfl⟩
    | true =>
      rw [resync_of_met search]
      by_cases stored : 37 ≤ d.avail
      · obtain ⟨i, rest, header⟩ := BitReader.decode_of_sync (BitReader.read_of_found search)
        exact .inl ⟨i, _, (headerBehindSearch_of_stored stored).trans (headerAt_of_decode header), bytes, .inr rfl⟩
      · exact .inr ⟨_, headerBehindSearch_of_short (Nat.not_le.1 stored), bytes, .inr rfl⟩

end Sys2Proof.Machine
end

section
/-! An ADECODE by the branches of R901, and what every one of them leaves (R901, R909, R1152, R1156). -/

namespace Sys2Proof.Machine

/-! ### The branches of R901 -/

/-- The engine at the start of an ADECODE: no output, and the command-local flags clear (R1156, R1301). -/
def Audio.cleared (a : Audio) : Audio := { a with outValid := false, raised := false, br.needData := false }

/-- The bits an ADECODE waits for at the cursor: the body of the pending header, or 48 (R901). -/
def Audio.awaited (a : Audio) : Nat := if a.nextFrameDataSize = 0 then 48 else 8 * a.nextFrameDataSize.toNat

theorem Audio.awaited_of_none {a : Audio} (noHeader : a.nextFrameDataSize = 0) : a.awaited = 48 := if_pos noHeader

theorem Audio.awaited_of_pending {a : Audio} (pending : a.nextFrameDataSize ≠ 0) :
    a.awaited = 8 * a.nextFrameDataSize.toNat := if_neg pending

/-- An ADECODE waits for some bits at least (R901). -/
theorem Audio.awaited_pos (a : Audio) : 0 < a.awaited := by
  unfold Audio.awaited
  split
  · decide
  · rename_i pending
    have some_ : a.nextFrameDataSize.toNat ≠ 0 := fun zero => pending (BitVec.eq_of_toNat_eq zero)
    omega

/-- Fewer bits than an ADECODE waits for. -/
theorem Audio.avail_lt_awaited {a : Audio} {n : Nat} (awaits : a.awaited = n)
    (few : 8 * a.br.bytes.length < a.br.bitIndex + n) : a.br.avail < a.awaited :=
  (a.br.avail_lt_iff a.awaited_pos).2 (awaits ▸ few)

/-- An idle ADE runs the command (R1156). -/
theorem exec_adecode {s : State} (idle : s.a.pos = .idle) : exec .adecode s = decodeAudio s := if_pos idle

/-- With a header pending the body is all that is left to do (R901). -/
theorem decodeAudio_of_pending {s : State} (pending : s.a.nextFrameDataSize ≠ 0) :
    decodeAudio s = .next (audioReturns s.a.cleared.decodeBody s) := by
  have begins : s.a.beginDecode = s.a.cleared.decodeBody := if_neg pending
  have ends := deliverAudio_of_finished { s with response := none } s.a.cleared.decodeBody_pos
  rw [decodeAudio, begins, show deliverAudio _ = _ from ends]
  exact if_pos rfl

/-- With no header pending the 48 bits at the cursor decide how an ADECODE begins (R901). -/
theorem Audio.beginDecode_of_none {a : Audio} (noHeader : a.nextFrameDataSize = 0) :
    a.beginDecode =
      if (a.cleared.br.has 48).1 then { a.cleared with br := (a.cleared.br.has 48).2, pos := .header }
      else { a.cleared with br := (a.cleared.br.has 48).2 }.returnNone :=
  if_pos noHeader

/-- With fewer bits than it waits for, an ADECODE ends with the cursor where it was (R901). -/
theorem decodeAudio_of_short {s : State} (short : s.a.br.avail < s.a.awaited) :
    decodeAudio s = .next (audioReturns { s.a.cleared with br := s.a.cleared.br.short } s) := by
  by_cases noHeader : s.a.nextFrameDataSize = 0
  · rw [Audio.awaited_of_none noHeader] at short
    have fails : s.a.cleared.br.has 48 = (false, s.a.cleared.br.short) := BitReader.has_of_lt short
    have begins : s.a.beginDecode = { s.a.cleared with br := s.a.cleared.br.short }.returnNone := by
      rw [Audio.beginDecode_of_none noHeader, fails]
      exact if_neg nofun
    have ends := deliverAudio_of_finished (a := s.a.beginDecode) { s with response := none } (by rw [begins]; rfl)
    rw [decodeAudio, show deliverAudio _ = _ from ends, begins, Audio.returnNone, audioReturns_pos]
    exact if_pos rfl
  · rw [Audio.awaited_of_pending noHeader] at short
    rw [decodeAudio_of_pending noHeader, Audio.decodeBody_of_short (a := s.a.cleared) noHeader short, Audio.returnNone,
      audioReturns_pos]

/-- An ADECODE that waits, in the terms of `has` (R402, R901). -/
theorem decodeAudio_of_few {s : State} {n : Nat} (awaits : s.a.awaited = n)
    (few : 8 * s.a.br.bytes.length < s.a.br.bitIndex + n) :
    decodeAudio s = .next (audioReturns { s.a.cleared with br := (s.a.cleared.br.has n).2 } s) := by
  have short := Audio.avail_lt_awaited awaits few
  have fails : s.a.cleared.br.has n = (false, s.a.cleared.br.short) :=
    BitReader.has_of_lt (short.trans_eq awaits)
  rw [decodeAudio_of_short short, fails]

/-- With the body of the pending header stored, its frame is decoded and its samples are returned (R901). -/
theorem decodeAudio_of_frame {s : State} (pending : s.a.nextFrameDataSize ≠ 0)
    (stored : 8 * s.a.nextFrameDataSize.toNat ≤ s.a.br.avail) :
    decodeAudio s = .next (audioReturns s.a.cleared.frameReturned s) := by
  rw [decodeAudio_of_pending pending, Audio.decodeBody_of_stored (a := s.a.cleared) pending stored, audioReturns_pos]

/-- The block before the header search of an ADECODE, with its reader at `b`. -/
def State.searching (b : BitReader) (s : State) : State :=
  { s with a := { s.a.cleared with br := b, pos := .header }, response := none }

/-- With no header pending and 48 bits stored, the header search runs (R901, R902). -/
theorem decodeAudio_of_search {s : State} (noHeader : s.a.nextFrameDataSize = 0) (stored : 48 ≤ s.a.br.avail) :
    decodeAudio s = audioElement (s.searching s.a.cleared.br) := by
  have holds : s.a.cleared.br.has 48 = (true, s.a.cleared.br) := BitReader.has_snd_of_le stored
  have begins : s.a.beginDecode = { s.a.cleared with pos := .header } := by
    rw [Audio.beginDecode_of_none noHeader, holds]
    exact if_pos rfl
  have running := deliverAudio_of_unfinished (s := { s with a := s.a.beginDecode, response := none })
    (by rw [begins]; exact nofun)
  rw [decodeAudio, running, begins]
  exact if_neg nofun

/-- A header row that the search finds is run. -/
theorem audioElement_of_row {s : State} {i : Instr} {b : Audio} (h : fetchAudio s.a = .row i b) :
    audioElement s = exec i { s with a := b } := by
  have positions : i.positions ≠ [] := by
    rcases fetchAudio_instr h with ⟨m, rfl⟩ | ⟨m, rfl⟩ <;> simp [Instr.positions]
  rw [audioElement, h]
  exact runRow_eq_exec i positions _

/-- A search that ends the command returns with no output. -/
theorem audioElement_of_ended {s : State} {b : Audio} (h : fetchAudio s.a = .ended b.returnNone) :
    audioElement s = .next (audioReturns b s) := by
  rw [audioElement, h]
  exact congrArg _ (deliverAudio_of_finished s rfl)

/-! ### What an ADECODE leaves (R901, R909) -/

/-- Nothing has come out since the ADE was `a`: no clock, sample or delay-line word has changed (R909). -/
structure Audio.Silent (a b : Audio) : Prop where
  bytes : b.br.bytes = a.br.bytes
  outValid : b.outValid = false
  samplesTime : b.samplesTime = a.samplesTime
  samplesDecoded : b.samplesDecoded = a.samplesDecoded
  time : b.time = a.time
  out : b.out = a.out
  delay : b.delay = a.delay
  vPos : b.vPos = a.vPos

/-- One frame has come out since the ADE was `a` (R901 step 5). -/
structure Audio.Emits (a b : Audio) : Prop where
  bytes : b.br.bytes = a.br.bytes
  outValid : b.outValid = true
  samplesTime : b.samplesTime = a.time
  samplesDecoded : b.samplesDecoded = a.samplesDecoded + 1152
  time : b.time = (b.samplesDecoded : Rat) / sampleRate b.samplerateIndex
  nextFrameDataSize : b.nextFrameDataSize = 0
  vPos : b.vPos = a.vPos - 256

/-- What an ADECODE has made of the ADE `a` when its response word is due. -/
def Audio.Ends (a b : Audio) : Prop := b.pos = .finished ∧ (a.Silent b ∨ a.Emits b)

theorem Audio.cleared_silent (a : Audio) : a.Silent a.cleared := ⟨rfl, rfl, rfl, rfl, rfl, rfl, rfl, rfl⟩

/-- A change of the reader alone lets nothing out. -/
theorem Audio.Silent.read {a b : Audio} (h : a.Silent b) {br : BitReader} (bytes : br.bytes = b.br.bytes) :
    a.Silent { b with br := br } :=
  ⟨bytes.trans h.bytes, h.outValid, h.samplesTime, h.samplesDecoded, h.time, h.out, h.delay, h.vPos⟩

theorem Audio.Silent.raise {a b : Audio} (h : a.Silent b) (c : AudioCause) : a.Silent (b.raise c) :=
  ⟨h.bytes, h.outValid, h.samplesTime, h.samplesDecoded, h.time, h.out, h.delay, h.vPos⟩

theorem Audio.Silent.latchHeader {a b : Audio} (h : a.Silent b) (m : Mp2Header) : a.Silent (b.latchHeader m) :=
  ⟨h.bytes, h.outValid, h.samplesTime, h.samplesDecoded, h.time, h.out, h.delay, h.vPos⟩

/-- A header search lets nothing out (R902, R903). -/
theorem Audio.Silent.searched {a b c : Audio} (h : a.Silent b) (k : b.Searched c) : a.Silent c := by
  obtain ⟨bytes, k | k⟩ := k <;> rw [k]
  · exact h.read bytes
  · exact (h.raise .resync).read bytes

/-- An ADECODE that returns with no output. -/
theorem Audio.Silent.returnNone {a b : Audio} (h : a.Silent b) : a.Ends b.returnNone :=
  ⟨rfl, .inl ⟨h.bytes, h.outValid, h.samplesTime, h.samplesDecoded, h.time, h.out, h.delay, h.vPos⟩⟩

/-- An ADECODE that returns with a frame. -/
theorem Audio.Emits.finished {a b : Audio} (h : a.Emits b) : a.Ends { b with pos := .finished } :=
  ⟨rfl, .inr ⟨h.bytes, h.outValid, h.samplesTime, h.samplesDecoded, h.time, h.nextFrameDataSize, h.vPos⟩⟩

/-- A frame moves the clocks and the delay line by one frame (R901, R1101). -/
theorem Audio.Silent.frameReturned {a b : Audio} (h : a.Silent b) : a.Emits b.frameReturned where
  bytes := b.decodeFrame_bytes.trans h.bytes
  outValid := rfl
  samplesTime := h.time
  samplesDecoded := congrArg (· + 1152) h.samplesDecoded
  time := by rw [Audio.frameReturned, Audio.decodeFrame_samplerateIndex]
  nextFrameDataSize := rfl
  vPos := by
    show b.decodeFrame.vPos = _
    rw [Audio.decodeFrame_vPos, h.vPos]

/-- The body of a frame is decoded whole, or nothing comes out (R901). -/
theorem Audio.Silent.decodeBody {a b : Audio} (h : a.Silent b) : a.Ends b.decodeBody := by
  by_cases noHeader : b.nextFrameDataSize = 0
  · rw [Audio.decodeBody, if_pos noHeader]
    exact h.returnNone
  by_cases stored : 8 * b.nextFrameDataSize.toNat ≤ b.br.avail
  · rw [Audio.decodeBody_of_stored noHeader stored]
    exact h.frameReturned.finished
  · rw [Audio.decodeBody_of_short noHeader (Nat.not_le.1 stored)]
    exact (h.read b.br.short_bytes).returnNone

/-- A rejected header lets nothing out (R909). -/
theorem Audio.Silent.rejectHeader {a b : Audio} (h : a.Silent b) {br : BitReader} (bytes : br.bytes = b.br.bytes)
    (c : AudioCause) : a.Ends (Audio.rejectHeader c { b with br := br }) :=
  have rejected := (h.read bytes).raise c
  ⟨rfl, .inl ⟨rejected.bytes, rejected.outValid, rejected.samplesTime, rejected.samplesDecoded, rejected.time,
    rejected.out, rejected.delay, rejected.vPos⟩⟩

/-- A header lets nothing out before its body (R904-R909). -/
theorem Audio.Silent.headerRow {a b : Audio} (h : a.Silent b) (m : Mp2Header) : a.Ends (b.headerRow m) := by
  by_cases bitrate : m.bitrateIndex = 0 ∨ m.bitrateIndex = 15
  · rw [Audio.headerRow_of_bitrate bitrate]
    exact h.rejectHeader (b.br.takeFields_bytes _) _
  by_cases rate : m.samplingFrequency = 3
  · rw [Audio.headerRow_of_samplerate bitrate rate]
    exact h.rejectHeader (b.br.takeFields_bytes _) _
  by_cases changed : b.headerChanged m = true
  · rw [Audio.headerRow_of_change bitrate rate changed]
    exact h.rejectHeader (b.br.takeFields_bytes _) _
  · rw [Audio.headerRow_of_accepted bitrate rate (Bool.eq_false_iff.2 changed)]
    exact ((h.read (b.br.takeFields_bytes _)).latchHeader m).decodeBody

/-- A header row ends its ADECODE (R901). -/
theorem exec_header_ends {s : State} {a b : Audio} {i : Instr} (h : a.Silent b)
    (header : (∃ m, i = .mp2Header m) ∨ ∃ m, i = .mp2SyncOther m) :
    ∃ c, a.Ends c ∧ exec i { s with a := b } = .next (audioReturns c s) := by
  rcases header with ⟨m, rfl⟩ | ⟨m, rfl⟩
  · have ends := h.headerRow m
    exact ⟨_, ends, congrArg Host.Outcome.next (deliverAudio_of_finished s ends.1)⟩
  · have ends := h.rejectHeader (b.br.takeFields_bytes [11, 2, 2, 1]) .versionLayer
    exact ⟨_, ends, congrArg Host.Outcome.next (deliverAudio_of_finished s ends.1)⟩

/-- Every ADECODE returns, with one frame or with nothing (R901, R909). -/
theorem decodeAudio_ends (s : State) : ∃ b, s.a.Ends b ∧ decodeAudio s = .next (audioReturns b s) := by
  have begun := s.a.cleared_silent
  by_cases pending : s.a.nextFrameDataSize ≠ 0
  · exact ⟨_, begun.decodeBody, decodeAudio_of_pending pending⟩
  have noHeader := not_not.1 pending
  by_cases stored : 48 ≤ s.a.br.avail
  · have searching : s.a.Silent (s.searching s.a.cleared.br).a := ⟨rfl, rfl, rfl, rfl, rfl, rfl, rfl, rfl⟩
    rw [decodeAudio_of_search noHeader stored]
    rcases fetchAudio_cases (a := (s.searching s.a.cleared.br).a) rfl with ⟨i, b, row, found⟩ | ⟨b, ended, found⟩
    · rw [audioElement_of_row row]
      exact exec_header_ends (s := { s with response := none }) (searching.searched found) (fetchAudio_instr row)
    · have silent := searching.searched found
      exact ⟨_, silent.returnNone, audioElement_of_ended ended⟩
  · have short : s.a.br.avail < s.a.awaited := by
      rw [Audio.awaited_of_none noHeader]
      omega
    exact ⟨_, (begun.read s.a.cleared.br.short_bytes).returnNone, decodeAudio_of_short short⟩

/-- Settles O17: the engine that `decodeAudio_ends` gives, with its command-local flags gone. -/
theorem adecodeEnds : Obligations.AdecodeEnds := by
  intro s idle
  obtain ⟨b, ⟨-, outcome⟩, run⟩ := decodeAudio_ends s
  refine ⟨_, (exec_adecode idle).trans run, rfl, rfl, rfl, ?bytes, ⟨b.br.needData, b.raised, rfl⟩, ?output, ?nothing⟩
  case bytes => exact outcome.elim Audio.Silent.bytes Audio.Emits.bytes
  case output =>
    intro valid
    rcases outcome with silent | emits
    · exact absurd (silent.outValid.symm.trans valid) (by decide)
    · exact ⟨emits.samplesTime, emits.samplesDecoded, emits.time, emits.nextFrameDataSize, emits.vPos⟩
  case nothing =>
    intro invalid
    rcases outcome with silent | emits
    · exact ⟨silent.samplesTime, silent.samplesDecoded, silent.time, silent.out, silent.delay, silent.vPos⟩
    · exact absurd (emits.outValid.symm.trans invalid) (by decide)

end Sys2Proof.Machine
end

section
/-! The header search of an ADECODE, with 48 bits stored, by its paths (R902, R903, R1162). -/

namespace Sys2Proof.Machine

/-- The block after an ADECODE that waits with its reader at `c`. -/
def State.waited (c : BitReader) (s : State) : State := audioReturns { s.a.cleared with br := c.short } s

variable {s : State} (noHeader : s.a.nextFrameDataSize = 0) (stored : 48 ≤ s.a.br.avail) {c : BitReader}

include noHeader stored

/-- A row that the search finds is run. -/
theorem decodeAudio_of_row {i : Instr} {b : Audio} (row : fetchAudio (s.searching s.a.cleared.br).a = .row i b) :
    decodeAudio s = exec i { s with a := b, response := none } :=
  (decodeAudio_of_search noHeader stored).trans (audioElement_of_row (s := s.searching s.a.cleared.br) row)

/-- A search that ends the command returns with no output. -/
theorem decodeAudio_of_ended {b : Audio} (ended : fetchAudio (s.searching s.a.cleared.br).a = .ended b.returnNone) :
    decodeAudio s = .next (audioReturns b s) :=
  (decodeAudio_of_search noHeader stored).trans (audioElement_of_ended (s := s.searching s.a.cleared.br) ended)

/-- A header behind stuffing with the bits stored that its rules read is run (R902). -/
theorem decodeAudio_of_header {i : Instr} {rest : List Bool} (skips : (s.a.cleared.br.skipBytes 0x00).2 = c)
    (sync : (c.read 11).1 = 0x7FF) (d : decode .mp2Header (c.upcoming 48) = .ok (i, rest))
    (whole : s.a.headerReads i ≤ c.avail) : decodeAudio s = exec i (s.searching c) := by
  subst skips
  exact decodeAudio_of_row noHeader stored (fetchAudio_of_stored rfl sync (headerAt_of_decode d) whole)

/-- One that is cut short is waited for with the cursor on its first byte (R1162). -/
theorem decodeAudio_of_cut {i : Instr} {rest : List Bool} (skips : (s.a.cleared.br.skipBytes 0x00).2 = c)
    (sync : (c.read 11).1 = 0x7FF) (d : decode .mp2Header (c.upcoming 48) = .ok (i, rest))
    (cut : c.avail < s.a.headerReads i) : decodeAudio s = .next (s.waited c) := by
  subst skips
  exact decodeAudio_of_ended noHeader stored (fetchAudio_of_short rfl sync (headerAt_of_decode d) cut)

/-- A search behind garbage that meets no syncword ends the command (R903). -/
theorem decodeAudio_of_lost {d : BitReader} (skips : (s.a.cleared.br.skipBytes 0x00).2 = c)
    (garbage : (c.read 11).1 ≠ 0x7FF) (lost : (c.take 11).findFrameSync = (false, d)) :
    decodeAudio s = .next (audioReturns { s.a.cleared.raise .resync with br := d } s) := by
  have fetched := fetchAudio_of_garbage (a := (s.searching s.a.cleared.br).a) rfl skips garbage
  exact decodeAudio_of_ended noHeader stored (fetched.trans (resync_of_lost lost))

/-- A syncword that it meets with fewer than 37 bits behind it is left for the next ADECODE (R903). -/
theorem decodeAudio_of_met_short {d : BitReader} (skips : (s.a.cleared.br.skipBytes 0x00).2 = c)
    (garbage : (c.read 11).1 ≠ 0x7FF) (met : (c.take 11).findFrameSync = (true, d)) (short : d.avail < 37) :
    decodeAudio s = .next (audioReturns
      { s.a.cleared.raise .resync with br := { d.short with bitIndex := d.bitIndex - 11 } } s) := by
  have fetched := fetchAudio_of_garbage (a := (s.searching s.a.cleared.br).a) rfl skips garbage
  have behind := headerBehindSearch_of_short (a := { s.a.cleared.raise .resync with br := d, pos := .header }) short
  exact decodeAudio_of_ended noHeader stored (fetched.trans ((resync_of_met met).trans behind))

/-- One that it meets with 37 bits behind it is the row that is run (R903). -/
theorem decodeAudio_of_met {d : BitReader} (skips : (s.a.cleared.br.skipBytes 0x00).2 = c)
    (garbage : (c.read 11).1 ≠ 0x7FF) (met : (c.take 11).findFrameSync = (true, d)) (enough : 37 ≤ d.avail) :
    ∃ i rest, decode .mp2Header (BitReader.upcoming { d with bitIndex := d.bitIndex - 11 } 48) = .ok (i, rest) ∧
      decodeAudio s = exec i { s with
        a := { s.a.cleared.raise .resync with br := { d with bitIndex := d.bitIndex - 11 }, pos := .header }
        response := none } := by
  obtain ⟨i, rest, header⟩ := BitReader.decode_of_sync (BitReader.read_of_found met)
  have fetched := fetchAudio_of_garbage (a := (s.searching s.a.cleared.br).a) rfl skips garbage
  have behind := headerBehindSearch_of_stored (a := { s.a.cleared.raise .resync with br := d, pos := .header }) enough
  have row := headerAt_of_decode
    (a := { s.a.cleared.raise .resync with br := { d with bitIndex := d.bitIndex - 11 }, pos := .header }) header
  exact ⟨i, rest, header, decodeAudio_of_row noHeader stored
    (fetched.trans ((resync_of_met met).trans (behind.trans row)))⟩

end Sys2Proof.Machine
end

section
/-! A split of the stream that shows nothing, and ADECODE by its paths (R900-R903, R1162). -/

namespace Sys2Proof.Machine

/-! ### Readers that differ in what a wait changes (R402, R406, R1153) -/

/-- Where `skip_bytes` stops depends on the bytes and the cursor alone (R406). -/
theorem BitReader.skipEqual_bitIndex_congr {v : Byte} {k : Nat} {b c : BitReader} (bytes : c.bytes = b.bytes)
    (cursor : c.bitIndex = b.bitIndex) :
    (BitReader.skipEqual v k c).2.bitIndex = (BitReader.skipEqual v k b).2.bitIndex := by
  induction k generalizing b c with
  | zero => exact cursor
  | succ k ih =>
    have left : c.avail = b.avail := by rw [BitReader.avail, BitReader.length, bytes, cursor]; rfl
    have byte : c.byteAt (c.bitIndex / 8) = b.byteAt (b.bitIndex / 8) := by rw [cursor, BitReader.byteAt, bytes]; rfl
    unfold BitReader.skipEqual
    simp only [has_fst, left, byte]
    split
    · exact ih bytes (congrArg (· + 8) cursor)
    · simpa using cursor

/-- Before a stored byte `skip_bytes` passes the `need_data` flag on (R402, R406). -/
theorem BitReader.skipBytes_of_needData {v : Byte} {b : BitReader} (flag : Bool)
    (stored : 8 ≤ (b.skipBytes v).2.avail) :
    (BitReader.skipBytes v { b with needData := flag }).2 = { (b.skipBytes v).2 with needData := flag } := by
  have cursor : (BitReader.skipBytes v { b with needData := flag }).2.bitIndex = (b.skipBytes v).2.bitIndex :=
    skipEqual_bitIndex_congr rfl rfl
  have left : (BitReader.skipBytes v { b with needData := flag }).2.avail = (b.skipBytes v).2.avail := by
    simp only [BitReader.avail, BitReader.length, skipBytes_bytes, cursor]
  rw [skipBytes_of_stored (left ▸ stored), cursor, skipBytes_of_stored stored]

/-- The next bits depend on the bytes and the cursor alone (R201). -/
theorem BitReader.bitsFrom_congr {b c : BitReader} (bytes : c.bytes = b.bytes) (k n : Nat) :
    c.bitsFrom k n = b.bitsFrom k n := by
  induction n generalizing k with
  | zero => rfl
  | succ n ih => rw [BitReader.bitsFrom, BitReader.bitsFrom, ih, BitReader.bitAt, BitReader.byteAt, bytes]; rfl

theorem BitReader.upcoming_of_needData (flag : Bool) (b : BitReader) (n : Nat) :
    BitReader.upcoming { b with needData := flag } n = b.upcoming n :=
  bitsFrom_congr (b := b) (c := { b with needData := flag }) rfl _ _

/-- A second `has` that fails changes nothing (R402). -/
theorem BitReader.short_of_short (flag : Bool) (b : BitReader) :
    BitReader.short { b.short with needData := flag } = b.short := by
  have again : (b.ended || (b.totalSize != 0 && b.length == b.totalSize) ||
      (b.totalSize != 0 && b.length == b.totalSize)) =
      (b.ended || (b.totalSize != 0 && b.length == b.totalSize)) := by
    rw [Bool.or_assoc, Bool.or_self]
  exact congrArg (fun e : Bool => { b with ended := e, needData := true }) again

/-- A write that fits, with compaction off, appends its bytes (R1153). -/
theorem BitReader.write_of_fits {b : BitReader} {bytes : List Byte} (keeps : b.discardRead = false)
    (fits : fitsCapacity (b.length + bytes.length) = true) :
    b.write bytes = { b with bytes := b.bytes ++ bytes, ended := false } := by
  unfold BitReader.write
  simp only [keeps, Bool.false_eq_true, if_false]
  exact if_pos fits

/-- A write that does not fit changes nothing (R1153). -/
theorem BitReader.write_of_full {b : BitReader} {bytes : List Byte} (keeps : b.discardRead = false)
    (full : ¬ fitsCapacity (b.length + bytes.length) = true) : b.write bytes = b := by
  unfold BitReader.write
  simp only [keeps, Bool.false_eq_true, if_false]
  exact if_neg full

/-! ### An ADECODE that waits (R901, R1162) -/

/-- The block after an AWRITE that appends bytes (R1153). -/
def State.appended (bytes : List Byte) (s : State) : State :=
  { s with a := { s.a with br := { s.a.br with bytes := s.a.br.bytes ++ bytes, ended := false } }, response := none }

/-- An ADECODE begins with the engine cleared, so what is cleared then does not matter before (R1156). -/
theorem decodeAudio_congr {s t : State} (audio : s.a.cleared = t.a.cleared) (video : s.v = t.v)
    (queue : s.host = t.host) : decodeAudio s = decodeAudio t := by
  have cleared (u : State) : decodeAudio u = decodeAudio ⟨u.v, u.a.cleared, u.host, none⟩ := rfl
  rw [cleared s, cleared t, audio, video, queue]

/-- An ADECODE that has waited waits again (R901). -/
theorem decodeAudio_waited {s : State} {c : BitReader} (short : c.avail < s.a.awaited) :
    decodeAudio (s.waited c) = .next (s.waited c) := by
  have again := decodeAudio_of_short (s := s.waited c) short
  have same : (s.waited c).a.cleared.br.short = c.short := BitReader.short_of_short false c
  rw [again, same]
  rfl

/-- A wait that leaves the cursor is forgotten with the bytes that follow it (R1162). -/
theorem decodeAudio_appended_waited {s : State} (idle : s.a.pos = .idle) (bytes : List Byte) :
    decodeAudio ((s.waited s.a.cleared.br).appended bytes) = decodeAudio (s.appended bytes) := by
  refine decodeAudio_congr ?_ rfl rfl
  have position : s.a = { s.a with pos := .idle } := by rw [← idle]
  rw [State.appended, State.appended, position]
  rfl

/-- Searches that find the same run the same (R902, R903). -/
theorem audioElement_searching_congr {s : State} {b c : BitReader}
    (same : fetchAudio (s.searching b).a = fetchAudio (s.searching c).a) :
    audioElement (s.searching b) = audioElement (s.searching c) := by
  rcases fetchAudio_cases (a := (s.searching b).a) rfl with ⟨i, found, row, -⟩ | ⟨found, ended, -⟩
  · rw [audioElement_of_row row, audioElement_of_row (same ▸ row)]
    rfl
  · rw [audioElement_of_ended ended, audioElement_of_ended (same ▸ ended)]
    rfl

/-- A wait behind stuffing has skipped it, and with the bytes that follow the header search finds what it would have
found from before the stuffing (R902, R1162). -/
theorem decodeAudio_appended_skipped {s : State} {bytes : List Byte} (noHeader : s.a.nextFrameDataSize = 0)
    (stored : 48 ≤ s.a.br.avail) {c : BitReader} (skips : (s.a.cleared.br.skipBytes 0x00).2 = c) (byte : 8 ≤ c.avail)
    (enough : c.bitIndex + 48 ≤ 8 * (c.bytes.length + bytes.length)) :
    decodeAudio ((s.waited c).appended bytes) = decodeAudio (s.appended bytes) := by
  have same := fetchAudio_append (a := (s.searching s.a.cleared.br).a) rfl bytes false (skips ▸ byte)
  have cursor := BitReader.skipBytes_of_stored (skips ▸ byte)
  rw [show (BitReader.skipBytes 0x00 (s.searching s.a.cleared.br).a.br).2 = c from skips] at same
  rw [skips] at cursor
  have unsplit : decodeAudio (s.appended bytes) =
      audioElement (s.searching { s.a.cleared.br with bytes := s.a.cleared.br.bytes ++ bytes, ended := false }) := by
    refine decodeAudio_of_search noHeader (stored.trans ?_)
    simp only [State.appended, BitReader.avail, BitReader.length, List.length_append]
    omega
  have split : decodeAudio ((s.waited c).appended bytes) =
      audioElement (s.searching { c with bytes := s.a.cleared.br.bytes ++ bytes, ended := false }) := by
    have resumed : 48 ≤ ((s.waited c).appended bytes).a.br.avail :=
      BitReader.le_avail_of_le (enough.trans_eq (congrArg (8 * ·) List.length_append.symm))
    rw [decodeAudio_of_search (s := (s.waited c).appended bytes) noHeader resumed, cursor]
    rfl
  rw [unsplit, split]
  exact audioElement_searching_congr same

/-- The command AWRITE, where the bytes fit and compaction is off (R1153). -/
theorem exec_awrite_of_fits {s : State} {bytes : List Byte} (idle : s.a.pos = .idle)
    (keeps : s.a.br.discardRead = false) (fits : fitsCapacity (s.a.br.length + bytes.length) = true) :
    exec (.awrite bytes) s = .next (s.appended bytes) := by
  have written := BitReader.write_of_fits keeps fits
  refine (if_pos idle).trans ?_
  rw [changeAudio, written]
  rfl

/-- A refused AWRITE returns nothing, and that is all (R1153). -/
theorem exec_awrite_of_full {s : State} {bytes : List Byte} (idle : s.a.pos = .idle)
    (keeps : s.a.br.discardRead = false) (full : ¬ fitsCapacity (s.a.br.length + bytes.length) = true) :
    exec (.awrite bytes) s = .next { s with response := none } := by
  have unwritten := BitReader.write_of_full keeps full
  refine (if_pos idle).trans ?_
  rw [changeAudio, unwritten]

/-! ### A split that shows nothing (R1162) -/

/-- An ADECODE, bytes written and an ADECODE again end where the bytes and one ADECODE end. -/
def State.SplitShowsNothing (bytes : List Byte) (s : State) : Prop :=
  ∃ t u y z : State,
    exec .adecode s = .next t ∧ exec (.awrite bytes) t = .next u ∧ exec .adecode u = .next z ∧
      exec (.awrite bytes) s = .next y ∧ exec .adecode y = .next z

/-- An ADECODE that waits is as if it had not been issued, where it is forgotten with the bytes that follow: a write
that is refused leaves it waiting (R1162). -/
theorem adecode_split {s : State} {c : BitReader} {bytes : List Byte} (idle : s.a.pos = .idle)
    (keeps : s.a.br.discardRead = false) (store : c.bytes = s.a.br.bytes) (discard : c.discardRead = s.a.br.discardRead)
    (short : c.avail < s.a.awaited) (waits : decodeAudio s = .next (s.waited c))
    (forgotten : decodeAudio ((s.waited c).appended bytes) = decodeAudio (s.appended bytes)) :
    s.SplitShowsNothing bytes := by
  have length : (s.waited c).a.br.length = s.a.br.length := congrArg List.length store
  have kept : (s.waited c).a.br.discardRead = false := discard.trans keeps
  by_cases fits : fitsCapacity (s.a.br.length + bytes.length) = true
  · obtain ⟨b, -, run⟩ := decodeAudio_ends (s.appended bytes)
    exact ⟨_, _, _, _, (exec_adecode idle).trans waits, exec_awrite_of_fits rfl kept (length ▸ fits),
      (exec_adecode rfl).trans (forgotten.trans run), exec_awrite_of_fits idle keeps fits,
      (exec_adecode (s := s.appended bytes) idle).trans run⟩
  · exact ⟨_, _, _, _, (exec_adecode idle).trans waits, exec_awrite_of_full rfl kept (length ▸ fits),
      (exec_adecode rfl).trans (decodeAudio_waited short), exec_awrite_of_full idle keeps fits,
      (exec_adecode (s := { s with response := none }) idle).trans waits⟩

/-- A wait at the cursor, for 48 bits or for a body (R901). -/
theorem adecode_split_of_short {s : State} {bytes : List Byte} (idle : s.a.pos = .idle)
    (keeps : s.a.br.discardRead = false) (short : s.a.br.avail < s.a.awaited) : s.SplitShowsNothing bytes :=
  adecode_split (c := s.a.cleared.br) idle keeps rfl rfl short (decodeAudio_of_short short)
    (decodeAudio_appended_waited idle bytes)

/-- A wait behind stuffing, for the bits of a header (R902). -/
theorem adecode_split_of_cut {s : State} {bytes : List Byte} {b : BitReader} {i : Instr} {rest : List Bool}
    (idle : s.a.pos = .idle) (keeps : s.a.br.discardRead = false) (noHeader : s.a.nextFrameDataSize = 0)
    (stored : 48 ≤ s.a.br.avail) (skips : (s.a.br.skipBytes 0x00).2 = b) (sync : (b.read 11).1 = 0x7FF)
    (enough : b.bitIndex + 48 ≤ 8 * (b.bytes.length + bytes.length))
    (d : decode .mp2Header (b.upcoming 48) = .ok (i, rest)) (cut : b.avail < s.a.headerReads i) :
    s.SplitShowsNothing bytes := by
  have lead : 11 ≤ b.avail := BitReader.le_avail_of_read sync (by decide)
  have byte : 8 ≤ b.avail := by omega
  have again : b.avail < s.a.awaited := by
    rw [Audio.awaited_of_none noHeader]
    exact cut.trans_le (Audio.headerReads_le i s.a)
  have cleared : (s.a.cleared.br.skipBytes 0x00).2 = { b with needData := false } :=
    (BitReader.skipBytes_of_needData false (skips ▸ byte)).trans (by rw [skips])
  have reader : s.a.br.Follows b := skips ▸ s.a.br.skipBytes_follows 0x00
  exact adecode_split (c := { b with needData := false }) idle keeps reader.bytes reader.discardRead again
    (decodeAudio_of_cut (c := { b with needData := false }) noHeader stored cleared sync
      ((b.upcoming_of_needData false 48).symm ▸ d) cut)
    (decodeAudio_appended_skipped noHeader stored cleared byte enough)

/-- Settles O18: the three parts by the paths above; what an ADECODE waits for is behind its stuffing, or at its
cursor. -/
theorem adecodePaths : Obligations.AdecodePaths := by
  delta Obligations.AdecodePaths
  intro reads
  have reads_eq (a : Audio) {i : Instr} (header : (∃ m, i = .mp2Header m) ∨ ∃ m, i = .mp2SyncOther m) :
      reads a i = a.headerReads i := by
    rcases header with ⟨m, rfl⟩ | ⟨m, rfl⟩
    · simp [reads, Audio.headerReads, Audio.headerChanged_iff]
    · rfl
  clear_value reads
  refine ⟨?fetched, ?split, ?paths⟩
  case fetched =>
    intro a b i row
    have sync := fetchAudio_row_sync row
    have stored := fetchAudio_row_stored row
    have bytes := fetchAudio_has a
    rw [row] at bytes
    refine ⟨BitReader.natOfBits_upcoming_of_read sync (by decide), bytes, ?_⟩
    rw [reads_eq b (fetchAudio_instr row)]
    have lead : 11 ≤ b.br.avail := BitReader.le_avail_of_read sync (by decide)
    exact BitReader.le_of_le_avail (by omega) stored
  case split =>
    intro s bytes idle keeps b size waits
    by_cases short : s.a.br.avail < s.a.awaited
    · exact adecode_split_of_short idle keeps short
    rcases waits with ⟨pending, few⟩ | ⟨noHeader, few | ⟨sync, enough, i, rest, d, cut⟩⟩
    · exact absurd (Audio.avail_lt_awaited (Audio.awaited_of_pending pending) few) short
    · exact absurd (Audio.avail_lt_awaited (Audio.awaited_of_none noHeader) few) short
    · rw [Audio.awaited_of_none noHeader, Nat.not_lt] at short
      rw [reads_eq s.a (decode_mp2Header_ok d)] at cut
      exact adecode_split_of_cut idle keeps noHeader short rfl sync enough d
        ((b.avail_lt_iff (s.a.headerReads_pos i)).2 cut)
  case paths =>
    intro s idle a size runs
    rw [exec_adecode idle]
    refine ⟨fun pending => ⟨fun stored => ?frame, fun few => ?body⟩,
      fun noHeader => ⟨fun few => ?bits, fun enough => ?search⟩⟩
    case frame => exact decodeAudio_of_frame pending (BitReader.le_avail_of_le stored)
    case body => exact decodeAudio_of_few (Audio.awaited_of_pending pending) few
    case bits => exact decodeAudio_of_few (Audio.awaited_of_none noHeader) few
    case search =>
      intro b
      have stored : 48 ≤ s.a.br.avail := BitReader.le_avail_of_le enough
      refine ⟨fun sync => ?header, fun garbage => ?garbage⟩
      case header =>
        obtain ⟨i, rest, d⟩ := BitReader.decode_of_sync sync
        refine ⟨i, rest, d, fun whole => ?_, fun few => ?_⟩
        · rw [reads_eq a (decode_mp2Header_ok d)] at whole
          exact decodeAudio_of_header noHeader stored rfl sync d (BitReader.le_avail_of_le whole)
        · rw [reads_eq a (decode_mp2Header_ok d)] at few ⊢
          have cut := (b.avail_lt_iff (a.headerReads_pos i)).2 few
          rw [BitReader.has_of_lt cut]
          exact decodeAudio_of_cut noHeader stored rfl sync d cut
      case garbage =>
        intro c
        rcases search : c.findFrameSync with ⟨found, d⟩
        refine ⟨fun lost => ?_, fun met few => ?_, fun met enough => ?_⟩
        · exact decodeAudio_of_lost noHeader stored rfl garbage (lost ▸ search)
        · have short := (d.avail_lt_iff (by decide)).2 few
          rw [BitReader.has_of_lt short]
          exact decodeAudio_of_met_short noHeader stored rfl garbage (met ▸ search) short
        · obtain ⟨i, rest, header, run⟩ :=
            decodeAudio_of_met noHeader stored rfl garbage (met ▸ search) (BitReader.le_avail_of_le enough)
          exact ⟨i, rest, header, (exec_adecode idle).trans run⟩

end Sys2Proof.Machine
end

section
/-! The exact sample of a code: the multiplier of a scalefactor index as a power of 2, and requantization
(R1008, R342). -/

namespace Sys2Proof.Machine

/-- Without a cosine the real number of a key is a power of `2 ^ (1 / 3)`. -/
theorem surdUnit_of_lt {t : Nat} (h : t < 3) : surdUnit t = (2 : ℝ) ^ ((t : ℝ) / 3) := by
  rw [surdUnit, Nat.div_eq_of_lt h, Nat.mod_eq_of_lt h]
  simp

theorem scaleFactor_snd_lt (i : Nat) : (scaleFactor i).2 < 3 := by
  unfold scaleFactor
  dsimp only
  split <;> norm_num

/-- The multiplier of scalefactor index `i` is `2 ^ (1 - i / 3)` (R342). -/
theorem scaleFactor_value (i : Nat) :
    ((scaleFactor i).1 : ℝ) * surdUnit (scaleFactor i).2 = (2 : ℝ) ^ (1 - (i : ℝ) / 3) := by
  have scale : ((1 / 2 ^ (i / 3) : Rat) : ℝ) = (2 : ℝ) ^ (-((i / 3 : Nat) : ℝ)) := by
    rw [Real.rpow_neg zero_le_two, Real.rpow_natCast]
    push_cast
    exact one_div _
  have parts : (i : ℝ) = 3 * ((i / 3 : Nat) : ℝ) + ((i % 3 : Nat) : ℝ) := by
    exact_mod_cast (Nat.div_add_mod i 3).symm
  rw [surdUnit_of_lt (scaleFactor_snd_lt i)]
  unfold scaleFactor
  dsimp only
  split
  case h_1 zero =>
    have exponent : (1 : ℝ) - (i : ℝ) / 3 = 1 + -((i / 3 : Nat) : ℝ) := by
      rw [parts, zero]
      push_cast
      ring
    rw [Rat.cast_mul, Rat.cast_ofNat, scale, exponent, Real.rpow_add two_pos, Real.rpow_one]
    simp
  case h_2 one =>
    rw [scale, parts, one, ← Real.rpow_add two_pos]
    congr 1
    push_cast
    ring
  case h_3 r notZero notOne =>
    change ¬ _ at notZero notOne
    have two : i % 3 = 2 := by omega
    rw [scale, parts, two, ← Real.rpow_add two_pos]
    congr 1
    push_cast
    ring

/-- The reserved index has the multiplier 0 (R1008). -/
theorem requantize_of_reserved (q : QuantClass) (code : Nat) : requantize q 63 code = [] := if_pos rfl

theorem requantize_of_ne {factor : BitVec 6} (h : factor ≠ 63) (q : QuantClass) (code : Nat) :
    requantize q factor code = addTerm (scaleFactor factor.toNat).2
      (((2 * code - ((q.levels : Int) - 1) : Int) : Rat) / (q.levels : Int) * (scaleFactor factor.toNat).1) [] :=
  if_neg h

/-- Settles O55: a code becomes one term, with the multiplier's exponent as its key. -/
theorem requantizedSampleIsExact : Obligations.RequantizedSampleIsExact := by
  intro q factor code
  by_cases reserved : factor = 63
  · subst reserved
    rw [requantize_of_reserved]
    exact ⟨surdBounded_nil, surdValue_nil⟩
  · rw [requantize_of_ne reserved, if_neg reserved]
    constructor
    · exact surdBounded_addTerm _ (by have := scaleFactor_snd_lt factor.toNat; omega) surdBounded_nil
    · rw [surdValue_addTerm, surdValue_nil, add_zero, Rat.cast_mul, mul_assoc, scaleFactor_value]
      push_cast
      rfl

end Sys2Proof.Machine
end

section
/-! Register files as lists: a run of entries overwritten, and the sample triple of a subband (R112). -/

namespace Sys2Proof.Machine

/-! ### Overwriting a run of entries -/

@[simp] theorem splice_nil {α : Type} (l : List α) (n : Nat) : splice l n [] = l := by cases l <;> cases n <;> rfl

@[simp] theorem splice_cons_zero {α : Type} (y x : α) (l xs : List α) :
    splice (y :: l) 0 (x :: xs) = x :: splice l 0 xs := rfl

@[simp] theorem splice_cons_succ {α : Type} (y : α) (l xs : List α) (n : Nat) :
    splice (y :: l) (n + 1) xs = y :: splice l n xs := by
  cases xs with
  | nil => rw [splice_nil, splice_nil]
  | cons x xs => rfl

theorem splice_getD_of_outside {α : Type} {l xs : List α} {n i : Nat} (outside : i < n ∨ n + xs.length ≤ i) (d : α) :
    (splice l n xs).getD i d = l.getD i d := by
  induction l generalizing n i xs with
  | nil => rfl
  | cons y l ih =>
    cases n with
    | zero =>
      cases xs with
      | nil => rw [splice_nil]
      | cons x xs =>
        rw [List.length_cons] at outside
        obtain ⟨i, rfl⟩ : ∃ j, i = j + 1 := ⟨i - 1, by omega⟩
        rw [splice_cons_zero, List.getD_cons_succ, List.getD_cons_succ, ih (by omega)]
    | succ n =>
      rw [splice_cons_succ]
      cases i with
      | zero => rfl
      | succ i => rw [List.getD_cons_succ, List.getD_cons_succ, ih (by omega)]

theorem splice_getD_of_inside {α : Type} {l xs : List α} {n k : Nat} (inside : k < xs.length)
    (room : n + k < l.length) (d : α) : (splice l n xs).getD (n + k) d = xs.getD k d := by
  induction l generalizing n k xs with
  | nil => simp at room
  | cons y l ih =>
    rw [List.length_cons] at room
    cases n with
    | zero =>
      obtain ⟨x, xs, rfl⟩ := List.exists_cons_of_length_pos (Nat.zero_lt_of_lt inside)
      cases k with
      | zero => rfl
      | succ k =>
        have tail := ih (n := 0) (Nat.lt_of_succ_lt_succ inside) (by omega)
        rw [Nat.zero_add] at tail ⊢
        rw [splice_cons_zero, List.getD_cons_succ, List.getD_cons_succ, tail]
    | succ n => rw [Nat.succ_add, splice_cons_succ, List.getD_cons_succ, ih inside (by omega)]

/-! ### The triple of a subband (R112) -/

/-- `t` is `u` with the samples of the subband at position `e` of the register file replaced by `x`, which is
padded with zeros. -/
def Audio.OnlyTriple (e : Nat) (x : List Surd) (t u : Audio) : Prop :=
  t = { u with sample := t.sample } ∧ t.sample.length = 192 ∧
    (∀ k < 3, t.sample.getD (3 * e + k) [] = x.getD k []) ∧
    ∀ n, (n < 3 * e ∨ 3 * e + 3 ≤ n) → t.sample.getD n [] = u.sample.getD n []

theorem Audio.OnlyTriple.length {e : Nat} {x : List Surd} {t u : Audio} (h : OnlyTriple e x t u) :
    t.sample.length = 192 := by
  obtain ⟨-, length, -⟩ := h
  exact length

theorem Audio.OnlyTriple.same {e k : Nat} {x : List Surd} {t u : Audio} (h : OnlyTriple e x t u) (small : k < 3) :
    t.sample.getD (3 * e + k) [] = x.getD k [] := by
  obtain ⟨-, -, triple, -⟩ := h
  exact triple k small

theorem Audio.OnlyTriple.other {e e' k : Nat} {x : List Surd} {t u : Audio} (h : OnlyTriple e x t u) (ne : e' ≠ e)
    (small : k < 3) : t.sample.getD (3 * e' + k) [] = u.sample.getD (3 * e' + k) [] := by
  obtain ⟨-, -, -, others⟩ := h
  exact others _ (by omega)

theorem zeroTriple_getD (k : Nat) : zeroTriple.getD k [] = [] := by
  rcases k with _ | _ | _ | k <;> rfl

theorem Audio.setTriple_onlyTriple {u : Audio} {ch sb : Nat} {x : List Surd} (channel : ch < 2) (band : sb < 32)
    (three : x.length = 3) (size : u.sample.length = 192) :
    OnlyTriple (32 * ch + sb) x (u.setTriple ch sb x) u := by
  have place : bandIndex ch sb = 32 * ch + sb := rfl
  refine ⟨rfl, (splice_length ..).trans size, fun k inside => ?_, fun n outside => ?_⟩
  · exact splice_getD_of_inside (by omega) (by omega) []
  · exact splice_getD_of_outside (by rw [three]; exact outside) []

theorem Audio.setTriple_zero_onlyTriple {u : Audio} {ch sb : Nat} (channel : ch < 2) (band : sb < 32)
    (size : u.sample.length = 192) : OnlyTriple (32 * ch + sb) [] (u.setTriple ch sb zeroTriple) u := by
  obtain ⟨only, length, triple, others⟩ := setTriple_onlyTriple (x := zeroTriple) channel band rfl size
  exact ⟨only, length, fun k inside => (triple k inside).trans (zeroTriple_getD k), others⟩

/-! ### What a triple can do (R1007-R1009) -/

/-- Reading of samples leads from `a` to `b`: only the reader, the samples and the error registers differ. -/
structure Audio.ReadsSamples (a b : Audio) : Prop where
  sample_length : b.sample.length = a.sample.length
  only : b = { a with br := b.br, sample := b.sample, aerr := b.aerr, aerrcnt := b.aerrcnt, raised := b.raised }

theorem Audio.ReadsSamples.refl (a : Audio) : a.ReadsSamples a := ⟨rfl, rfl⟩

theorem Audio.ReadsSamples.trans {a b c : Audio} (h : a.ReadsSamples b) (k : b.ReadsSamples c) : a.ReadsSamples c := by
  obtain ⟨length, only⟩ := h
  obtain ⟨length', only'⟩ := k
  exact ⟨length'.trans length, by rw [only', only]⟩

theorem Audio.ReadsSamples.scalefactor {a b : Audio} (h : a.ReadsSamples b) : b.scalefactor = a.scalefactor := by
  rw [h.only]

theorem Audio.ReadsSamples.channels {a b : Audio} (h : a.ReadsSamples b) : b.channels = a.channels := by
  rw [h.only]

theorem Audio.ReadsSamples.out {a b : Audio} (h : a.ReadsSamples b) : b.out = a.out := by rw [h.only]

theorem Audio.setTriple_readsSamples (ch sb : Nat) (xs : List Surd) (a : Audio) :
    a.ReadsSamples (a.setTriple ch sb xs) := ⟨splice_length .., rfl⟩

end Sys2Proof.Machine
end

section
/-! READ_TRIPLE and the shared triple (R1007-R1010): the codes, their causes, and the samples they become. -/

namespace Sys2Proof.Machine

/-! ### Codes (R1007) -/

/-- The grouped classes by their levels (R336). -/
theorem QuantClass.grouped_iff (q : QuantClass) : q.grouped = true ↔ q.levels = 3 ∨ q.levels = 5 ∨ q.levels = 9 := by
  cases q <;> decide

theorem Audio.readCodes_of_grouped {q : QuantClass} (h : q.grouped = true) (a : Audio) :
    let c := (a.br.read q.codeWidth).1
    a.readCodes q = ([c % q.levels, c / q.levels % q.levels, c / q.levels / q.levels],
      { (if q.levels ^ 3 ≤ c then a.raise .groupedCodeRange else a) with br := a.br.take q.codeWidth }) := by
  unfold Audio.readCodes
  dsimp only
  rw [if_pos h, BitReader.read_snd]
  split <;> rfl

theorem Audio.readCodes_of_direct {q : QuantClass} (h : q.grouped = false) (a : Audio) :
    let w := q.codeWidth
    a.readCodes q = ([(a.br.read w).1, ((a.br.take w).read w).1, (((a.br.take w).take w).read w).1],
      { a with br := ((a.br.take w).take w).take w }) := by
  unfold Audio.readCodes
  rw [h]
  rfl

/-- Both kinds of class in the terms of R1007: the codes, and the engine behind them. -/
theorem Audio.readCodes_eq (q : QuantClass) (a : Audio) :
    let w := q.codeWidth
    let c := (a.br.read w).1
    let grouped := q.levels = 3 ∨ q.levels = 5 ∨ q.levels = 9
    a.readCodes q = (
      if grouped then [c % q.levels, c / q.levels % q.levels, c / q.levels / q.levels]
      else [c, ((a.br.take w).read w).1, (((a.br.take w).take w).read w).1],
      { (if grouped ∧ q.levels ^ 3 ≤ c then a.raise .groupedCodeRange else a) with
        br := if grouped then a.br.take w else ((a.br.take w).take w).take w }) := by
  by_cases h : q.grouped = true
  · simp only [readCodes_of_grouped h, q.grouped_iff.1 h, if_true, true_and]
  · simp only [readCodes_of_direct (eq_false_of_ne_true h), (not_congr q.grouped_iff).1 h, if_false, false_and]

theorem Audio.readCodes_length (q : QuantClass) (a : Audio) : (a.readCodes q).1.length = 3 := by
  cases h : q.grouped with
  | true => rw [readCodes_of_grouped h]; rfl
  | false => rw [readCodes_of_direct h]; rfl

theorem Audio.readCodes_readsSamples (q : QuantClass) (a : Audio) : a.ReadsSamples (a.readCodes q).2 := by
  cases h : q.grouped with
  | true => rw [readCodes_of_grouped h]; dsimp only; split <;> exact ⟨rfl, rfl⟩
  | false => rw [readCodes_of_direct h]; exact ⟨rfl, rfl⟩

/-! ### Samples (R1008) -/

/-- The informational cause of the reserved scalefactor index (R1008, log entry 11). -/
def Audio.flagReserved (factor : BitVec 6) (a : Audio) : Audio :=
  if factor = 63 then a.raise .scalefactor63 else a

theorem Audio.flagReserved_readsSamples (factor : BitVec 6) (a : Audio) : a.ReadsSamples (a.flagReserved factor) := by
  unfold Audio.flagReserved
  split <;> exact ⟨rfl, rfl⟩

theorem Audio.requantizeTriple_eq (q : QuantClass) (codes : List Nat) (ch sb part : Nat) (a : Audio) :
    let factor := a.scalefactor.getD (3 * (32 * ch + sb) + part) 0
    a.requantizeTriple q codes ch sb part =
      (a.flagReserved factor).setTriple ch sb (codes.map (requantize q factor)) := rfl

theorem Audio.requantizeTriple_onlyTriple {a : Audio} {codes : List Nat} {ch sb : Nat} (q : QuantClass) (part : Nat)
    (channel : ch < 2) (band : sb < 32) (three : codes.length = 3) (size : a.sample.length = 192) :
    let factor := a.scalefactor.getD (3 * (32 * ch + sb) + part) 0
    OnlyTriple (32 * ch + sb) (codes.map (requantize q factor)) (a.requantizeTriple q codes ch sb part)
      (a.flagReserved factor) := by
  rw [requantizeTriple_eq]
  exact setTriple_onlyTriple channel band ((List.length_map _).trans three)
    ((flagReserved_readsSamples _ a).sample_length.trans size)

theorem Audio.requantizeTriple_readsSamples (q : QuantClass) (codes : List Nat) (ch sb part : Nat) (a : Audio) :
    a.ReadsSamples (a.requantizeTriple q codes ch sb part) := by
  rw [requantizeTriple_eq]
  exact (flagReserved_readsSamples _ a).trans (setTriple_readsSamples ..)

/-! ### READ_TRIPLE (R1007, R1008, R1010) -/

theorem Audio.readTriple_of_none {a : Audio} {ch sb : Nat} (h : a.allocation.getD (32 * ch + sb) none = none)
    (part : Nat) : a.readTriple part ch sb = a.setTriple ch sb zeroTriple := by
  unfold Audio.readTriple Audio.allocationOf bandIndex
  rw [h]

theorem Audio.readTriple_of_some {a : Audio} {ch sb : Nat} {q : QuantClass}
    (h : a.allocation.getD (32 * ch + sb) none = some q) (part : Nat) :
    a.readTriple part ch sb = (a.readCodes q).2.requantizeTriple q (a.readCodes q).1 ch sb part := by
  unfold Audio.readTriple Audio.allocationOf bandIndex
  rw [h]

theorem Audio.readTriple_onlyTriple {a : Audio} {ch sb : Nat} {q : QuantClass} (part : Nat) (channel : ch < 2)
    (band : sb < 32) (size : a.sample.length = 192) (h : a.allocation.getD (32 * ch + sb) none = some q) :
    let factor := a.scalefactor.getD (3 * (32 * ch + sb) + part) 0
    OnlyTriple (32 * ch + sb) ((a.readCodes q).1.map (requantize q factor)) (a.readTriple part ch sb)
      ((a.readCodes q).2.flagReserved factor) := by
  have reads := a.readCodes_readsSamples q
  rw [readTriple_of_some h, ← reads.scalefactor]
  exact requantizeTriple_onlyTriple q part channel band (a.readCodes_length q) (reads.sample_length.trans size)

theorem Audio.readTriple_readsSamples (part ch sb : Nat) (a : Audio) : a.ReadsSamples (a.readTriple part ch sb) := by
  cases h : a.allocation.getD (32 * ch + sb) none with
  | none =>
    rw [readTriple_of_none h]
    exact setTriple_readsSamples ..
  | some q =>
    rw [readTriple_of_some h]
    exact (a.readCodes_readsSamples q).trans (requantizeTriple_readsSamples ..)

/-! ### The shared triple (R1009, R1011) -/

section
variable {a : Audio} {sb : Nat}

theorem Audio.readSharedTriple_of_none (h : a.allocation.getD sb none = none) (part : Nat) :
    a.readSharedTriple part sb = (a.readTriple part 0 sb).setTriple 1 sb zeroTriple := by
  rw [← Nat.zero_add sb] at h
  rw [readTriple_of_none h]
  unfold Audio.readSharedTriple Audio.allocationOf bandIndex
  rw [h]

variable {q : QuantClass} (h : a.allocation.getD (32 * 0 + sb) none = some q) (part : Nat)
include h

theorem Audio.readSharedTriple_of_mono (mono : a.channels = 1) :
    a.readSharedTriple part sb = a.readTriple part 0 sb := by
  have channels := (a.readTriple_readsSamples part 0 sb).channels.trans mono
  rw [readTriple_of_some h] at channels ⊢
  unfold Audio.readSharedTriple Audio.allocationOf bandIndex
  rw [h]
  dsimp only
  rw [if_pos channels]

variable (stereo : a.channels ≠ 1)
include stereo

theorem Audio.readSharedTriple_of_iso (mode : Config.jsShareMode = .isoPerChannel) :
    a.readSharedTriple part sb = (a.readTriple part 0 sb).requantizeTriple q (a.readCodes q).1 1 sb part := by
  have channels := (a.readTriple_readsSamples part 0 sb).channels.trans_ne stereo
  rw [readTriple_of_some h] at channels ⊢
  unfold Audio.readSharedTriple Audio.allocationOf bandIndex
  rw [h]
  dsimp only
  rw [if_neg channels]
  simp only [mode]

theorem Audio.readSharedTriple_of_copy (mode : Config.jsShareMode = .copyCh0) :
    a.readSharedTriple part sb =
      (a.readTriple part 0 sb).setTriple 1 sb ((a.readTriple part 0 sb).triple 0 sb) := by
  have channels := (a.readTriple_readsSamples part 0 sb).channels.trans_ne stereo
  rw [readTriple_of_some h] at channels ⊢
  unfold Audio.readSharedTriple Audio.allocationOf bandIndex
  rw [h]
  dsimp only
  rw [if_neg channels]
  simp only [mode]

end

theorem Audio.readSharedTriple_readsSamples (part : Nat) (a : Audio) (sb : Nat) :
    a.ReadsSamples (a.readSharedTriple part sb) := by
  have own := a.readTriple_readsSamples part 0 sb
  cases h : a.allocation.getD (32 * 0 + sb) none with
  | none =>
    rw [readSharedTriple_of_none (by simpa using h)]
    exact own.trans (setTriple_readsSamples ..)
  | some q =>
    by_cases mono : a.channels = 1
    · rw [readSharedTriple_of_mono h part mono]
      exact own
    · cases mode : Config.jsShareMode with
      | isoPerChannel =>
        rw [readSharedTriple_of_iso h part mono mode]
        exact own.trans (requantizeTriple_readsSamples ..)
      | copyCh0 =>
        rw [readSharedTriple_of_copy h part mono mode]
        exact own.trans (setTriple_readsSamples ..)

/-- The samples of a triple are those it was given. -/
theorem Audio.triple_of_onlyTriple {sb : Nat} {x : List Surd} {t u : Audio} (three : x.length = 3)
    (h : OnlyTriple (32 * 0 + sb) x t u) : t.triple 0 sb = x := by
  refine List.ext_getElem (by simp [Audio.triple, three]) fun k inside _ => ?_
  have small : k < 3 := by simpa [Audio.triple] using inside
  rw [← List.getD_eq_getElem x [] (by omega), ← h.same small]
  simp [Audio.triple, bandIndex]

/-- Settles O53, by the allocation of the subband and by JS_SHARE_MODE. -/
theorem sampleTriples : Obligations.SampleTriples := by
  intro a part sb _ band size only index flagged shared
  refine ⟨fun ch channel h => ?none, fun h => ?sharedNone, fun ch channel q h => ?some⟩
  case none =>
    rw [Audio.readTriple_of_none h]
    exact Audio.setTriple_zero_onlyTriple channel band size
  case sharedNone =>
    have first : (a.readTriple part 0 sb).sample.length = 192 := by
      rw [Audio.readTriple_of_none (by rwa [Nat.mul_zero, Nat.zero_add]), Audio.setTriple_sample, splice_length, size]
    have triple := Audio.setTriple_zero_onlyTriple (ch := 1) (by decide) band first
    rwa [← Audio.readSharedTriple_of_none h] at triple
  case some =>
    intro w c grouped codes read t
    have codesRead : a.readCodes q = (codes, read) := a.readCodes_eq q
    have own := Audio.readTriple_onlyTriple part channel band size h
    rw [codesRead] at own
    refine ⟨own, fun zero => ?_⟩
    subst zero
    have three : codes.length = 3 := (congrArg (·.1.length) codesRead).symm.trans (a.readCodes_length q)
    refine ⟨fun mono => Audio.readSharedTriple_of_mono h part mono, fun stereo => ?_⟩
    cases mode : Config.jsShareMode with
    | isoPerChannel =>
      have second := Audio.requantizeTriple_onlyTriple q part (ch := 1) (by decide) band three own.length
      rw [(a.readTriple_readsSamples part 0 sb).scalefactor] at second
      simp only [shared, Audio.readSharedTriple_of_iso h part stereo mode, codesRead]
      exact second
    | copyCh0 =>
      have copied := Audio.triple_of_onlyTriple ((List.length_map _).trans three) own
      simp only [shared, Audio.readSharedTriple_of_copy h part stereo mode, copied]
      show Audio.OnlyTriple (32 * 1 + sb) _ _ _
      exact Audio.setTriple_onlyTriple (by decide) band ((List.length_map _).trans three) own.length

end Sys2Proof.Machine
end

section
/-! One granule: its triples, its samples, and where its outputs stand (R1006, R1010, R1011, R1103). -/

namespace Sys2Proof.Machine

/-! ### Walks over subbands and channels -/

theorem numbersFrom_zero (n : Nat) : numbersFrom 0 n = List.range n := List.range_eq_range'.symm

/-- The subbands below `limit` with their channels, in the order of the stream (R1003-R1006). -/
def bandPairs (channels limit : Nat) : List (Nat × Nat) :=
  (List.range limit).flatMap fun sb => (List.range channels).map fun ch => (ch, sb)

theorem Audio.forBands_eq_foldl (limit : Nat) (f : Nat → Nat → Audio → Audio) (a : Audio) :
    a.forBands (numbersFrom 0 limit) f = (bandPairs a.channels.toNat limit).foldl (fun a e => f e.1 e.2 a) a := by
  simp only [bandPairs, List.foldl_flatMap, List.foldl_map, Audio.forBands, numbersFrom_zero, Audio.channelCount]

/-! ### Samples of 0, and mono (R1010, R1011) -/

/-- `b` is `a` with other samples. -/
def Audio.SamplesOnly (a b : Audio) : Prop := b = { a with sample := b.sample }

theorem Audio.SamplesOnly.trans {a b c : Audio} (h : a.SamplesOnly b) (k : b.SamplesOnly c) : a.SamplesOnly c := by
  unfold Audio.SamplesOnly at *
  rw [k, h]

/-- Both channels of a subband from the limit on (R1010). -/
def Audio.zeroBand (a : Audio) (sb : Nat) : Audio := (a.setTriple 0 sb zeroTriple).setTriple 1 sb zeroTriple

section
variable {a : Audio} {ch sb k : Nat} (channel : ch < 2) (band : sb < 32) (small : k < 3)
include channel band small

theorem Audio.zeroBand_sample {x : Nat} (inside : x < 32) (size : a.sample.length = 192) :
    (a.zeroBand x).sample.getD (3 * (32 * ch + sb) + k) [] =
      if sb = x then [] else a.sample.getD (3 * (32 * ch + sb) + k) [] := by
  have first := setTriple_zero_onlyTriple (ch := 0) (by decide) inside size
  have second := setTriple_zero_onlyTriple (ch := 1) (by decide) inside first.length
  by_cases same : sb = x
  · subst same
    rw [if_pos rfl]
    obtain rfl | rfl : ch = 0 ∨ ch = 1 := by omega
    · exact (second.other (by omega) small).trans (first.same small)
    · exact second.same small
  · rw [if_neg same]
    exact (second.other (by omega) small).trans (first.other (by omega) small)

theorem Audio.foldl_zeroBand_sample {bands : List Nat} (inside : ∀ x ∈ bands, x < 32) (size : a.sample.length = 192) :
    (bands.foldl zeroBand a).sample.getD (3 * (32 * ch + sb) + k) [] =
      if sb ∈ bands then [] else a.sample.getD (3 * (32 * ch + sb) + k) [] := by
  induction bands generalizing a with
  | nil => simp
  | cons x bands ih =>
    obtain ⟨first, rest⟩ := List.forall_mem_cons.1 inside
    have step : (a.zeroBand x).sample.length = 192 := by simp [Audio.zeroBand, size]
    rw [List.foldl_cons, ih rest step, zeroBand_sample channel band small first size]
    by_cases later : sb ∈ bands <;> by_cases now : sb = x <;> simp [later, now]

end

theorem Audio.foldl_zeroBand_keeps (bands : List Nat) (a : Audio) :
    a.SamplesOnly (bands.foldl zeroBand a) ∧ (bands.foldl zeroBand a).sample.length = a.sample.length :=
  List.foldlRecOn (motive := fun b => a.SamplesOnly b ∧ b.sample.length = a.sample.length) bands _ ⟨rfl, rfl⟩
    fun b ⟨only, length⟩ sb _ => ⟨only.trans rfl, by simp [Audio.zeroBand, length]⟩

theorem Audio.duplicateMono_keeps (a : Audio) :
    a.SamplesOnly a.duplicateMono ∧ a.duplicateMono.sample.length = a.sample.length := by
  unfold Audio.duplicateMono
  split
  · exact ⟨rfl, splice_length ..⟩
  · exact ⟨rfl, rfl⟩

/-- In mono both channels have channel 0's samples (R1011). -/
theorem Audio.duplicateMono_sample {a : Audio} {ch n : Nat} (channel : ch < 2) (inside : n < 96)
    (size : a.sample.length = 192) :
    a.duplicateMono.sample.getD (96 * ch + n) [] = a.sample.getD (if a.channels = 1 then n else 96 * ch + n) [] := by
  have half : (a.sample.take 96).length = 96 := by rw [List.length_take, size]; rfl
  unfold Audio.duplicateMono
  split
  · obtain rfl | rfl : ch = 0 ∨ ch = 1 := by omega
    · rw [Nat.mul_zero, Nat.zero_add]
      exact splice_getD_of_outside (.inl inside) []
    · refine (splice_getD_of_inside (by omega) (by omega) []).trans ?_
      simp [List.getD_eq_getElem?_getD, inside]
  · rfl

/-! ### Synthesis steps (R1101-R1103) -/

/-- The outputs of a step: 32 of each channel, and no other output (R1103). -/
theorem Audio.synthesisStep_out {a : Audio} {part granule k ch : Nat} (parts : part < 3) (granules : granule < 4)
    (small : k < 3) (channel : ch < 2) (size : a.out.length = 2304) :
    let at_ := 96 * (4 * part + granule) + 32 * k
    (∀ j < 32, (a.synthesisStep part granule k).out.getD (1152 * ch + at_ + j) [] = (a.matrixing k).windowSample ch j) ∧
    ∀ n < 1152, (n < at_ ∨ at_ + 32 ≤ n) →
      (a.synthesisStep part granule k).out.getD (1152 * ch + n) [] = a.out.getD (1152 * ch + n) [] := by
  intro at_
  have room : at_ + 32 ≤ 1152 := by omega
  let b := a.matrixing k
  have width (c : Nat) : (b.windowOutput c).length = 32 := by simp [Audio.windowOutput]
  have output (c : Nat) {j : Nat} (h : j < 32) : (b.windowOutput c).getD j [] = b.windowSample c j := by
    simp [Audio.windowOutput, List.getD_eq_getElem?_getD, h]
  have first : (splice b.out at_ (b.windowOutput 0)).length = 2304 := (splice_length ..).trans size
  have out : (a.synthesisStep part granule k).out =
    splice (splice b.out at_ (b.windowOutput 0)) (1152 + at_) (b.windowOutput 1) := rfl
  rw [out]
  obtain rfl | rfl : ch = 0 ∨ ch = 1 := by omega
  · refine ⟨fun j inside => ?_, fun n inside outside => ?_⟩
    · rw [splice_getD_of_outside (by omega), Nat.mul_zero, Nat.zero_add,
        splice_getD_of_inside (by rw [width]; exact inside) (by show _ < a.out.length; omega), output 0 inside]
    · rw [splice_getD_of_outside (by omega), splice_getD_of_outside (by rw [width]; omega)]
      rfl
  · refine ⟨fun j inside => ?_, fun n inside outside => ?_⟩
    · rw [Nat.mul_one, splice_getD_of_inside (by rw [width]; exact inside) (by omega), output 1 inside]
    · rw [splice_getD_of_outside (by rw [width]; omega), splice_getD_of_outside (by rw [width]; omega)]
      rfl

/-- The first `n` steps without the outputs: shifts and matrixing. -/
def Audio.shifted (a : Audio) (n : Nat) : Audio := (List.range n).foldl (fun a k => a.matrixing k) a

theorem Audio.shifted_succ (a : Audio) (n : Nat) : a.shifted (n + 1) = (a.shifted n).matrixing n := by
  simp [Audio.shifted, List.range_succ]

/-- The first `n` steps of a granule. -/
def Audio.synthesized (part granule : Nat) (a : Audio) (n : Nat) : Audio :=
  (List.range n).foldl (synthesisStep part granule) a

theorem Audio.synthesized_succ (part granule : Nat) (a : Audio) (n : Nat) :
    a.synthesized part granule (n + 1) = (a.synthesized part granule n).synthesisStep part granule n := by
  simp [Audio.synthesized, List.range_succ]

/-- A step does not look at the outputs. -/
theorem Audio.synthesized_only (part granule : Nat) (a : Audio) (n : Nat) :
    a.synthesized part granule n = { a.shifted n with out := (a.synthesized part granule n).out } := by
  induction n with
  | zero => rfl
  | succ n ih =>
    rw [synthesized_succ, shifted_succ]
    generalize a.synthesized part granule n = t at ih ⊢
    rw [ih]
    rfl

theorem Audio.synthesized_sample (part granule : Nat) (a : Audio) (n : Nat) :
    (a.synthesized part granule n).sample = a.sample :=
  List.foldlRecOn (motive := fun b : Audio => b.sample = a.sample) _ _ rfl fun _ same _ _ => same

theorem Audio.synthesized_out_length (part granule : Nat) (a : Audio) (n : Nat) :
    (a.synthesized part granule n).out.length = a.out.length :=
  List.foldlRecOn (motive := fun b : Audio => b.out.length = a.out.length) _ _ rfl
    fun b length k _ => by simp [Audio.synthesisStep, length]

section
variable {a : Audio} {part granule ch n : Nat} (parts : part < 3) (granules : granule < 4)
  (channel : ch < 2) (size : a.out.length = 2304) (steps : n ≤ 3)
include parts granules channel size steps

/-- The outputs of the first `n` steps (R1103). -/
theorem Audio.synthesized_out_of_inside {k j : Nat} (done : k < n) (inside : j < 32) :
    (a.synthesized part granule n).out.getD (1152 * ch + 96 * (4 * part + granule) + 32 * k + j) [] =
      (a.shifted (k + 1)).windowSample ch j := by
  induction n with
  | zero => omega
  | succ n ih =>
    rw [synthesized_succ]
    obtain ⟨written, kept⟩ := synthesisStep_out (k := n) parts granules (by omega) channel
      ((a.synthesized_out_length part granule n).trans size)
    by_cases last : k = n
    · subst last
      rw [Nat.add_assoc (1152 * ch), written j inside, synthesized_only, shifted_succ]
      rfl
    · rw [Nat.add_assoc (1152 * ch), Nat.add_assoc (1152 * ch), kept _ (by omega) (by omega), ← Nat.add_assoc,
        ← Nat.add_assoc, ih (by omega) (by omega)]

theorem Audio.synthesized_out_of_outside {i : Nat} (inside : i < 1152)
    (outside : i < 96 * (4 * part + granule) ∨ 96 * (4 * part + granule) + 96 ≤ i) :
    (a.synthesized part granule n).out.getD (1152 * ch + i) [] = a.out.getD (1152 * ch + i) [] := by
  induction n with
  | zero => rfl
  | succ n ih =>
    rw [synthesized_succ]
    obtain ⟨-, kept⟩ := synthesisStep_out (k := n) parts granules (by omega) channel
      ((a.synthesized_out_length part granule n).trans size)
    rw [kept i inside (by omega), ih (by omega)]

end

/-! ### A granule (R1006) -/

/-- The triples of a granule: subband by subband below the bound, shared from it on. -/
def Audio.triplesRead (part : Nat) (a : Audio) : Audio :=
  (numbersFrom a.effectiveBound a.table.sblimit).foldl (readSharedTriple part)
    (a.forBands (numbersFrom 0 a.effectiveBound) (readTriple part))

/-- The samples of a granule: zeros from the limit on, and in mono channel 0's samples in channel 1. -/
def Audio.granuleSamples (part : Nat) (a : Audio) : Audio :=
  ((numbersFrom a.table.sblimit 32).foldl zeroBand (a.triplesRead part)).duplicateMono

theorem Audio.decodeGranule_eq (part granule : Nat) (a : Audio) :
    a.decodeGranule part granule = (a.granuleSamples part).synthesized part granule 3 := rfl

theorem Audio.triplesRead_readsSamples (part : Nat) (a : Audio) : a.ReadsSamples (a.triplesRead part) := by
  have separate : a.ReadsSamples (a.forBands (numbersFrom 0 a.effectiveBound) (readTriple part)) := by
    rw [forBands_eq_foldl]
    exact List.foldlRecOn _ _ (.refl a) fun _ reads e _ => reads.trans (readTriple_readsSamples ..)
  exact List.foldlRecOn _ _ separate fun _ reads sb _ => reads.trans (readSharedTriple_readsSamples ..)

theorem Audio.granuleSamples_only (part : Nat) (a : Audio) : (a.triplesRead part).SamplesOnly (a.granuleSamples part) :=
  (foldl_zeroBand_keeps _ _).1.trans (duplicateMono_keeps _).1

theorem Audio.granuleSamples_out (part : Nat) (a : Audio) : (a.granuleSamples part).out = a.out := by
  rw [a.granuleSamples_only part]
  exact (a.triplesRead_readsSamples part).out

theorem Audio.granuleSamples_length (part : Nat) (a : Audio) :
    (a.granuleSamples part).sample.length = a.sample.length :=
  ((duplicateMono_keeps _).2.trans (foldl_zeroBand_keeps _ _).2).trans (a.triplesRead_readsSamples part).sample_length

theorem Audio.granuleSamples_sample {a : Audio} {ch sb k : Nat} (part : Nat) (channel : ch < 2) (band : sb < 32)
    (small : k < 3) (size : a.sample.length = 192) :
    (a.granuleSamples part).sample.getD (3 * (32 * ch + sb) + k) [] =
      if a.table.sblimit ≤ sb then []
      else if a.channels = 1 then (a.triplesRead part).sample.getD (3 * sb + k) []
      else (a.triplesRead part).sample.getD (3 * (32 * ch + sb) + k) [] := by
  have reads := a.triplesRead_readsSamples part
  let zeroed := (numbersFrom a.table.sblimit 32).foldl zeroBand (a.triplesRead part)
  obtain ⟨only, length⟩ : (a.triplesRead part).SamplesOnly zeroed ∧ _ := foldl_zeroBand_keeps ..
  have channels : zeroed.channels = a.channels := by rw [only]; exact reads.channels
  have zeros {c : Nat} (h : c < 2) : zeroed.sample.getD (3 * (32 * c + sb) + k) [] =
      if a.table.sblimit ≤ sb then [] else (a.triplesRead part).sample.getD (3 * (32 * c + sb) + k) [] := by
    have beyond : sb ∈ numbersFrom a.table.sblimit 32 ↔ a.table.sblimit ≤ sb := by
      rw [numbersFrom, List.mem_range'_1]
      omega
    simp only [zeroed, ← beyond]
    exact foldl_zeroBand_sample h band small
      (fun x member => by rw [numbersFrom, List.mem_range'_1] at member; omega) (reads.sample_length.trans size)
  have place (c : Nat) : 3 * (32 * c + sb) + k = 96 * c + (3 * sb + k) := by ring
  rw [place, Audio.granuleSamples, duplicateMono_sample channel (by omega)
    (length.trans (reads.sample_length.trans size)), channels]
  by_cases mono : a.channels = 1
  · have own := zeros (c := 0) (by decide)
    rw [Nat.mul_zero, Nat.zero_add] at own
    rw [if_pos mono, if_pos mono, own]
  · rw [if_neg mono, if_neg mono, ← place, zeros channel]

/-- Settles O54: the samples before the synthesis, then the outputs of its three steps. -/
theorem granuleRule : Obligations.GranuleRule := by
  intro a part granule parts granules _ samples _ outputs limit bound separate s s' t start shifted
  have read : s' = a.triplesRead part := by
    simp only [s', s, separate, bound, Audio.triplesRead, Audio.forBands_eq_foldl]
    rfl
  have run : t = (a.granuleSamples part).synthesized part granule 3 := a.decodeGranule_eq part granule
  have sample : t.sample = (a.granuleSamples part).sample := Audio.synthesized_sample part granule _ 3
  have begins : start = a.granuleSamples part := by
    have only : a.granuleSamples part = { a.triplesRead part with sample := (a.granuleSamples part).sample } :=
      a.granuleSamples_only part
    rw [only, ← read, ← sample]
  have size : (a.granuleSamples part).out.length = 2304 := by rw [a.granuleSamples_out part, outputs]
  refine ⟨fun ch channel sb band k small => ?samples, fun ch channel k small j inside => ?outputs,
    fun ch channel n inside outside => ?others, ?length, ?sampleLength, ?only⟩
  case samples =>
    rw [sample, read]
    exact Audio.granuleSamples_sample part channel band small samples
  case outputs =>
    simp only [shifted, begins]
    rw [run, Audio.synthesized_out_of_inside parts granules channel size (le_refl 3) small inside]
    rfl
  case others =>
    rw [run, Audio.synthesized_out_of_outside parts granules channel size (le_refl 3) inside outside,
      a.granuleSamples_out part]
  case length => rw [run, Audio.synthesized_out_length, size]
  case sampleLength => rw [sample, a.granuleSamples_length part, samples]
  case only =>
    simp only [shifted, begins]
    rw [run]
    exact Audio.synthesized_only part granule _ 3

end Sys2Proof.Machine
end

section
/-! Rows of steps that each read fields and write one entry: what stands at an entry, and where the reader stands. -/

namespace Sys2Proof.Machine

/-! ### What a row of steps leaves (R1003-R1005) -/

section
variable {α β γ : Type} {f : β → α → β}

/-- What no step changes, the row does not change. -/
theorem foldl_kept {seen : β → γ} {l : List α} (keeps : ∀ b, ∀ x ∈ l, seen (f b x) = seen b) (b : β) :
    seen (l.foldl f b) = seen b :=
  List.foldlRecOn (motive := fun c => seen c = seen b) l f rfl fun c same x member => (keeps c x member).trans same

/-- What no later step changes is as step `n` has left it. -/
theorem foldl_seen_at {seen : β → γ} {l : List α} {n : Nat} {x : α} (stands : l[n]? = some x) (distinct : l.Nodup)
    (keeps : ∀ b, ∀ y ∈ l, y ≠ x → seen (f b y) = seen b) (b : β) :
    seen (l.foldl f b) = seen (f ((l.take n).foldl f b) x) := by
  obtain ⟨inside, rfl⟩ := List.getElem?_eq_some_iff.1 stands
  have parts : l = l.take n ++ l[n] :: l.drop (n + 1) := by simp
  have later : l[n] ∉ l.drop (n + 1) := by
    rw [parts] at distinct
    exact (List.nodup_cons.1 distinct.of_append_right).1
  conv_lhs => rw [parts, List.foldl_append, List.foldl_cons]
  exact foldl_kept (fun b y member => keeps b y (List.mem_of_mem_drop member) fun same => later (same ▸ member)) _

/-- Steps that do nothing can be left out. -/
theorem foldl_eq_foldl_filter {P : β → Prop} {p : α → Bool} (keeps : ∀ b x, P b → P (f b x))
    (idle : ∀ b x, P b → p x = false → f b x = b) (l : List α) {b : β} (start : P b) :
    l.foldl f b = (l.filter p).foldl f b := by
  induction l generalizing b with
  | nil => rfl
  | cons x l ih =>
    cases h : p x with
    | true => rw [List.filter_cons_of_pos h, List.foldl_cons, List.foldl_cons, ih (keeps b x start)]
    | false => rw [List.filter_cons_of_neg (by simp [h]), List.foldl_cons, idle b x start h, ih start]

end

/-- Each step reads its fields, so the row reads the fields of all its steps. -/
theorem foldl_takeFields {α : Type} {f : Audio → α → Audio} {P : Audio → Prop} {fields : α → List Nat} {l : List α}
    (keeps : ∀ b x, P b → P (f b x)) (reads : ∀ b, ∀ x ∈ l, P b → (f b x).br = b.br.takeFields (fields x))
    {b : Audio} (start : P b) : (l.foldl f b).br = b.br.takeFields (l.flatMap fields) := by
  induction l generalizing b with
  | nil => rfl
  | cons x l ih =>
    obtain ⟨first, rest⟩ : _ ∧ ∀ b, ∀ y ∈ l, P b → (f b y).br = b.br.takeFields (fields y) :=
      ⟨reads b x List.mem_cons_self, fun b y member => reads b y (List.mem_cons_of_mem x member)⟩
    rw [List.foldl_cons, ih rest (keeps b x start), first start, List.flatMap_cons, BitReader.takeFields_append]

theorem flatMap_replicate {α : Type} (count : α → Nat) (width : Nat) (l : List α) :
    (l.flatMap fun x => List.replicate (count x) width) = List.replicate (l.map count).sum width := by
  induction l with
  | nil => rfl
  | cons x l ih => rw [List.flatMap_cons, ih, List.map_cons, List.sum_cons, List.replicate_append_replicate]

/-! ### Subbands with their channels -/

theorem mem_bandPairs {channels limit ch sb : Nat} :
    (ch, sb) ∈ bandPairs channels limit ↔ ch < channels ∧ sb < limit := by
  simp only [bandPairs, List.mem_flatMap, List.mem_map, List.mem_range, Prod.mk.injEq]
  constructor
  · rintro ⟨_, band, _, channel, rfl, rfl⟩
    exact ⟨channel, band⟩
  · exact fun ⟨channel, band⟩ => ⟨sb, band, ch, channel, rfl, rfl⟩

theorem bandPairs_nodup (channels limit : Nat) : (bandPairs channels limit).Nodup := by
  have swapped : bandPairs channels limit = (List.range limit ×ˢ List.range channels).map Prod.swap := by
    simp [bandPairs, SProd.sprod, List.product, List.map_flatMap, Function.comp_def]
  rw [swapped]
  exact (List.nodup_range.product List.nodup_range).map Prod.swap_injective

theorem bandPairs_length (channels limit : Nat) : (bandPairs channels limit).length = channels * limit := by
  simp [bandPairs, List.length_flatMap, Nat.mul_comm]

theorem bandPairs_getElem? {channels limit ch sb : Nat} (channel : ch < channels) (band : sb < limit) :
    (bandPairs channels limit)[channels * sb + ch]? = some (ch, sb) := by
  have entry := getD_flatMap_range (fun sb => (List.range channels).map fun ch => (ch, sb))
    (fun _ _ => by simp) band channel (0, 0)
  have inside : channels * sb + ch < (bandPairs channels limit).length := by
    rw [bandPairs_length]
    exact (Nat.add_lt_add_left channel _).trans_le (Nat.mul_le_mul_left channels band)
  rw [List.getElem?_eq_getElem inside, ← List.getD_eq_getElem _ (0, 0) inside]
  exact congrArg some (entry.trans (by simp [List.getD_eq_getElem?_getD, channel]))

end Sys2Proof.Machine
end

section
/-! The allocations of a frame (R1001-R1003): what each field writes, and what all of them leave. -/

namespace Sys2Proof.Machine

/-! ### One field -/

/-- Allocations are read from `a` to `b`: only the reader and the allocations differ. -/
structure Audio.AllocationOnly (a b : Audio) : Prop where
  length : b.allocation.length = a.allocation.length
  only : b = { a with br := b.br, allocation := b.allocation }

theorem Audio.AllocationOnly.refl (a : Audio) : a.AllocationOnly a := ⟨rfl, rfl⟩

theorem Audio.AllocationOnly.trans {a b c : Audio} (h : a.AllocationOnly b) (k : b.AllocationOnly c) :
    a.AllocationOnly c := by
  obtain ⟨length, only⟩ := h
  obtain ⟨length', only'⟩ := k
  exact ⟨length'.trans length, by rw [only', only]⟩

theorem Audio.AllocationOnly.table {a b : Audio} (h : a.AllocationOnly b) : b.table = a.table := by
  rw [h.only]
  rfl

theorem Audio.AllocationOnly.channels {a b : Audio} (h : a.AllocationOnly b) : b.channels = a.channels := by rw [h.only]

/-- A class written for the given channels of a subband. -/
def Audio.setAllocations (channels : List Nat) (sb : Nat) (x : Option QuantClass) (a : Audio) : Audio :=
  channels.foldl (setAllocation x sb) a

theorem Audio.readAllocation_eq (channels : List Nat) (sb : Nat) (a : Audio) : a.readAllocation channels sb =
    setAllocations channels sb (a.table.quantClass sb (a.br.read (a.table.nbal sb)).1)
      { a with br := a.br.take (a.table.nbal sb) } := rfl

theorem Audio.setAllocations_only (channels : List Nat) (sb : Nat) (x : Option QuantClass) (a : Audio) :
    a.AllocationOnly (a.setAllocations channels sb x) ∧ (a.setAllocations channels sb x).br = a.br :=
  List.foldlRecOn (motive := fun b : Audio => a.AllocationOnly b ∧ b.br = a.br) channels _ ⟨.refl a, rfl⟩
    fun _ ⟨only, reader⟩ _ _ => ⟨only.trans ⟨List.length_set .., rfl⟩, reader⟩

theorem Audio.readAllocation_only (channels : List Nat) (sb : Nat) (a : Audio) :
    a.AllocationOnly (a.readAllocation channels sb) :=
  .trans (b := { a with br := a.br.take (a.table.nbal sb) }) ⟨rfl, rfl⟩ (setAllocations_only ..).1

theorem Audio.readAllocation_br (channels : List Nat) (sb : Nat) (a : Audio) :
    (a.readAllocation channels sb).br = a.br.take (a.table.nbal sb) := (setAllocations_only ..).2

section
variable {ch sb sb' : Nat} {channels : List Nat} (band : sb < 32)
include band

theorem Audio.setAllocation_getD_of_ne {ch' : Nat} (inside : sb' < 32) (other : ch = ch' → sb ≠ sb')
    (x : Option QuantClass) (a : Audio) :
    (setAllocation x sb' a ch').allocation.getD (32 * ch + sb) none = a.allocation.getD (32 * ch + sb) none := by
  have place : bandIndex ch' sb' ≠ 32 * ch + sb := by unfold bandIndex; omega
  rw [setAllocation_allocation, List.getD_eq_getElem?_getD, List.getElem?_set_ne place, ← List.getD_eq_getElem?_getD]

/-- Another subband or channel keeps its class. -/
theorem Audio.setAllocations_getD_of_ne (inside : sb' < 32) (other : ch ∈ channels → sb ≠ sb')
    (x : Option QuantClass) (a : Audio) :
    (a.setAllocations channels sb' x).allocation.getD (32 * ch + sb) none = a.allocation.getD (32 * ch + sb) none :=
  foldl_kept (seen := fun b : Audio => b.allocation.getD (32 * ch + sb) none)
    (fun b c member => setAllocation_getD_of_ne band inside (fun same : ch = c => other (same ▸ member)) x b) a

theorem Audio.setAllocations_getD (channel : ch < 2) (written : ch ∈ channels) (x : Option QuantClass) {a : Audio}
    (size : a.allocation.length = 64) :
    (a.setAllocations channels sb x).allocation.getD (32 * ch + sb) none = x := by
  induction channels generalizing a with
  | nil => simp at written
  | cons c channels ih =>
    rw [Audio.setAllocations, List.foldl_cons, ← Audio.setAllocations]
    by_cases later : ch ∈ channels
    · exact ih later (by simp [size])
    · obtain rfl : ch = c := (List.mem_cons.1 written).resolve_right later
      rw [setAllocations_getD_of_ne band band (fun member => absurd member later), setAllocation_allocation,
        List.getD_eq_getElem?_getD, bandIndex, List.getElem?_set_self (by omega), Option.getD_some]

theorem Audio.readAllocation_getD_of_ne (inside : sb' < 32) (other : ch ∈ channels → sb ≠ sb') (a : Audio) :
    (a.readAllocation channels sb').allocation.getD (32 * ch + sb) none = a.allocation.getD (32 * ch + sb) none :=
  setAllocations_getD_of_ne band inside other _ _

theorem Audio.readAllocation_getD (channel : ch < 2) (written : ch ∈ channels) {a : Audio}
    (size : a.allocation.length = 64) : (a.readAllocation channels sb).allocation.getD (32 * ch + sb) none =
      a.table.quantClass sb (a.br.read (a.table.nbal sb)).1 :=
  setAllocations_getD band channel written _ size

end

theorem Audio.effectiveBound_le (a : Audio) : a.effectiveBound ≤ a.table.sblimit := min_le_right ..

theorem sblimit_le (t : AllocationTable) : t.sblimit ≤ 30 := by cases t <;> decide

/-! ### The fields in the order of the stream -/

/-- The fields of the allocations: for each the channels it stands for, and its subband. -/
def allocationFields (channels bound limit : Nat) : List (List Nat × Nat) :=
  (bandPairs channels bound).map (fun e => ([e.1], e.2)) ++ (numbersFrom bound limit).map fun sb => ([0, 1], sb)

theorem mem_allocationFields {channels bound limit sb : Nat} {chs : List Nat} :
    (chs, sb) ∈ allocationFields channels bound limit ↔
      (sb < bound ∧ ∃ ch < channels, chs = [ch]) ∨ (bound ≤ sb ∧ sb < limit ∧ chs = [0, 1]) := by
  simp only [allocationFields, List.mem_append, List.mem_map, Prod.exists, mem_bandPairs, numbersFrom,
    List.mem_range'_1, Prod.mk.injEq]
  constructor
  · rintro (⟨ch, _, ⟨channel, band⟩, rfl, rfl⟩ | ⟨_, ⟨low, high⟩, rfl, rfl⟩)
    · exact .inl ⟨band, ch, channel, rfl⟩
    · exact .inr ⟨low, by omega, rfl⟩
  · rintro (⟨band, ch, channel, rfl⟩ | ⟨low, high, rfl⟩)
    · exact .inl ⟨ch, sb, ⟨channel, band⟩, rfl, rfl⟩
    · exact .inr ⟨sb, ⟨low, by omega⟩, rfl, rfl⟩

theorem allocationFields_nodup (channels bound limit : Nat) : (allocationFields channels bound limit).Nodup := by
  have separate : Function.Injective fun e : Nat × Nat => ([e.1], e.2) := by
    rintro ⟨ch, sb⟩ ⟨ch', sb'⟩ same
    simpa using same
  have shared : Function.Injective fun sb : Nat => ([0, 1], sb) := fun _ _ same => (Prod.mk.inj same).2
  refine List.nodup_append'.2 ⟨(bandPairs_nodup channels bound).map separate, ?_, ?_⟩
  · exact List.Nodup.map shared (List.nodup_range' (s := bound))
  · intro e own both
    obtain ⟨_, _, rfl⟩ := List.mem_map.1 own
    obtain ⟨_, _, same⟩ := List.mem_map.1 both
    simp at same

/-- The widths of the fields (R1003). -/
theorem allocationFields_widths {channels bound limit : Nat} (inside : bound ≤ limit) (width : Nat → Nat) :
    (allocationFields channels bound limit).map (fun e => width e.2) =
      (List.range limit).flatMap fun sb => List.replicate (if sb < bound then channels else 1) (width sb) := by
  have bands : List.range limit = List.range bound ++ numbersFrom bound limit := by
    have whole := List.range'_append_1 (s := 0) (m := bound) (n := limit - bound)
    rw [Nat.zero_add, Nat.add_sub_cancel' inside] at whole
    rw [numbersFrom, List.range_eq_range', List.range_eq_range', whole]
  rw [bands, List.flatMap_append, allocationFields, List.map_append, bandPairs, List.map_map, List.map_flatMap]
  congr 1
  · refine List.flatMap_congr fun sb member => ?_
    rw [if_pos (List.mem_range.1 member)]
    simp [Function.comp_def, List.map_const']
  · rw [List.map_map, List.map_eq_flatMap]
    refine List.flatMap_congr fun sb member => ?_
    rw [if_neg (by rw [numbersFrom, List.mem_range'_1] at member; omega)]
    rfl

/-- The place of a field. -/
theorem allocationFields_getElem? {channels bound limit ch sb : Nat} (band : sb < limit)
    (channel : sb < bound → ch < channels) :
    (allocationFields channels bound limit)[
        if sb < bound then channels * sb + ch else channels * bound + (sb - bound)]? =
      some (if sb < bound then [ch] else [0, 1], sb) := by
  have length : ((bandPairs channels bound).map fun e => ([e.1], e.2)).length = channels * bound := by
    rw [List.length_map, bandPairs_length]
  rw [allocationFields]
  split
  case isTrue own =>
    rw [List.getElem?_append_left, List.getElem?_map, bandPairs_getElem? (channel own) own]
    · rfl
    · rw [length]
      exact (Nat.add_lt_add_left (channel own) _).trans_le (Nat.mul_le_mul_left channels own)
  case isFalse shared =>
    rw [List.getElem?_append_right (by omega), length, Nat.add_sub_cancel_left, List.getElem?_map, numbersFrom,
      List.getElem?_range' (by omega), Nat.one_mul, Nat.add_sub_cancel' (by omega)]
    rfl

/-! ### All allocations (R1003) -/

/-- The fields of the allocations read one by one. -/
def Audio.allocationsRead (a : Audio) : Audio :=
  (allocationFields a.channels.toNat a.effectiveBound a.table.sblimit).foldl (fun b e => b.readAllocation e.1 e.2) a

theorem Audio.readAllocations_eq (a : Audio) : a.readAllocations =
    (numbersFrom a.table.sblimit 32).foldl (fun b sb => b.setAllocations [0, 1] sb none) a.allocationsRead := by
  unfold Audio.readAllocations Audio.allocationsRead allocationFields
  dsimp only
  rw [List.foldl_append, List.foldl_map, List.foldl_map, forBands_eq_foldl]
  rfl

theorem Audio.allocationsRead_only (a : Audio) : a.AllocationOnly a.allocationsRead :=
  List.foldlRecOn _ _ (.refl a) fun _ only _ _ => only.trans (readAllocation_only ..)

theorem Audio.readAllocations_only (a : Audio) : a.AllocationOnly a.readAllocations := by
  rw [readAllocations_eq]
  exact List.foldlRecOn _ _ a.allocationsRead_only fun _ only _ _ => only.trans (setAllocations_only ..).1

/-- The reader behind some of the fields. -/
theorem Audio.foldl_readAllocation_br (l : List (List Nat × Nat)) (a : Audio) :
    (l.foldl (fun b e => b.readAllocation e.1 e.2) a).br = a.br.takeFields (l.map fun e => a.table.nbal e.2) := by
  rw [List.map_eq_flatMap]
  exact foldl_takeFields (P := a.AllocationOnly) (fun _ _ only => only.trans (readAllocation_only ..))
    (fun b e _ only => by rw [readAllocation_br, only.table]; rfl) (.refl a)

theorem Audio.readAllocations_br (a : Audio) : a.readAllocations.br = a.br.takeFields
    ((allocationFields a.channels.toNat a.effectiveBound a.table.sblimit).map fun e => a.table.nbal e.2) := by
  rw [readAllocations_eq, ← foldl_readAllocation_br]
  exact foldl_kept (seen := Audio.br) (fun b sb _ => (setAllocations_only [0, 1] sb none b).2) _

section
variable {a : Audio} {ch sb : Nat} (channel : ch < 2) (band : sb < 32) (size : a.allocation.length = 64)
include channel band size

/-- From the limit on there is no allocation (R1003). -/
theorem Audio.readAllocations_of_beyond (beyond : a.table.sblimit ≤ sb) :
    a.readAllocations.allocation.getD (32 * ch + sb) none = none := by
  have stands : (numbersFrom a.table.sblimit 32)[sb - a.table.sblimit]? = some sb := by
    rw [numbersFrom, List.getElem?_range' (by omega), Nat.one_mul, Nat.add_sub_cancel' beyond]
  rw [readAllocations_eq, foldl_seen_at (seen := fun b : Audio => b.allocation.getD (32 * ch + sb) none) stands
    (List.nodup_range' (s := a.table.sblimit)) fun b x member other => setAllocations_getD_of_ne band
      (by rw [numbersFrom, List.mem_range'_1] at member; omega) (fun _ => other.symm) none b]
  refine setAllocations_getD band channel (by simp; omega) none ?_
  have before : a.AllocationOnly (((numbersFrom a.table.sblimit 32).take (sb - a.table.sblimit)).foldl
      (fun b sb => b.setAllocations [0, 1] sb none) a.allocationsRead) :=
    List.foldlRecOn _ _ a.allocationsRead_only fun _ only _ _ => only.trans (setAllocations_only ..).1
  exact before.length.trans size

omit channel size in
/-- Below the limit the last fields change nothing. -/
theorem Audio.readAllocations_of_inside (inside : sb < a.table.sblimit) :
    a.readAllocations.allocation.getD (32 * ch + sb) none =
      a.allocationsRead.allocation.getD (32 * ch + sb) none := by
  rw [readAllocations_eq]
  exact foldl_kept (seen := fun b : Audio => b.allocation.getD (32 * ch + sb) none)
    (fun b x member => by
      rw [numbersFrom, List.mem_range'_1] at member
      exact setAllocations_getD_of_ne band (by omega) (fun _ => by omega) none b) _

omit channel size in
/-- Below the bound a channel beyond the frame's keeps its class: no field stands for it. -/
theorem Audio.allocationsRead_of_absent (own : sb < a.effectiveBound) (absent : a.channels.toNat ≤ ch) :
    a.allocationsRead.allocation.getD (32 * ch + sb) none = a.allocation.getD (32 * ch + sb) none := by
  have inside := a.effectiveBound_le
  have limit := sblimit_le a.table
  refine foldl_kept (seen := fun b : Audio => b.allocation.getD (32 * ch + sb) none) (fun b ⟨chs, x⟩ member => ?_) a
  rw [mem_allocationFields] at member
  refine readAllocation_getD_of_ne band (by omega) (fun written same => ?_) b
  obtain ⟨-, c, present, rfl⟩ | ⟨shared, -⟩ := member
  · obtain rfl := List.mem_singleton.1 written
    omega
  · omega

/-- A class is what its field codes (R1003). -/
theorem Audio.allocationsRead_getD (inside : sb < a.table.sblimit)
    (present : sb < a.effectiveBound → ch < a.channels.toNat) :
    let widths := (allocationFields a.channels.toNat a.effectiveBound a.table.sblimit).map fun e => a.table.nbal e.2
    let place := if sb < a.effectiveBound then a.channels.toNat * sb + ch
      else a.channels.toNat * a.effectiveBound + (sb - a.effectiveBound)
    a.allocationsRead.allocation.getD (32 * ch + sb) none =
      a.table.quantClass sb ((a.br.takeFields (widths.take place)).read (a.table.nbal sb)).1 := by
  intro widths place
  let fields := allocationFields a.channels.toNat a.effectiveBound a.table.sblimit
  let before := (fields.take place).foldl (fun b e => b.readAllocation e.1 e.2) a
  have only : a.AllocationOnly before :=
    List.foldlRecOn _ _ (.refl a) fun _ only _ _ => only.trans (readAllocation_only ..)
  have reader : before.br = a.br.takeFields (widths.take place) := by
    rw [List.map_take.symm]
    exact foldl_readAllocation_br _ a
  have bound := a.effectiveBound_le
  have limit := sblimit_le a.table
  rw [Audio.allocationsRead, foldl_seen_at (seen := fun b : Audio => b.allocation.getD (32 * ch + sb) none)
    (allocationFields_getElem? inside present) (allocationFields_nodup ..) ?others]
  · have written : ch ∈ if sb < a.effectiveBound then [ch] else [0, 1] := by
      split
      · exact List.mem_singleton_self ch
      · simp; omega
    have value := readAllocation_getD band channel written (only.length.trans size)
    rwa [only.table, reader] at value
  case others =>
    intro b ⟨chs, x⟩ member other
    rw [mem_allocationFields] at member
    refine readAllocation_getD_of_ne band (by omega) (fun written same => other ?_) b
    subst same
    obtain ⟨own, c, -, rfl⟩ | ⟨shared, -, rfl⟩ := member
    · rw [if_pos own, List.mem_singleton.1 written]
    · rw [if_neg (by omega)]

/-- The class of every subband and channel (R1003). -/
theorem Audio.readAllocations_getD :
    let widths := (allocationFields a.channels.toNat a.effectiveBound a.table.sblimit).map fun e => a.table.nbal e.2
    let place := if sb < a.effectiveBound then a.channels.toNat * sb + ch
      else a.channels.toNat * a.effectiveBound + (sb - a.effectiveBound)
    a.readAllocations.allocation.getD (32 * ch + sb) none =
      if a.table.sblimit ≤ sb then none
      else if sb < a.effectiveBound ∧ a.channels.toNat ≤ ch then a.allocation.getD (32 * ch + sb) none
      else a.table.quantClass sb ((a.br.takeFields (widths.take place)).read (a.table.nbal sb)).1 := by
  intro widths place
  by_cases beyond : a.table.sblimit ≤ sb
  · rw [if_pos beyond, readAllocations_of_beyond channel band size beyond]
  · rw [if_neg beyond, readAllocations_of_inside band (by omega)]
    by_cases absent : sb < a.effectiveBound ∧ a.channels.toNat ≤ ch
    · rw [if_pos absent, allocationsRead_of_absent band absent.1 absent.2]
    · rw [if_neg absent]
      exact allocationsRead_getD channel band size (by omega) (by omega)

end

end Sys2Proof.Machine
end

section
/-! The selectors and scalefactors of a frame (R1004, R1005): what each allocated subband reads and writes, in the
order of the stream. -/

namespace Sys2Proof.Machine

/-! ### Allocated subbands -/

/-- The class of a subband and channel is not NONE. -/
def Audio.allocated (a : Audio) (e : Nat × Nat) : Bool := (a.allocation.getD (32 * e.1 + e.2) none).isSome

/-- The allocated subbands with their channels, in the order of the stream. -/
def Audio.allocatedPairs (a : Audio) : List (Nat × Nat) :=
  (bandPairs a.channels.toNat a.table.sblimit).filter a.allocated

theorem Audio.mem_allocatedPairs {a : Audio} {e : Nat × Nat} :
    e ∈ a.allocatedPairs ↔ (e.1 < a.channels.toNat ∧ e.2 < a.table.sblimit) ∧ a.allocated e = true := by
  rw [Audio.allocatedPairs, List.mem_filter, mem_bandPairs]

theorem Audio.allocatedPairs_nodup (a : Audio) : a.allocatedPairs.Nodup := (bandPairs_nodup ..).filter _

theorem Audio.allocated_of_mem {a : Audio} {e : Nat × Nat} (member : e ∈ a.allocatedPairs) : a.allocated e = true :=
  (mem_allocatedPairs.1 member).2

theorem Audio.band_lt_of_mem {a : Audio} {e : Nat × Nat} (member : e ∈ a.allocatedPairs) : e.2 < 32 := by
  obtain ⟨⟨-, band⟩, -⟩ := mem_allocatedPairs.1 member
  have limit := sblimit_le a.table
  omega

theorem Audio.channel_lt_of_mem {a : Audio} (channels : a.channels.toNat ≤ 2) {e : Nat × Nat}
    (member : e ∈ a.allocatedPairs) : e.1 < 2 := by
  obtain ⟨⟨channel, -⟩, -⟩ := mem_allocatedPairs.1 member
  omega

/-- The places of two subbands and channels differ. -/
theorem place_ne {e e' : Nat × Nat} (band : e.2 < 32) (band' : e'.2 < 32) (other : e ≠ e') :
    32 * e.1 + e.2 ≠ 32 * e'.1 + e'.2 := fun same => other (Prod.ext (by omega) (by omega))

/-! ### Selectors (R1004) -/

/-- Selectors are read from `a` to `b`: only the reader and the selectors differ. -/
structure Audio.SelectorsOnly (a b : Audio) : Prop where
  length : b.scfsi.length = a.scfsi.length
  only : b = { a with br := b.br, scfsi := b.scfsi }

theorem Audio.SelectorsOnly.refl (a : Audio) : a.SelectorsOnly a := ⟨rfl, rfl⟩

theorem Audio.SelectorsOnly.trans {a b c : Audio} (h : a.SelectorsOnly b) (k : b.SelectorsOnly c) :
    a.SelectorsOnly c := by
  obtain ⟨length, only⟩ := h
  obtain ⟨length', only'⟩ := k
  exact ⟨length'.trans length, by rw [only', only]⟩

theorem Audio.SelectorsOnly.table {a b : Audio} (h : a.SelectorsOnly b) : b.table = a.table := by
  rw [h.only]
  rfl

theorem Audio.SelectorsOnly.allocated {a b : Audio} (h : a.SelectorsOnly b) : b.allocated = a.allocated := by
  rw [h.only]
  rfl

/-- Selectors change nothing of which subbands are allocated. -/
theorem Audio.SelectorsOnly.allocatedPairs {a b : Audio} (h : a.SelectorsOnly b) :
    b.allocatedPairs = a.allocatedPairs := by
  rw [h.only]
  rfl

theorem Audio.readSelector_of_allocated {a : Audio} {e : Nat × Nat} (h : a.allocated e = true) :
    a.readSelector e.1 e.2 =
      { a with br := a.br.take 2, scfsi := a.scfsi.set (32 * e.1 + e.2) (BitVec.ofNat 2 (a.br.read 2).1) } := if_pos h

theorem Audio.readSelector_of_not_allocated {a : Audio} {e : Nat × Nat} (h : a.allocated e = false) :
    a.readSelector e.1 e.2 = a := if_neg (Bool.eq_false_iff.1 h)

theorem Audio.readSelector_only (a : Audio) (e : Nat × Nat) : a.SelectorsOnly (a.readSelector e.1 e.2) := by
  cases h : a.allocated e with
  | true => rw [readSelector_of_allocated h]; exact ⟨List.length_set .., rfl⟩
  | false => rw [readSelector_of_not_allocated h]; exact .refl a

theorem Audio.readSelector_getD_of_ne {place : Nat} {e : Nat × Nat} (other : 32 * e.1 + e.2 ≠ place) (a : Audio) :
    (a.readSelector e.1 e.2).scfsi.getD place 0 = a.scfsi.getD place 0 := by
  cases h : a.allocated e with
  | true => simp [readSelector_of_allocated h, List.getD_eq_getElem?_getD, List.getElem?_set_ne other]
  | false => rw [readSelector_of_not_allocated h]

/-- All selectors (R1004). -/
def Audio.selectorsRead (a : Audio) : Audio := a.forBands (numbersFrom 0 a.table.sblimit) readSelector

theorem Audio.selectorsRead_eq (a : Audio) :
    a.selectorsRead = a.allocatedPairs.foldl (fun b e => b.readSelector e.1 e.2) a := by
  rw [Audio.selectorsRead, forBands_eq_foldl]
  exact foldl_eq_foldl_filter (P := a.SelectorsOnly) (fun b e only => only.trans (b.readSelector_only e))
    (fun b e only idle => readSelector_of_not_allocated (only.allocated ▸ idle)) _ (.refl a)

theorem Audio.foldl_readSelector_only (l : List (Nat × Nat)) (a : Audio) :
    a.SelectorsOnly (l.foldl (fun b e => b.readSelector e.1 e.2) a) :=
  List.foldlRecOn l _ (.refl a) fun b only e _ => only.trans (b.readSelector_only e)

theorem Audio.foldl_readSelector_br {a : Audio} {l : List (Nat × Nat)} (h : ∀ e ∈ l, a.allocated e = true) :
    (l.foldl (fun b e => b.readSelector e.1 e.2) a).br = a.br.takeFields (List.replicate l.length 2) := by
  have fields := foldl_takeFields (P := a.SelectorsOnly) (f := fun b e => b.readSelector e.1 e.2)
    (fields := fun _ => List.replicate 1 2) (l := l) (fun b e only => only.trans (b.readSelector_only e))
    (fun b e member only => by rw [readSelector_of_allocated (only.allocated ▸ h e member)]; rfl) (.refl a)
  rw [fields, flatMap_replicate, List.map_const', List.sum_replicate, smul_eq_mul, Nat.mul_one]

theorem Audio.selectorsRead_only (a : Audio) : a.SelectorsOnly a.selectorsRead :=
  a.selectorsRead_eq ▸ foldl_readSelector_only ..

theorem Audio.selectorsRead_br (a : Audio) :
    a.selectorsRead.br = a.br.takeFields (List.replicate a.allocatedPairs.length 2) := by
  rw [selectorsRead_eq]
  exact foldl_readSelector_br fun _ => allocated_of_mem

/-- The selector of the allocated subband `n` (R1004). -/
theorem Audio.selectorsRead_getD {a : Audio} {n : Nat} {e : Nat × Nat} (channels : a.channels.toNat ≤ 2)
    (size : a.scfsi.length = 64) (stands : a.allocatedPairs[n]? = some e) :
    (a.selectorsRead.scfsi.getD (32 * e.1 + e.2) 0).toNat =
      ((a.br.takeFields (List.replicate n 2)).read 2).1 := by
  have own := List.mem_of_getElem? stands
  have channel := channel_lt_of_mem channels own
  have band := band_lt_of_mem own
  obtain ⟨short, -⟩ := List.getElem?_eq_some_iff.1 stands
  let before := (a.allocatedPairs.take n).foldl (fun b e => b.readSelector e.1 e.2) a
  have only : a.SelectorsOnly before := foldl_readSelector_only ..
  have reader : before.br = a.br.takeFields (List.replicate n 2) := by
    rw [foldl_readSelector_br fun _ member => allocated_of_mem (List.mem_of_mem_take member), List.length_take,
      Nat.min_eq_left short.le]
  have seen : a.selectorsRead.scfsi.getD (32 * e.1 + e.2) 0 =
      (before.readSelector e.1 e.2).scfsi.getD (32 * e.1 + e.2) 0 := by
    rw [selectorsRead_eq]
    exact foldl_seen_at (seen := fun b : Audio => b.scfsi.getD (32 * e.1 + e.2) 0) stands a.allocatedPairs_nodup
      (fun b y member other => readSelector_getD_of_ne (place_ne (band_lt_of_mem member) band other) b) a
  have room : 32 * e.1 + e.2 < before.scfsi.length := by rw [only.length, size]; omega
  rw [seen, readSelector_of_allocated (only.allocated ▸ allocated_of_mem own), ← reader]
  simp only [List.getD_eq_getElem?_getD, List.getElem?_set_self room, Option.getD_some, BitVec.toNat_ofNat]
  exact Nat.mod_eq_of_lt (before.br.read_lt 2)

/-- Without an allocation the selector stays (R1004). -/
theorem Audio.selectorsRead_of_not_mem {a : Audio} {ch sb : Nat} (band : sb < 32)
    (absent : (ch, sb) ∉ a.allocatedPairs) :
    a.selectorsRead.scfsi.getD (32 * ch + sb) 0 = a.scfsi.getD (32 * ch + sb) 0 := by
  rw [selectorsRead_eq]
  refine foldl_kept (seen := fun b : Audio => b.scfsi.getD (32 * ch + sb) 0) (fun b e member => ?_) a
  exact readSelector_getD_of_ne (place_ne (e' := (ch, sb)) (band_lt_of_mem member) band
    fun same => absent (same ▸ member)) b

end Sys2Proof.Machine
end

section
/-! The scalefactors of a frame (R1005), and the body of a frame as a whole (R1000-R1005, R1012). -/

namespace Sys2Proof.Machine

/-! ### The scalefactors of one subband (R1005) -/

/-- The number of scalefactor fields of a selector. -/
def factorCount (selector : Nat) : Nat := if selector = 0 then 3 else if selector = 2 then 1 else 2

/-- The field that scalefactor `k` of a subband takes. -/
def factorField (selector k : Nat) : Nat :=
  if selector = 0 then k else if selector = 1 then k - 1 else if selector = 2 then 0 else min k 1

theorem selector_cases : ∀ selector : BitVec 2, selector = 0 ∨ selector = 1 ∨ selector = 2 ∨ selector = 3 := by decide

theorem readFactors_snd (selector : BitVec 2) (b : BitReader) :
    (readFactors selector b).2 = b.takeFields (List.replicate (factorCount selector.toNat) 6) := by
  obtain rfl | rfl | rfl | rfl := selector_cases selector <;> rfl

theorem readFactors_length (selector : BitVec 2) (b : BitReader) : (readFactors selector b).1.length = 3 := by
  obtain rfl | rfl | rfl | rfl := selector_cases selector <;> rfl

theorem readFactors_getD (selector : BitVec 2) (b : BitReader) {k : Nat} (small : k < 3) :
    (readFactors selector b).1.getD k 0 =
      BitVec.ofNat 6 ((b.takeFields (List.replicate (factorField selector.toNat k) 6)).read 6).1 := by
  obtain rfl | rfl | rfl : k = 0 ∨ k = 1 ∨ k = 2 := by omega
  all_goals obtain rfl | rfl | rfl | rfl := selector_cases selector <;> rfl

/-! ### All scalefactors (R1005) -/

/-- Scalefactors are read from `a` to `b`: only the reader and the scalefactors differ. -/
structure Audio.FactorsOnly (a b : Audio) : Prop where
  length : b.scalefactor.length = a.scalefactor.length
  only : b = { a with br := b.br, scalefactor := b.scalefactor }

theorem Audio.FactorsOnly.refl (a : Audio) : a.FactorsOnly a := ⟨rfl, rfl⟩

theorem Audio.FactorsOnly.trans {a b c : Audio} (h : a.FactorsOnly b) (k : b.FactorsOnly c) : a.FactorsOnly c := by
  obtain ⟨length, only⟩ := h
  obtain ⟨length', only'⟩ := k
  exact ⟨length'.trans length, by rw [only', only]⟩

theorem Audio.FactorsOnly.allocated {a b : Audio} (h : a.FactorsOnly b) : b.allocated = a.allocated := by
  rw [h.only]
  rfl

theorem Audio.FactorsOnly.scfsi {a b : Audio} (h : a.FactorsOnly b) : b.scfsi = a.scfsi := by rw [h.only]

/-- The selector of a subband and channel. -/
def Audio.selector (a : Audio) (e : Nat × Nat) : BitVec 2 := a.scfsi.getD (32 * e.1 + e.2) 0

theorem Audio.readScalefactors_of_allocated {a : Audio} {e : Nat × Nat} (h : a.allocated e = true) :
    a.readScalefactors e.1 e.2 = { a with
      br := (readFactors (a.selector e) a.br).2
      scalefactor := splice a.scalefactor (3 * (32 * e.1 + e.2)) (readFactors (a.selector e) a.br).1 } := if_pos h

theorem Audio.readScalefactors_of_not_allocated {a : Audio} {e : Nat × Nat} (h : a.allocated e = false) :
    a.readScalefactors e.1 e.2 = a := if_neg (Bool.eq_false_iff.1 h)

theorem Audio.readScalefactors_only (a : Audio) (e : Nat × Nat) : a.FactorsOnly (a.readScalefactors e.1 e.2) := by
  cases h : a.allocated e with
  | true => rw [readScalefactors_of_allocated h]; exact ⟨splice_length .., rfl⟩
  | false => rw [readScalefactors_of_not_allocated h]; exact .refl a

theorem Audio.readScalefactors_getD_of_ne {place k : Nat} {e : Nat × Nat} (small : k < 3)
    (other : 32 * e.1 + e.2 ≠ place) (a : Audio) :
    (a.readScalefactors e.1 e.2).scalefactor.getD (3 * place + k) 0 = a.scalefactor.getD (3 * place + k) 0 := by
  cases h : a.allocated e with
  | true =>
    rw [readScalefactors_of_allocated h]
    exact splice_getD_of_outside (by rw [readFactors_length]; omega) 0
  | false => rw [readScalefactors_of_not_allocated h]

/-- All scalefactors (R1005). -/
def Audio.factorsRead (a : Audio) : Audio := a.forBands (numbersFrom 0 a.table.sblimit) readScalefactors

theorem Audio.factorsRead_eq (a : Audio) :
    a.factorsRead = a.allocatedPairs.foldl (fun b e => b.readScalefactors e.1 e.2) a := by
  rw [Audio.factorsRead, forBands_eq_foldl]
  exact foldl_eq_foldl_filter (P := a.FactorsOnly) (fun b e only => only.trans (b.readScalefactors_only e))
    (fun b e only idle => readScalefactors_of_not_allocated (only.allocated ▸ idle)) _ (.refl a)

theorem Audio.foldl_readScalefactors_only (l : List (Nat × Nat)) (a : Audio) :
    a.FactorsOnly (l.foldl (fun b e => b.readScalefactors e.1 e.2) a) :=
  List.foldlRecOn l _ (.refl a) fun b only e _ => only.trans (b.readScalefactors_only e)

/-- The reader behind the scalefactors of some subbands. -/
def Audio.behindFactors (a : Audio) (l : List (Nat × Nat)) : BitReader :=
  a.br.takeFields (List.replicate (l.map fun e => factorCount (a.selector e).toNat).sum 6)

theorem Audio.foldl_readScalefactors_br {a : Audio} {l : List (Nat × Nat)} (h : ∀ e ∈ l, a.allocated e = true) :
    (l.foldl (fun b e => b.readScalefactors e.1 e.2) a).br = a.behindFactors l := by
  rw [Audio.behindFactors, ← flatMap_replicate]
  refine foldl_takeFields (P := a.FactorsOnly) (fun b e only => only.trans (b.readScalefactors_only e))
    (fun b e member only => ?_) (.refl a)
  rw [readScalefactors_of_allocated (only.allocated ▸ h e member), Audio.selector, only.scfsi]
  exact readFactors_snd ..

theorem Audio.factorsRead_only (a : Audio) : a.FactorsOnly a.factorsRead :=
  a.factorsRead_eq ▸ foldl_readScalefactors_only ..

theorem Audio.factorsRead_br (a : Audio) : a.factorsRead.br = a.behindFactors a.allocatedPairs := by
  rw [factorsRead_eq]
  exact foldl_readScalefactors_br fun _ => allocated_of_mem

/-- The scalefactors of the allocated subband `n` (R1005). -/
theorem Audio.factorsRead_getD {a : Audio} {n k : Nat} {e : Nat × Nat} (channels : a.channels.toNat ≤ 2)
    (size : a.scalefactor.length = 192) (small : k < 3) (stands : a.allocatedPairs[n]? = some e) :
    a.factorsRead.scalefactor.getD (3 * (32 * e.1 + e.2) + k) 0 = BitVec.ofNat 6 (((a.behindFactors
      (a.allocatedPairs.take n)).takeFields (List.replicate (factorField (a.selector e).toNat k) 6)).read 6).1 := by
  have own := List.mem_of_getElem? stands
  have channel := channel_lt_of_mem channels own
  have band := band_lt_of_mem own
  let before := (a.allocatedPairs.take n).foldl (fun b e => b.readScalefactors e.1 e.2) a
  have only : a.FactorsOnly before := foldl_readScalefactors_only ..
  have reader : before.br = a.behindFactors (a.allocatedPairs.take n) :=
    foldl_readScalefactors_br fun _ member => allocated_of_mem (List.mem_of_mem_take member)
  have seen : a.factorsRead.scalefactor.getD (3 * (32 * e.1 + e.2) + k) 0 =
      (before.readScalefactors e.1 e.2).scalefactor.getD (3 * (32 * e.1 + e.2) + k) 0 := by
    rw [factorsRead_eq]
    exact foldl_seen_at (seen := fun b : Audio => b.scalefactor.getD (3 * (32 * e.1 + e.2) + k) 0) stands
      a.allocatedPairs_nodup (fun b y member other =>
        readScalefactors_getD_of_ne small (place_ne (band_lt_of_mem member) band other) b) a
  have selector : before.selector e = a.selector e := by rw [Audio.selector, only.scfsi]; rfl
  rw [seen, readScalefactors_of_allocated (only.allocated ▸ allocated_of_mem own), selector, reader]
  exact (splice_getD_of_inside (by rw [readFactors_length]; exact small) (by rw [only.length, size]; omega) 0).trans
    (readFactors_getD _ _ small)

/-- Without an allocation the scalefactors stay (R1005). -/
theorem Audio.factorsRead_of_not_mem {a : Audio} {ch sb k : Nat} (band : sb < 32) (small : k < 3)
    (absent : (ch, sb) ∉ a.allocatedPairs) :
    a.factorsRead.scalefactor.getD (3 * (32 * ch + sb) + k) 0 = a.scalefactor.getD (3 * (32 * ch + sb) + k) 0 := by
  rw [factorsRead_eq]
  refine foldl_kept (seen := fun b : Audio => b.scalefactor.getD (3 * (32 * ch + sb) + k) 0) (fun b e member => ?_) a
  exact readScalefactors_getD_of_ne small
    (place_ne (e' := (ch, sb)) (band_lt_of_mem member) band fun same => absent (same ▸ member)) b

/-! ### Twelve granules (R1000, R1006) -/

/-- A granule keeps the files that say how its samples are coded. -/
structure Audio.KeepsTables (a b : Audio) : Prop where
  allocation : b.allocation = a.allocation
  scfsi : b.scfsi = a.scfsi
  scalefactor : b.scalefactor = a.scalefactor

theorem Audio.KeepsTables.trans {a b c : Audio} (h : a.KeepsTables b) (k : b.KeepsTables c) : a.KeepsTables c :=
  ⟨k.allocation.trans h.allocation, k.scfsi.trans h.scfsi, k.scalefactor.trans h.scalefactor⟩

theorem Audio.decodeGranule_keepsTables (part granule : Nat) (a : Audio) :
    a.KeepsTables (a.decodeGranule part granule) := by
  have triples : a.KeepsTables (a.triplesRead part) := by
    rw [(a.triplesRead_readsSamples part).only]
    exact ⟨rfl, rfl, rfl⟩
  have samples : (a.triplesRead part).KeepsTables (a.granuleSamples part) := by
    rw [a.granuleSamples_only part]
    exact ⟨rfl, rfl, rfl⟩
  have synthesis : (a.granuleSamples part).KeepsTables ((a.granuleSamples part).synthesized part granule 3) :=
    List.foldlRecOn _ _ ⟨rfl, rfl, rfl⟩ fun _ keeps _ _ => keeps.trans ⟨rfl, rfl, rfl⟩
  rw [decodeGranule_eq]
  exact (triples.trans samples).trans synthesis

/-- The twelve granules in order. -/
def Audio.granulesDecoded (a : Audio) : Audio :=
  (List.range 12).foldl (fun a i => a.decodeGranule (i / 4) (i % 4)) a

theorem Audio.granulesDecoded_keepsTables (a : Audio) : a.KeepsTables a.granulesDecoded :=
  List.foldlRecOn _ _ ⟨rfl, rfl, rfl⟩ fun b keeps i _ => keeps.trans (b.decodeGranule_keepsTables (i / 4) (i % 4))

theorem Audio.granulesDecoded_eq (a : Audio) : a.granulesDecoded =
    (List.range 3).foldl (fun a part => (List.range 4).foldl (Audio.decodeGranule part) a) a := by
  rw [Audio.granulesDecoded]
  simp [List.range_succ]

/-! ### DECODE_FRAME (R1000, R1012) -/

/-- The engine before the granules of a frame. -/
def Audio.tablesRead (a : Audio) : Audio := a.readAllocations.selectorsRead.factorsRead

theorem Audio.tablesRead_only (a : Audio) : a.tablesRead = { a with
    br := a.tablesRead.br
    allocation := a.readAllocations.allocation
    scfsi := a.readAllocations.selectorsRead.scfsi
    scalefactor := a.tablesRead.scalefactor } := by
  obtain ⟨-, allocations⟩ := a.readAllocations_only
  obtain ⟨-, selectors⟩ := a.readAllocations.selectorsRead_only
  obtain ⟨-, factors⟩ := a.readAllocations.selectorsRead.factorsRead_only
  unfold Audio.tablesRead
  generalize a.readAllocations.selectorsRead.factorsRead = d at factors ⊢
  generalize a.readAllocations.selectorsRead = c at selectors factors ⊢
  generalize a.readAllocations = b at allocations selectors ⊢
  rw [factors, selectors, allocations]

theorem Audio.decodeFrame_eq (a : Audio) :
    a.decodeFrame = { a.tablesRead.granulesDecoded with br := a.tablesRead.granulesDecoded.br.align } := by
  have first : a.readAllocations.table = a.table := a.readAllocations_only.table
  have second : a.readAllocations.selectorsRead.table = a.table :=
    a.readAllocations.selectorsRead_only.table.trans first
  rw [granulesDecoded_eq, Audio.tablesRead, Audio.factorsRead, second, Audio.selectorsRead, first]
  rfl

/-- What a frame leaves in the files is what stood there before its granules. -/
theorem Audio.decodeFrame_keepsTables (a : Audio) : a.tablesRead.KeepsTables a.decodeFrame := by
  have granules := a.tablesRead.granulesDecoded_keepsTables
  rw [decodeFrame_eq]
  generalize a.tablesRead.granulesDecoded = b at granules ⊢
  exact granules.trans ⟨rfl, rfl, rfl⟩

/-- Settles O52: the allocations, the selectors and the scalefactors one after another, then the granules. -/
theorem frameBodyTables : Obligations.FrameBodyTables := by
  intro a channels allocation scfsi scalefactor tab bound nch t place widths field bands b1 b2 selector count behind
    factor
  have two : a.channels.toNat ≤ 2 := by rcases channels with h | h <;> simp [h]
  let a1 := a.readAllocations
  let a2 := a1.selectorsRead
  obtain ⟨-, only1⟩ : a.AllocationOnly a1 := a.readAllocations_only
  have only2 : a1.SelectorsOnly a2 := a1.selectorsRead_only
  obtain ⟨-, only3⟩ : a2.FactorsOnly a.tablesRead := a2.factorsRead_only
  obtain ⟨keptAllocation, keptSelectors, keptFactors⟩ : a.tablesRead.KeepsTables t := a.decodeFrame_keepsTables
  have tAllocation : t.allocation = a1.allocation := by rw [keptAllocation, only3, only2.only]
  have tSelectors : t.scfsi = a2.scfsi := by rw [keptSelectors, only3]
  have channels1 : a1.channels.toNat ≤ 2 := by rw [only1]; exact two
  have pairs1 : bands = a1.allocatedPairs := by
    simp only [bands, tAllocation]
    rw [Audio.allocatedPairs, a.readAllocations_only.table, a.readAllocations_only.channels]
    rfl
  have pairs2 : bands = a2.allocatedPairs := pairs1.trans only2.allocatedPairs.symm
  have fieldWidths : (allocationFields a.channels.toNat a.effectiveBound a.table.sblimit).map
      (fun e => a.table.nbal e.2) = widths := allocationFields_widths a.effectiveBound_le a.table.nbal
  have reader1 : a1.br = b1 := by rw [a.readAllocations_br, fieldWidths]
  have reader2 : a2.br = b2 := by rw [a1.selectorsRead_br, reader1, ← pairs1]
  have selectors : selector = fun e => (a2.selector e).toNat := by
    simp only [selector, tSelectors]
    rfl
  have counts (n : Nat) : behind n = a2.behindFactors (a2.allocatedPairs.take n) := by
    rw [Audio.behindFactors, reader2, ← pairs2]
    simp only [behind, count, selectors]
    rfl
  refine ⟨fun ch channel sb band => ?classes, fun n e stands => ⟨?selectors, fun k small => ?factors⟩,
    fun ch channel sb band absent => ⟨?keptSelector, fun k small => ?keptFactor⟩, ?granules⟩
  case classes =>
    have value := Audio.readAllocations_getD channel band allocation
    dsimp only at value
    rw [fieldWidths] at value
    rw [tAllocation]
    exact value
  case selectors =>
    have value := a1.selectorsRead_getD channels1 (by rw [only1]; exact scfsi) (pairs1 ▸ stands)
    rwa [reader1, ← tSelectors] at value
  case factors =>
    have value := a2.factorsRead_getD (by rw [only2.only]; exact channels1)
      (by rw [only2.only, only1]; exact scalefactor) small (pairs2 ▸ stands)
    rw [← counts] at value
    rw [keptFactors, selectors]
    exact value
  case keptSelector =>
    rw [tSelectors, a1.selectorsRead_of_not_mem band (pairs1 ▸ absent), only1]
  case keptFactor =>
    rw [keptFactors, Audio.tablesRead, a2.factorsRead_of_not_mem band small (pairs2 ▸ absent), only2.only, only1]
  case granules =>
    have start : a.tablesRead = { a with
        br := behind bands.length, allocation := t.allocation, scfsi := t.scfsi, scalefactor := t.scalefactor } := by
      rw [counts, pairs2, List.take_length, ← a2.factorsRead_br, tAllocation, tSelectors, keptFactors]
      exact a.tablesRead_only
    rw [← start]
    exact a.decodeFrame_eq

end Sys2Proof.Machine
end

section
/-! Raising a cause, and the state after reset (R1201-R1203, R1301). -/

namespace Sys2Proof.Machine

/-! ### Raising a cause -/

/-- The counter stays at its last value (R1201, R1209). -/
theorem countError_eq (n : Word) : countError n = if n.toNat = 2 ^ 32 - 1 then n else n + 1 := by
  have last : n = 0xFFFFFFFF ↔ n.toNat = 2 ^ 32 - 1 := BitVec.toNat_inj.symm
  simp only [countError, last]

/-- A raise, in the terms of R1201. -/
theorem Video.raise_eq (c : VideoCause) (v : Video) : v.raise c = { v with
    verr := v.verr ||| BitVec.twoPow 10 (c.code - 0x10)
    verrcnt := if v.verrcnt.toNat = 2 ^ 32 - 1 then v.verrcnt else v.verrcnt + 1
    raised := true } := by
  rw [← countError_eq]
  rfl

/-- A raise of the ADE, in the terms of R1201. -/
theorem Audio.raise_eq (c : AudioCause) (a : Audio) : a.raise c = { a with
    aerr := a.aerr ||| BitVec.twoPow 7 (c.code - 0x20)
    aerrcnt := if a.aerrcnt.toNat = 2 ^ 32 - 1 then a.aerrcnt else a.aerrcnt + 1
    raised := true } := by
  rw [← countError_eq]
  rfl

/-- Settles O29: the codes are those of R1202 and R1203. -/
theorem raiseRule : Obligations.RaiseRule := by
  refine ⟨fun e listed v => ?video, fun e listed a => ?audio⟩
  case video =>
    have code : e.1.code = e.2 := by
      revert e
      decide
    rw [v.raise_eq, code]
  case audio =>
    have code : e.1.code = e.2 := by
      revert e
      decide
    rw [a.raise_eq, code]

/-! ### Reset (R1301) -/

/-- Settles O24: nothing is written, every register file has its size, and the indices are 0, 1 and 2. -/
theorem resetIsLegal : Obligations.ResetIsLegal := by
  refine ⟨?wellFormed, by decide, by decide, by decide⟩
  have video : Video.reset.wf = true := by decide
  have audio : Audio.reset.wf = true := by decide +kernel
  show (Video.reset.wf && Audio.reset.wf) = true
  rw [video, audio, Bool.and_self]

/-- Nothing is written at reset, so every sample is free (R108, R1301). -/
theorem reset_planeRead (f : Fin 3) (p : Plane) (i : Nat) :
    Video.reset.planeRead f p i = Config.unwrittenSample f.val p.number i := by
  have empty : (Video.reset.frame f).plane p = [] := by
    fin_cases f <;> cases p <;> rfl
  rw [Video.planeRead, empty]
  rfl

/-- Settles O25: the values of R1301 are those of the reset state. -/
theorem resetValues : Obligations.ResetValues := by
  unfold Obligations.ResetValues
  dsimp only
  and_intros
  any_goals rfl
  · exact reset_planeRead
  · intro r sequence
    simp only [List.mem_cons, List.not_mem_nil, or_false] at sequence
    rcases sequence with rfl | rfl | rfl <;> rfl

end Sys2Proof.Machine
end

section
/-! The host commands that write, end and rewind a store, and those that read an output (R1153-R1158, R1302,
R1303). -/

namespace Sys2Proof.Machine

/-! ### Writes (R203, R1153) -/

/-- How many bytes compaction drops (R203). -/
def BitReader.droppedBytes (b : BitReader) : Nat := if b.discardRead then b.bitIndex / 8 else 0

/-- A store after a write that is accepted (R203, R1153). -/
def BitReader.accepts (bytes : List Byte) (b : BitReader) : BitReader :=
  { b with
    bytes := b.bytes.drop b.droppedBytes ++ bytes
    bitIndex := b.bitIndex - 8 * b.droppedBytes
    totalSize := b.totalSize - b.droppedBytes
    ended := false }

/-- A write measures the store after compaction, and is accepted or refused as a whole. -/
theorem BitReader.write_eq (bytes : List Byte) (b : BitReader) :
    b.write bytes = if b.bytes.length - b.droppedBytes + bytes.length ≤ Config.bitstoreCapacity
      then b.accepts bytes else b := by
  have compacted : (if b.discardRead then b.compact else b) = { b with
      bytes := b.bytes.drop b.droppedBytes
      bitIndex := b.bitIndex - 8 * b.droppedBytes
      totalSize := b.totalSize - b.droppedBytes } := by
    unfold droppedBytes
    split
    case isTrue => rfl
    case isFalse => simp only [mul_zero, Nat.sub_zero, List.drop_zero]
  simp only [BitReader.write, compacted, fitsCapacity_iff, BitReader.length, List.length_drop]
  rfl

/-- A write that fits before compaction is accepted. -/
theorem BitReader.write_of_room {bytes : List Byte} {b : BitReader}
    (fits : b.bytes.length + bytes.length ≤ Config.bitstoreCapacity) : b.write bytes = b.accepts bytes := by
  rw [write_eq, if_pos (by omega)]

/-- A write that does not fit after compaction changes nothing. -/
theorem BitReader.write_of_passes {bytes : List Byte} {b : BitReader}
    (passes : Config.bitstoreCapacity < b.bytes.length - b.droppedBytes + bytes.length) : b.write bytes = b := by
  rw [write_eq, if_neg (by omega)]

theorem exec_vwrite {s : State} (idle : s.v.pos = .idle) (bytes : List Byte) :
    exec (.vwrite bytes) s = .next { s with v.br := s.v.br.write bytes, response := none } := if_pos idle

theorem exec_awrite {s : State} (idle : s.a.pos = .idle) (bytes : List Byte) :
    exec (.awrite bytes) s = .next { s with a.br := s.a.br.write bytes, response := none } := if_pos idle

/-- Settles O10: both engines write with the write of their reader. -/
theorem writeRule : Obligations.WriteRule := by
  intro bytes s kept written fits passes endKept
  refine ⟨fun idle => ⟨fun room _ => ?_, fun full => ?_⟩, fun idle => ⟨fun room _ => ?_, fun full => ?_⟩⟩
  · rw [exec_vwrite idle, BitReader.write_of_room room]
    rfl
  · rw [exec_vwrite idle, BitReader.write_of_passes full]
  · rw [exec_awrite idle, BitReader.write_of_room room]
    rfl
  · rw [exec_awrite idle, BitReader.write_of_passes full]

/-! ### Ends and rewinds (R1154, R1302, R1303) -/

/-- Settles O11: each command is the record update that its rule writes out, from idle. -/
theorem signalEndAndRewindRules : Obligations.SignalEndAndRewindRules :=
  ⟨fun _ => ⟨fun idle => if_pos idle, fun idle => if_pos idle⟩, fun _ idle => if_pos idle, fun _ idle => if_pos idle⟩

/-! ### Samples of the output frame (R1157) -/

theorem exec_vframeRead {s : State} (idle : s.v.pos = .idle) (p i : Nat) :
    exec (.vframeRead p i) s = .next { s with response := some (s.v.frameSample p i) } := if_pos idle

/-- The number of samples of a plane, in the terms of R205. -/
theorem Video.planeSize_eq (v : Video) (plane : Plane) : v.planeSize plane =
    match plane with
    | .y => v.lumaWidth.toNat * v.lumaHeight.toNat
    | _ => v.chromaWidth.toNat * v.chromaHeight.toNat := by
  cases plane <;> rfl

theorem Video.frameSample_of_inside {v : Video} {p i : Nat} {plane : Plane} {f : Fin 3}
    (number : planeOfNumber p = some plane) (output : v.outFrame = some f) (inside : i < v.planeSize plane) :
    v.frameSample p i = BitVec.ofNat 32 (v.planeRead f plane i).toNat := by
  unfold Video.frameSample
  rw [number, output]
  exact (if_pos inside).trans ((BitVec.ofNat_toNat ..).symm)

theorem Video.frameSample_of_outside {v : Video} {p i : Nat} {plane : Plane}
    (number : planeOfNumber p = some plane) (outside : v.outFrame = none ∨ v.planeSize plane ≤ i) :
    v.frameSample p i = 0 := by
  unfold Video.frameSample
  rw [number]
  split
  · rename_i f _ output same
    cases same
    exact if_neg (outside.resolve_left (by simp [output])).not_gt
  · rfl

/-- Settles O12. -/
theorem vframeReadRule : Obligations.VframeReadRule := by
  intro p plane i s listed idle size
  have number : planeOfNumber p = some plane := by
    simp only [List.mem_cons, List.not_mem_nil, or_false, Prod.mk.injEq] at listed
    rcases listed with ⟨rfl, rfl⟩ | ⟨rfl, rfl⟩ | ⟨rfl, rfl⟩ <;> rfl
  have sizes : s.v.planeSize plane = size := s.v.planeSize_eq plane
  refine ⟨fun f output inside => ?_, fun outside => ?_⟩
  · rw [exec_vframeRead idle, Video.frameSample_of_inside number output (sizes ▸ inside)]
  · rw [exec_vframeRead idle, Video.frameSample_of_outside number (sizes ▸ outside)]

/-! ### Elements of the Samples array (R1105, R1158) -/

theorem exec_asamplesRead {s : State} (idle : s.a.pos = .idle) (n : Nat) :
    exec (.asamplesRead n) s = .next { s with response := some (s.a.sampleElement n) } := if_pos idle

/-- Truncation is toward zero: up below 0, down from 0 on. -/
theorem truncate_eq (x : Rat) : truncate x = if x < 0 then ⌈x⌉ else ⌊x⌋ := by
  have den : (0 : Int) ≤ x.den := Int.natCast_nonneg _
  unfold truncate
  split
  case isTrue negative =>
    have num : 0 ≤ -x.num := by have := Rat.num_neg.2 negative; omega
    rw [← neg_neg ⌈x⌉, ← Int.floor_neg, Rat.floor_def', Rat.num_neg_eq_neg_num, Rat.den_neg_eq_den,
      ← Int.tdiv_eq_ediv_of_nonneg num, Int.neg_tdiv, neg_neg]
  case isFalse nonnegative =>
    have num : 0 ≤ x.num := Rat.num_nonneg.2 (not_lt.1 nonnegative)
    rw [Rat.floor_def', Int.tdiv_eq_ediv_of_nonneg num]

/-- The 16-bit element, in the terms of R1105. -/
theorem signed16_eq (x : Rat) : signed16 x =
    let y := min 1 (max (-1) x)
    BitVec.ofInt 32 (if y < 0 then ⌈y * 32768⌉ else ⌊y * 32767⌋) := by
  unfold signed16
  dsimp only
  generalize min 1 (max (-1) x) = y
  split
  case isTrue negative => rw [truncate_eq, if_pos (by linarith)]
  case isFalse nonnegative => rw [truncate_eq, if_neg (by linarith)]

/-- A sample in its format, in the terms of R1105. -/
theorem formatSample_eq (format : BitVec 2) (x : Surd) : formatSample format x =
    if format = 3 then signed16 (surdRational x)
    else if format = 2 then float32 (surdRational (scaleSurd 2147418112 x))
    else float32 (surdRational x) := by
  have formats : format = 0 ∨ format = 1 ∨ format = 2 ∨ format = 3 := by revert format; decide
  rcases formats with rfl | rfl | rfl | rfl <;> simp [formatSample]

/-- Settles O13. -/
theorem asamplesReadRule : Obligations.AsamplesReadRule := by
  intro n s idle
  refine ⟨fun none_ => ?_, fun valid inside => ?_⟩
  · have zero : s.a.sampleElement n = 0 := if_neg (by
      rcases none_ with invalid | beyond
      · simp [invalid]
      · simp [beyond])
    rw [exec_asamplesRead idle, zero]
  · intro ch m x y word
    have position : elementPosition s.a.format n = (ch, m) := by
      unfold elementPosition
      split
      case isTrue layout => simp only [ch, m, layout, if_true]
      case isFalse layout => simp only [ch, m, layout, if_false]
    have element : s.a.sampleElement n = formatSample s.a.format x := by
      unfold Audio.sampleElement
      rw [if_pos (by simp [valid, inside]), position]
    rw [exec_asamplesRead idle, element, formatSample_eq, signed16_eq]

end Sys2Proof.Machine
end

section
/-! The register file as the host reads and writes it (R118, R1159, R1301). -/

namespace Sys2Proof.Machine

/-! ### Fields of a register (R118) -/

/-- Fields side by side are the low field, and the others shifted behind it. -/
theorem setWidth_append_eq_or {m n w : Nat} (x : BitVec m) (y : BitVec n) :
    (x ++ y).setWidth w = y.setWidth w ||| x.setWidth w <<< n := by
  ext i inside
  simp only [BitVec.getElem_setWidth, BitVec.getElem_or, BitVec.getElem_shiftLeft, BitVec.getLsbD_append]
  by_cases low : i < n
  · simp [low]
  · simp [low, BitVec.getLsbD_of_ge y i (by omega)]

/-- A register with its fields side by side is the one with the shifted fields joined. -/
theorem fields_eq {x y : Word} (h : x = y.setWidth 32) : x = y := h.trans y.setWidth_eq

theorem setWidth_ofBool (b : Bool) : (BitVec.ofBool b).setWidth 32 = bitWord b := by cases b <;> rfl

theorem vctrl_eq (v : Video) : vctrl v = 0#30 ++ BitVec.ofBool v.br.discardRead ++ BitVec.ofBool v.noDelay := by
  refine fields_eq ?_
  simp only [setWidth_append_eq_or]
  simp [setWidth_ofBool, vctrl]

theorem vstatus_eq (v : Video) : vstatus v = 0#27 ++ BitVec.ofBool v.br.underrun ++ BitVec.ofBool v.outFrame.isSome ++
    BitVec.ofBool v.hasReferenceFrame ++ BitVec.ofBool v.br.ended ++ BitVec.ofBool v.hasSequenceHeader := by
  refine fields_eq ?_
  simp only [setWidth_append_eq_or]
  simp [setWidth_ofBool, BitVec.shiftLeft_or_distrib, BitVec.or_assoc, vstatus]

theorem verr_eq (v : Video) : fieldAt 0 v.verr = 0#22 ++ v.verr := by
  refine fields_eq ?_
  simp only [setWidth_append_eq_or]
  simp [fieldAt]

theorem vsize_eq (v : Video) : vsize v = sequenceField v (0#4 ++ v.height ++ 0#4 ++ v.width) := by
  refine congrArg (sequenceField v) (fields_eq ?_)
  simp only [setWidth_append_eq_or]
  simp [fieldAt]

theorem vseq_eq (v : Video) :
    vseq v = sequenceField v (0#6 ++ v.bitRate ++ v.pictureRateIndex ++ v.aspectRatioIndex) := by
  refine congrArg (sequenceField v) (fields_eq ?_)
  simp only [setWidth_append_eq_or]
  simp [BitVec.shiftLeft_or_distrib, BitVec.or_assoc, fieldAt]

theorem vmb_eq (v : Video) : vmb v = sequenceField v (0#7 ++ v.mbHeight ++ 0#7 ++ v.mbWidth) := by
  refine congrArg (sequenceField v) (fields_eq ?_)
  simp only [setWidth_append_eq_or]
  simp [fieldAt]

theorem vpict_eq (v : Video) : vpict v = 0#26 ++ (match v.outFrame with
    | some f => BitVec.ofNat 2 f.val
    | none => 0) ++ 0#1 ++ v.pictureType := by
  unfold vpict
  rcases v.outFrame with _ | f
  · refine fields_eq ?_
    rw [setWidth_append_eq_or]
    simp [fieldAt]
  · have index : (BitVec.ofNat 2 f.val).setWidth 32 = BitVec.ofNat 32 f.val := by fin_cases f <;> rfl
    refine fields_eq ?_
    rw [setWidth_append_eq_or, setWidth_append_eq_or, setWidth_append_eq_or, index]
    simp [fieldAt]

theorem actrl_eq (a : Audio) : actrl a = 0#29 ++ BitVec.ofBool a.br.discardRead ++ a.format := by
  refine fields_eq ?_
  simp only [setWidth_append_eq_or]
  simp [setWidth_ofBool, fieldAt, actrl]

theorem astatus_eq (a : Audio) : astatus a = 0#28 ++ BitVec.ofBool a.br.underrun ++ BitVec.ofBool a.outValid ++
    BitVec.ofBool a.br.ended ++ BitVec.ofBool a.hasHeader := by
  refine fields_eq ?_
  simp only [setWidth_append_eq_or]
  simp [setWidth_ofBool, BitVec.shiftLeft_or_distrib, BitVec.or_assoc, astatus]

theorem aerr_eq (a : Audio) : fieldAt 0 a.aerr = 0#25 ++ a.aerr := by
  refine fields_eq ?_
  simp only [setWidth_append_eq_or]
  simp [fieldAt]

theorem ahdr_eq (a : Audio) : ahdr a = 0#12 ++ a.channels ++ BitVec.ofBool a.padding ++ BitVec.ofBool a.hasCrc ++
    a.bound ++ a.modeExtension ++ a.mode ++ a.samplerateIndex ++ a.bitrateIndex := by
  refine fields_eq ?_
  simp only [setWidth_append_eq_or]
  simp [setWidth_ofBool, BitVec.shiftLeft_or_distrib, BitVec.or_assoc, fieldAt, ahdr]

/-! ### Access (R1159) -/

theorem exec_csrRead {s : State} (video : s.v.pos = .idle) (audio : s.a.pos = .idle) (r : Nat) :
    exec (.csrRead r) s = .next { s with response := some (csrValue s.v s.a r) } :=
  if_neg (by simp [video, audio])

theorem exec_csrWrite {s : State} (video : s.v.pos = .idle) (audio : s.a.pos = .idle) (r : Nat) (x : Word) :
    exec (.csrWrite r x) s =
      .next { s with v := writeVideoCsr r x s.v, a := writeAudioCsr r x s.a, response := none } :=
  if_neg (by simp [video, audio])

/-- A number that is in no row of the map reads 0. -/
theorem csrValue_of_unmapped {r : Nat} (v : Video) (a : Audio)
    (unmapped : r ∉ [0x00, 0x01, 0x02, 0x03, 0x04, 0x05, 0x06, 0x07, 0x08, 0x10, 0x11, 0x12, 0x13, 0x14, 0x15]) :
    csrValue v a r = 0 := by
  unfold csrValue
  split
  case h_16 => rfl
  all_goals exact absurd (by decide) unmapped

/-- A write to a register without a writable field of the VDE leaves the VDE. -/
theorem writeVideoCsr_of_readOnly {r : Nat} (x : Word) (v : Video) (readOnly : r ∉ [0x00, 0x01, 0x02, 0x08]) :
    writeVideoCsr r x v = v := by
  unfold writeVideoCsr
  split
  case h_5 => rfl
  all_goals exact absurd (by decide) readOnly

/-- A write to a register without a writable field of the ADE leaves the ADE. -/
theorem writeAudioCsr_of_readOnly {r : Nat} (x : Word) (a : Audio) (readOnly : r ∉ [0x10, 0x11, 0x12, 0x15]) :
    writeAudioCsr r x a = a := by
  unfold writeAudioCsr
  split
  case h_5 => rfl
  all_goals exact absurd (by decide) readOnly

theorem extractLsb'_zero_eq_setWidth (n : Nat) (x : Word) : x.extractLsb' 0 n = x.setWidth n :=
  BitVec.ofNat_toNat n x

/-- Settles O15: register by register, the value read is that of its fields. -/
theorem csrRules : Obligations.CsrRules := by
  intro s video audio known frame map
  have values : ∀ e ∈ map, csrValue s.v s.a e.1 = e.2 := by
    simp only [map, List.forall_mem_cons]
    exact ⟨vctrl_eq _, vstatus_eq _, verr_eq _, vsize_eq _, vseq_eq _, vmb_eq _, rfl, vpict_eq _, rfl, actrl_eq _,
      astatus_eq _, aerr_eq _, ahdr_eq _, rfl, rfl, nofun⟩
  refine ⟨fun e listed => ?_, fun r unmapped => ?_, fun x => ⟨?_, ?_, ?_, ?_, ?_, ?_, ?_, ?_, fun r readOnly => ?_⟩⟩
  · rw [exec_csrRead video audio, values e listed]
  · rw [exec_csrRead video audio, csrValue_of_unmapped _ _ unmapped]
  case refine_11 =>
    simp only [List.mem_cons, List.not_mem_nil, or_false, not_or] at readOnly
    rw [exec_csrWrite video audio, writeVideoCsr_of_readOnly _ _ (by simp [readOnly]),
      writeAudioCsr_of_readOnly _ _ (by simp [readOnly])]
  all_goals
    simp only [extractLsb'_zero_eq_setWidth]
    exact exec_csrWrite video audio _ x

end Sys2Proof.Machine
end

section
/-! Every step answers a next state (R1200), and an instruction of one engine neither reads nor changes the other
(R209, R1150, R1212). -/

namespace Sys2Proof.Machine

/-! ### Every step answers (R1200) -/

/-- With both engines idle every host command answers a next state. -/
theorem Instr.OfHost.answers {i : Instr} (host : Instr.OfHost i) {s : State} (video : s.v.pos = .idle)
    (audio : s.a.pos = .idle) : ∃ t, exec i s = .next t := by
  cases host with
  | vwrite | vsignalEnd | vrewind | vframeRead => exact ⟨_, if_pos video⟩
  | awrite | asignalEnd | arewind | asamplesRead => exact ⟨_, if_pos audio⟩
  | vdecode =>
    obtain ⟨t, run, -⟩ := vdecodeEnds s video
    exact ⟨t, run⟩
  | adecode =>
    obtain ⟨t, run, -⟩ := adecodeEnds s audio
    exact ⟨t, run⟩
  | csrRead r => exact ⟨_, exec_csrRead video audio r⟩
  | csrWrite r x => exact ⟨_, exec_csrWrite video audio r x⟩

/-- Settles O20: rows and searches answer in every state, and a command is taken only when both engines are idle. -/
theorem theBlockNeverStops : Obligations.TheBlockNeverStops := by
  intro s
  by_cases video : s.v.pos = .idle
  · by_cases audio : s.a.pos = .idle
    · rcases queue : s.host with _ | ⟨c, rest⟩
      · exact ⟨s, step_of_no_command video audio queue⟩
      · rcases decoded : decodeHost c with e | i
        · exact ⟨_, step_of_refused_command video audio queue decoded⟩
        · rw [step_of_command video audio queue decoded]
          exact (decodeHost_ofHost decoded).answers (s := { s with host := rest }) video audio
    · rcases fetched : fetchAudio s.a with ⟨i, a⟩ | a | _
      · rw [step_of_audio_row video audio fetched]
        rcases fetchAudio_instr fetched with ⟨m, rfl⟩ | ⟨m, rfl⟩
        · exact ⟨_, rfl⟩
        · exact ⟨_, rfl⟩
      · exact ⟨_, by rw [step, if_neg (not_not.2 video), if_pos audio, fetched]; rfl⟩
      · exact ⟨s, by rw [step, if_neg (not_not.2 video), if_pos audio, fetched]⟩
  · rcases fetched : fetchVideo s.v with ⟨i, v⟩ | v | _
    · obtain ⟨e, effect, -⟩ := Video.becomes_of_row fetched
      exact ⟨_, (step_of_video_row video fetched).trans (exec_videoRow_next effect _)⟩
    · exact ⟨_, step_of_video_exhausted video fetched⟩
    · exact ⟨s, by rw [step, if_pos video, fetched]⟩

/-! ### Registers of one engine (R118) -/

/-- The registers of the VDE hold nothing of the ADE. -/
theorem csrValue_of_video {r : Nat} (own : r ≤ 0x08) (v : Video) (a b : Audio) : csrValue v a r = csrValue v b r := by
  interval_cases r <;> rfl

/-- The registers of the ADE hold nothing of the VDE. -/
theorem csrValue_of_audio {r : Nat} (own : 0x10 ≤ r ∧ r ≤ 0x15) (v w : Video) (a : Audio) :
    csrValue v a r = csrValue w a r := by
  obtain ⟨low, high⟩ := own
  interval_cases r <;> rfl

/-- A command of the VDE answers from idle, and only from there (R213). -/
theorem videoCommand_eq_next {f : State → Result} {s t : State} :
    videoCommand f s = .next t ↔ s.v.pos = .idle ∧ f s = .next t :=
  ⟨videoCommand_next, fun ⟨idle, run⟩ => (if_pos idle).trans run⟩

/-- A command of the ADE answers from idle, and only from there (R213). -/
theorem audioCommand_eq_next {f : State → Result} {s t : State} :
    audioCommand f s = .next t ↔ s.a.pos = .idle ∧ f s = .next t :=
  ⟨audioCommand_next, fun ⟨idle, run⟩ => (if_pos idle).trans run⟩

/-- An access to a register of the VDE is a command of the VDE. -/
theorem csrCommand_of_video {r : Nat} (own : r ≤ 0x08) (f : State → Result) (s : State) :
    csrCommand r f s = videoCommand f s := by
  have video : csrOfVideo r = true := decide_eq_true own
  have audio : csrOfAudio r = false := by simp [csrOfAudio]; omega
  simp only [csrCommand, videoCommand, video, audio]
  by_cases idle : s.v.pos = .idle <;> simp [idle]

/-- An access to a register of the ADE is a command of the ADE. -/
theorem csrCommand_of_audio {r : Nat} (own : 0x10 ≤ r ∧ r ≤ 0x15) (f : State → Result) (s : State) :
    csrCommand r f s = audioCommand f s := by
  have video : csrOfVideo r = false := by simp [csrOfVideo]; omega
  have audio : csrOfAudio r = true := by simp [csrOfAudio, own]
  simp only [csrCommand, audioCommand, video, audio]
  by_cases idle : s.a.pos = .idle <;> simp [idle]

theorem exec_csrRead_of_video {r : Nat} (own : r ≤ 0x08) {s t : State} :
    exec (.csrRead r) s = .next t ↔ s.v.pos = .idle ∧ { s with response := some (csrValue s.v s.a r) } = t := by
  show csrCommand r _ s = _ ↔ _
  rw [csrCommand_of_video own, videoCommand_eq_next, returnValue, Host.Outcome.next.injEq]

theorem exec_csrRead_of_audio {r : Nat} (own : 0x10 ≤ r ∧ r ≤ 0x15) {s t : State} :
    exec (.csrRead r) s = .next t ↔ s.a.pos = .idle ∧ { s with response := some (csrValue s.v s.a r) } = t := by
  show csrCommand r _ s = _ ↔ _
  rw [csrCommand_of_audio own, audioCommand_eq_next, returnValue, Host.Outcome.next.injEq]

theorem exec_csrWrite_of_video {r : Nat} (own : r ≤ 0x08) {x : Word} {s t : State} :
    exec (.csrWrite r x) s = .next t ↔
      s.v.pos = .idle ∧ { s with v := writeVideoCsr r x s.v, response := none } = t := by
  show execCsrWrite r x s = _ ↔ _
  unfold execCsrWrite
  rw [csrCommand_of_video own, videoCommand_eq_next, Host.Outcome.next.injEq,
    writeAudioCsr_of_readOnly x s.a (by simp; omega)]

theorem exec_csrWrite_of_audio {r : Nat} (own : 0x10 ≤ r ∧ r ≤ 0x15) {x : Word} {s t : State} :
    exec (.csrWrite r x) s = .next t ↔
      s.a.pos = .idle ∧ { s with a := writeAudioCsr r x s.a, response := none } = t := by
  show execCsrWrite r x s = _ ↔ _
  unfold execCsrWrite
  rw [csrCommand_of_audio own, audioCommand_eq_next, Host.Outcome.next.injEq,
    writeVideoCsr_of_readOnly x s.v (by simp; omega)]

/-! ### The VDE beside another ADE (R1212) -/

/-- The block with another ADE and another queue beside the same VDE. -/
def State.withAudio (a : Audio) (host : List HostCommand) (s : State) : State := { s with a := a, host := host }

section

variable {s t : State} (a : Audio) (host : List HostCommand)

theorem deliverVideo_withAudio (s : State) : deliverVideo (s.withAudio a host) = (deliverVideo s).withAudio a host := by
  by_cases finished : s.v.pos = .finished
  · rw [deliverVideo, deliverVideo, if_pos finished, if_pos (by exact finished)]
    rfl
  · rw [deliverVideo_of_unfinished finished, deliverVideo_of_unfinished (by exact finished)]

theorem videoRow_withAudio {f : Video → Video} (h : videoRow f s = .next t) :
    videoRow f (s.withAudio a host) = .next (t.withAudio a host) := by
  cases h
  exact congrArg Host.Outcome.next (deliverVideo_withAudio a host { s with v := f s.v })

theorem videoElement_withAudio (h : videoElement s = .next t) :
    videoElement (s.withAudio a host) = .next (t.withAudio a host) := by
  have same : fetchVideo (s.withAudio a host).v = fetchVideo s.v := rfl
  rw [videoElement] at h ⊢
  rw [same]
  rcases fetched : fetchVideo s.v with ⟨i, u⟩ | u | _ <;> rw [fetched] at h
  · obtain ⟨e, effect, -⟩ := Video.becomes_of_row fetched
    dsimp only at h ⊢
    rw [runRow_eq_videoRow effect] at h ⊢
    exact videoRow_withAudio a host (s := { s with v := u }) h
  · exact videoRow_withAudio a host (f := fun _ => u.startCodeExhausted) h
  · cases h
    rfl

theorem runVideo_withAudio {k : Nat} (h : runVideo k s = .next t) :
    runVideo k (s.withAudio a host) = .next (t.withAudio a host) := by
  induction k generalizing s with
  | zero => cases h; rfl
  | succ k ih =>
    rw [runVideo] at h ⊢
    split at h
    case isTrue idle =>
      cases h
      exact if_pos idle
    case isFalse busy =>
      rw [if_neg (show (s.withAudio a host).v.pos ≠ .idle from busy)]
      rcases first : videoElement s with u | r | r <;> rw [first] at h
      · rw [videoElement_withAudio a host first]
        exact ih h
      · cases h
      · cases h

/-- A VDECODE runs alike beside any ADE. -/
theorem decodeVideo_withAudio (h : decodeVideo s = .next t) :
    decodeVideo (s.withAudio a host) = .next (t.withAudio a host) := by
  have begun := deliverVideo_withAudio a host { s with v := s.v.beginDecode, response := none }
  have budget := congrArg (fun u : State => videoBudget u.v) begun
  exact (congrArg₂ runVideo budget begun).trans (runVideo_withAudio a host h)

/-- An instruction or a read of the VDE runs alike beside any ADE, and leaves it as it is. -/
theorem exec_withAudio {i : Instr}
    (own : actsOnVideo i = true ∨ (∃ p n, i = .vframeRead p n) ∨ ∃ r ≤ 0x08, i = .csrRead r) (h : exec i s = .next t) :
    exec i (s.withAudio a host) = .next (t.withAudio a host) := by
  rcases Instr.kinds i with command | ⟨m, rfl⟩ | ⟨m, rfl⟩ | ⟨e, effect⟩
  · cases command with
    | vwrite | vsignalEnd | vrewind | vframeRead =>
      obtain ⟨idle, run⟩ := videoCommand_next h
      cases run
      exact if_pos idle
    | vdecode =>
      obtain ⟨idle, run⟩ := videoCommand_next h
      exact (if_pos idle).trans (decodeVideo_withAudio a host run)
    | csrRead r =>
      have low : r ≤ 0x08 := by simpa [actsOnVideo, actsOnAudio, onlyReads] using own
      obtain ⟨idle, rfl⟩ := (exec_csrRead_of_video low).1 h
      exact (exec_csrRead_of_video low).2 ⟨idle, by rw [csrValue_of_video low _ _ s.a]; rfl⟩
    | csrWrite r x =>
      have low : r ≤ 0x08 := by simpa [actsOnVideo, csrOfVideo] using own
      obtain ⟨idle, rfl⟩ := (exec_csrWrite_of_video low).1 h
      exact (exec_csrWrite_of_video low).2 ⟨idle, rfl⟩
    | awrite | asignalEnd | adecode | arewind | asamplesRead => simp [actsOnVideo, actsOnAudio, onlyReads] at own
  · simp [actsOnVideo, actsOnAudio] at own
  · simp [actsOnVideo, actsOnAudio] at own
  · rw [exec_videoRow_next effect] at h ⊢
    exact videoRow_withAudio a host (f := e.apply) h

end

/-! ### The ADE beside another VDE (R1212) -/

/-- The block with another VDE and another queue beside the same ADE. -/
def State.withVideo (v : Video) (host : List HostCommand) (s : State) : State := { s with v := v, host := host }

section

variable {s t : State} (v : Video) (host : List HostCommand)

theorem deliverAudio_withVideo (s : State) : deliverAudio (s.withVideo v host) = (deliverAudio s).withVideo v host := by
  by_cases finished : s.a.pos = .finished
  · rw [deliverAudio, deliverAudio, if_pos finished, if_pos (by exact finished)]
    rfl
  · rw [deliverAudio_of_unfinished finished, deliverAudio_of_unfinished (by exact finished)]

theorem audioRow_withVideo {f : Audio → Audio} (h : audioRow f s = .next t) :
    audioRow f (s.withVideo v host) = .next (t.withVideo v host) := by
  cases h
  exact congrArg Host.Outcome.next (deliverAudio_withVideo v host { s with a := f s.a })

theorem audioElement_withVideo (h : audioElement s = .next t) :
    audioElement (s.withVideo v host) = .next (t.withVideo v host) := by
  have same : fetchAudio (s.withVideo v host).a = fetchAudio s.a := rfl
  rw [audioElement] at h ⊢
  rw [same]
  rcases fetched : fetchAudio s.a with ⟨i, b⟩ | b | _ <;> rw [fetched] at h
  · rcases fetchAudio_instr fetched with ⟨m, rfl⟩ | ⟨m, rfl⟩
    · exact audioRow_withVideo v host (f := .headerRow m) (s := { s with a := b }) h
    · exact audioRow_withVideo v host (f := .otherHeaderRow m) (s := { s with a := b }) h
  · exact audioRow_withVideo v host (f := fun _ => b) h
  · cases h
    rfl

/-- An ADECODE runs alike beside any VDE. -/
theorem decodeAudio_withVideo (h : decodeAudio s = .next t) :
    decodeAudio (s.withVideo v host) = .next (t.withVideo v host) := by
  have begun := deliverAudio_withVideo v host { s with a := s.a.beginDecode, response := none }
  refine (congrArg runAudio begun).trans ?_
  unfold decodeAudio runAudio at h
  split at h
  case isTrue idle =>
    cases h
    exact if_pos idle
  case isFalse busy => exact (if_neg busy).trans (audioElement_withVideo v host h)

/-- A row of the video stream does not act on the ADE (R1150). -/
theorem actsOnAudio_of_videoEffect {i : Instr} {e : VideoEffect} (effect : videoEffect i = some e) :
    actsOnAudio i = false := by
  cases i
  case awrite | asignalEnd | adecode | arewind | csrWrite | mp2Header | mp2SyncOther => cases effect
  all_goals rfl

/-- An instruction or a read of the ADE runs alike beside any VDE, and leaves it as it is. -/
theorem exec_withVideo {i : Instr} (own : actsOnAudio i = true ∨ (∃ n, i = .asamplesRead n) ∨
    ∃ r, 0x10 ≤ r ∧ r ≤ 0x15 ∧ i = .csrRead r) (h : exec i s = .next t) :
    exec i (s.withVideo v host) = .next (t.withVideo v host) := by
  rcases Instr.kinds i with command | ⟨m, rfl⟩ | ⟨m, rfl⟩ | ⟨e, effect⟩
  · cases command with
    | awrite | asignalEnd | arewind | asamplesRead =>
      obtain ⟨idle, run⟩ := audioCommand_next h
      cases run
      exact if_pos idle
    | adecode =>
      obtain ⟨idle, run⟩ := audioCommand_next h
      exact (if_pos idle).trans (decodeAudio_withVideo v host run)
    | csrRead r =>
      have inside : 0x10 ≤ r ∧ r ≤ 0x15 := by simpa [actsOnAudio] using own
      obtain ⟨idle, rfl⟩ := (exec_csrRead_of_audio inside).1 h
      exact (exec_csrRead_of_audio inside).2 ⟨idle, by rw [csrValue_of_audio inside _ s.v]; rfl⟩
    | csrWrite r x =>
      have inside : 0x10 ≤ r ∧ r ≤ 0x15 := by simpa [actsOnAudio, csrOfAudio] using own
      obtain ⟨idle, rfl⟩ := (exec_csrWrite_of_audio inside).1 h
      exact (exec_csrWrite_of_audio inside).2 ⟨idle, rfl⟩
    | vwrite | vsignalEnd | vdecode | vrewind | vframeRead => simp [actsOnAudio] at own
  · exact audioRow_withVideo v host (f := .headerRow m) h
  · exact audioRow_withVideo v host (f := .otherHeaderRow m) h
  · rcases own with own | ⟨n, rfl⟩ | ⟨r, -, -, rfl⟩
    · rw [actsOnAudio_of_videoEffect effect] at own
      cases own
    · cases effect
    · cases effect

end

/-! ### Both engines -/

/-- A host read changes neither engine (R209). -/
theorem exec_of_onlyReads {i : Instr} (reads : onlyReads i = true) {s t : State} (h : exec i s = .next t) :
    t.v = s.v ∧ t.a = s.a := by
  cases i
  case vframeRead =>
    cases (videoCommand_next h).2
    exact ⟨rfl, rfl⟩
  case asamplesRead =>
    cases (audioCommand_next h).2
    exact ⟨rfl, rfl⟩
  case csrRead =>
    cases csrCommand_next h
    exact ⟨rfl, rfl⟩
  all_goals cases reads

/-- Settles O26: what runs alike beside any other engine leaves that engine as it is. -/
theorem enginesAreIndependent : Obligations.EnginesAreIndependent := by
  intro i s t h
  refine ⟨fun own => ?_, fun own => ?_, fun reads => exec_of_onlyReads reads h, fun u same response own => ?_,
    fun u same response own => ?_⟩
  · have alike : exec i s = .next (t.withAudio s.a s.host) := exec_withAudio s.a s.host (.inl own) h
    have same := Host.Outcome.next.inj (h.symm.trans alike)
    exact (congrArg State.a same :)
  · have alike : exec i s = .next (t.withVideo s.v s.host) := exec_withVideo s.v s.host (.inl own) h
    have same := Host.Outcome.next.inj (h.symm.trans alike)
    exact (congrArg State.v same :)
  · have beside : u = s.withAudio u.a u.host := by rw [State.withAudio, ← same, ← response]
    rw [beside]
    exact ⟨_, exec_withAudio u.a u.host own h, rfl, rfl, rfl⟩
  · have beside : u = s.withVideo u.v u.host := by rw [State.withVideo, ← same, ← response]
    rw [beside]
    exact ⟨_, exec_withVideo u.v u.host own h, rfl, rfl, rfl⟩

end Sys2Proof.Machine
end

section
/-! What no instruction clears: the error bits, the error counters and the accepted headers of both engines (R117,
R1201, R1209). -/

namespace Sys2Proof.Machine

/-! ### The VDE (R1201) -/

/-- No error of the VDE and no accepted sequence header is lost. -/
structure Video.KeepsErrors (v w : Video) : Prop where
  errors : v.verr &&& w.verr = v.verr
  count : v.verrcnt.toNat ≤ w.verrcnt.toNat
  header : v.hasSequenceHeader = true → w.hasSequenceHeader = true

theorem Video.KeepsErrors.refl (v : Video) : v.KeepsErrors v := ⟨BitVec.and_self, le_rfl, id⟩

theorem Video.KeepsErrors.trans {u v w : Video} (h : u.KeepsErrors v) (k : v.KeepsErrors w) : u.KeepsErrors w :=
  ⟨by rw [← h.errors, BitVec.and_assoc, k.errors], h.count.trans k.count, k.header ∘ h.header⟩

/-- Whatever else changes, the error registers and the header flag do not. -/
theorem Video.KeepsErrors.same {v w : Video} (errors : w.verr = v.verr) (count : w.verrcnt = v.verrcnt)
    (header : w.hasSequenceHeader = v.hasSequenceHeader) : v.KeepsErrors w :=
  ⟨by rw [errors, BitVec.and_self], by rw [count], by rw [header]; exact id⟩

theorem Video.Advances.keepsErrors {v w : Video} (h : v.Advances w) : v.KeepsErrors w := ⟨h.errors, h.count, h.header⟩

/-- An element moves the reader of its search, and then advances (R407, R501). -/
theorem Video.Element.keepsErrors {v w : Video} (h : v.Element w) : v.KeepsErrors w := by
  have searched (br : BitReader) : v.KeepsErrors { v with br := br } := .same rfl rfl rfl
  cases h with
  | row i e u fetched effect result =>
    rw [result]
    rcases fetchVideo_row fetched with ⟨-, x, br, -, -, rfl⟩ | ⟨p, rest, -, -, -, rfl⟩
    · exact (searched br).trans (e.apply_advances _).keepsErrors
    · exact (e.apply_advances u).keepsErrors
  | exhausted u fetched result =>
    rw [result]
    obtain ⟨-, br, -, rfl⟩ := fetchVideo_exhausted fetched
    exact (searched br).trans (startCodeExhausted_advances _).keepsErrors

theorem Video.delivered_keepsErrors (v : Video) : v.KeepsErrors v.delivered := by
  unfold Video.delivered
  split <;> exact .same rfl rfl rfl

theorem Video.beginDecode_keepsErrors (v : Video) : v.KeepsErrors v.beginDecode := by
  have cleared : v.KeepsErrors v.cleared := .same rfl rfl rfl
  rw [Video.beginDecode_eq]
  split
  · exact cleared.trans (pictureLoop_advances v.cleared).keepsErrors
  · exact cleared.trans (sequenceLoop_advances v.cleared).keepsErrors

/-- A VDECODE keeps every error, and leaves the ADE. -/
theorem decodeVideo_keepsErrors {s t : State} (h : decodeVideo s = .next t) : s.v.KeepsErrors t.v := by
  refine runVideo_keeps (P := fun u => s.v.KeepsErrors u.v) (fun {u w} e keeps => ?_) h ?_
  · rw [deliverVideo_v]
    exact keeps.trans (e.keepsErrors.trans w.delivered_keepsErrors)
  · rw [deliverVideo_v]
    exact s.v.beginDecode_keepsErrors.trans s.v.beginDecode.delivered_keepsErrors

/-! ### The ADE: samples and frames (R1007, R1008, R1201) -/

/-- No error of the ADE and no accepted header is lost. -/
structure Audio.KeepsErrors (a b : Audio) : Prop where
  errors : a.aerr &&& b.aerr = a.aerr
  count : a.aerrcnt.toNat ≤ b.aerrcnt.toNat
  header : a.hasHeader = true → b.hasHeader = true

theorem Audio.KeepsErrors.refl (a : Audio) : a.KeepsErrors a := ⟨BitVec.and_self, le_rfl, id⟩

theorem Audio.KeepsErrors.trans {a b c : Audio} (h : a.KeepsErrors b) (k : b.KeepsErrors c) : a.KeepsErrors c :=
  ⟨by rw [← h.errors, BitVec.and_assoc, k.errors], h.count.trans k.count, k.header ∘ h.header⟩

/-- Whatever else changes, the error registers and the header flag do not. -/
theorem Audio.KeepsErrors.same {a b : Audio} (errors : b.aerr = a.aerr) (count : b.aerrcnt = a.aerrcnt)
    (header : b.hasHeader = a.hasHeader) : a.KeepsErrors b :=
  ⟨by rw [errors, BitVec.and_self], by rw [count], by rw [header]; exact id⟩

theorem Audio.raise_keepsErrors (c : AudioCause) (a : Audio) : a.KeepsErrors (a.raise c) := by
  refine ⟨?_, le_countError _, id⟩
  rw [raise_aerr]
  ext i
  simp only [BitVec.getElem_and, BitVec.getElem_or]
  cases a.aerr[i] <;> rfl

/-- A cause is raised, and whatever else changes, the error registers and the header flag do not. -/
theorem Audio.KeepsErrors.raised {a b : Audio} (c : AudioCause) (errors : b.aerr = (a.raise c).aerr)
    (count : b.aerrcnt = (a.raise c).aerrcnt) (header : b.hasHeader = a.hasHeader) : a.KeepsErrors b :=
  (a.raise_keepsErrors c).trans (.same errors count header)

theorem Audio.foldl_keepsErrors {α : Type} {f : Audio → α → Audio} (step : ∀ (b : Audio) x, b.KeepsErrors (f b x))
    (l : List α) (a : Audio) : a.KeepsErrors (l.foldl f a) :=
  List.foldlRecOn l f (.refl a) fun b keeps x _ => keeps.trans (step b x)

theorem Audio.readCodes_keepsErrors (q : QuantClass) (a : Audio) : a.KeepsErrors (a.readCodes q).2 := by
  unfold Audio.readCodes
  dsimp only
  split
  · split
    · exact .raised .groupedCodeRange rfl rfl rfl
    · exact .same rfl rfl rfl
  · exact .same rfl rfl rfl

theorem Audio.requantizeTriple_keepsErrors (q : QuantClass) (codes : List Nat) (ch sb part : Nat) (a : Audio) :
    a.KeepsErrors (a.requantizeTriple q codes ch sb part) := by
  unfold Audio.requantizeTriple
  dsimp only
  split
  · exact .raised .scalefactor63 rfl rfl rfl
  · exact .same rfl rfl rfl

theorem Audio.readTriple_keepsErrors (part ch sb : Nat) (a : Audio) : a.KeepsErrors (a.readTriple part ch sb) := by
  unfold Audio.readTriple
  split
  · exact .same rfl rfl rfl
  · exact (readCodes_keepsErrors _ a).trans (requantizeTriple_keepsErrors ..)

theorem Audio.readSharedTriple_keepsErrors (part : Nat) (a : Audio) (sb : Nat) :
    a.KeepsErrors (a.readSharedTriple part sb) := by
  unfold Audio.readSharedTriple
  split
  · exact .same rfl rfl rfl
  · rename_i q _
    have first := (readCodes_keepsErrors q a).trans (requantizeTriple_keepsErrors q (a.readCodes q).1 0 sb part _)
    dsimp only
    split
    · exact first
    · split
      · exact first.trans (requantizeTriple_keepsErrors ..)
      · exact first.trans (.same rfl rfl rfl)

/-- Only the triples of a granule raise causes (R1006). -/
theorem Audio.decodeGranule_keepsErrors (part granule : Nat) (a : Audio) :
    a.KeepsErrors (a.decodeGranule part granule) := by
  have separate : a.KeepsErrors (a.forBands (numbersFrom 0 a.effectiveBound) (readTriple part)) := by
    rw [forBands_eq_foldl]
    exact foldl_keepsErrors (fun b (e : Nat × Nat) => b.readTriple_keepsErrors part e.1 e.2) _ a
  have triples : a.KeepsErrors (a.triplesRead part) :=
    separate.trans (foldl_keepsErrors (readSharedTriple_keepsErrors part) _ _)
  have samples : (a.triplesRead part).KeepsErrors (a.granuleSamples part) := by
    rw [a.granuleSamples_only part]
    exact .same rfl rfl rfl
  have synthesis : (a.granuleSamples part).KeepsErrors ((a.granuleSamples part).synthesized part granule 3) :=
    foldl_keepsErrors (fun b k => .same (b.synthesisStep_aerr part granule k) (b.synthesisStep_aerrcnt part granule k)
      (b.synthesisStep_hasHeader part granule k)) _ _
  rw [decodeGranule_eq]
  exact (triples.trans samples).trans synthesis

theorem Audio.decodeFrame_keepsErrors (a : Audio) : a.KeepsErrors a.decodeFrame := by
  have tables : a.KeepsErrors a.tablesRead := by
    rw [a.tablesRead_only]
    exact .same rfl rfl rfl
  have granules : a.tablesRead.KeepsErrors a.tablesRead.granulesDecoded :=
    foldl_keepsErrors (fun b i => b.decodeGranule_keepsErrors (i / 4) (i % 4)) _ _
  rw [decodeFrame_eq]
  generalize a.tablesRead.granulesDecoded = b at granules ⊢
  exact (tables.trans granules).trans (.same rfl rfl rfl)

/-! ### The ADE: headers and their search (R901-R909) -/

theorem Audio.decodeBody_keepsErrors (a : Audio) : a.KeepsErrors a.decodeBody := by
  have tested (br : BitReader) : a.KeepsErrors { a with br := br } := .same rfl rfl rfl
  unfold Audio.decodeBody
  split
  · exact .same rfl rfl rfl
  · dsimp only
    split
    · have frame := (tested _).trans
        (decodeFrame_keepsErrors { a with br := (a.br.has (8 * a.nextFrameDataSize.toNat)).2 })
      generalize Audio.decodeFrame _ = b at frame ⊢
      exact frame.trans (.same rfl rfl rfl)
    · exact .same rfl rfl rfl

theorem Audio.rejectHeader_keepsErrors (c : AudioCause) (a : Audio) : a.KeepsErrors (a.rejectHeader c) :=
  .raised c rfl rfl rfl

/-- An accepted header stays accepted, and one that is latched is (R905). -/
theorem Audio.latchHeader_keepsErrors (h : Mp2Header) (a : Audio) : a.KeepsErrors (a.latchHeader h) :=
  ⟨BitVec.and_self, le_rfl, fun _ => rfl⟩

theorem Audio.headerRow_keepsErrors (h : Mp2Header) (a : Audio) : a.KeepsErrors (a.headerRow h) := by
  have read (br : BitReader) : a.KeepsErrors { a with br := br } := .same rfl rfl rfl
  unfold Audio.headerRow
  dsimp only
  split
  · exact (read _).trans (rejectHeader_keepsErrors ..)
  · split
    · exact (read _).trans (rejectHeader_keepsErrors ..)
    · split
      · exact (read _).trans (rejectHeader_keepsErrors ..)
      · exact (read _).trans ((latchHeader_keepsErrors h _).trans (decodeBody_keepsErrors _))

theorem Audio.otherHeaderRow_keepsErrors (h : Mp2SyncOther) (a : Audio) : a.KeepsErrors (a.otherHeaderRow h) :=
  .raised .versionLayer rfl rfl rfl

/-- A search changes the reader, and raises AudioResync at most (R903). -/
theorem Audio.Searched.keepsErrors {a b : Audio} (h : a.Searched b) : a.KeepsErrors b := by
  obtain ⟨-, same | raised⟩ := h
  · rw [same]
    exact .same rfl rfl rfl
  · rw [raised]
    exact .raised .resync rfl rfl rfl

/-- What a header search finds has every error of the engine that searched. -/
def AudioFetch.KeepsErrors (a : Audio) : AudioFetch → Prop
  | .row _ b => a.KeepsErrors b
  | .ended b => a.KeepsErrors b
  | .nothing => True

theorem fetchAudio_keepsErrors (a : Audio) : (fetchAudio a).KeepsErrors a := by
  by_cases p : a.pos = .header
  · rcases fetchAudio_cases p with ⟨i, b, row, found⟩ | ⟨b, ended, found⟩
    · rw [row]
      exact found.keepsErrors
    · rw [ended]
      exact found.keepsErrors.trans (.same rfl rfl rfl)
  · have nothing : fetchAudio a = .nothing := by
      unfold fetchAudio
      split
      · exact absurd ‹_› p
      · rfl
    rw [nothing]
    trivial

theorem Audio.Becomes.keepsErrors {a b : Audio} (h : a.Becomes b) : a.KeepsErrors b := by
  have found := fetchAudio_keepsErrors a
  cases h with
  | header m u fetched => rw [fetched] at found; exact found.trans (u.headerRow_keepsErrors m)
  | otherHeader m u fetched => rw [fetched] at found; exact found.trans (u.otherHeaderRow_keepsErrors m)
  | ended u fetched => rw [fetched] at found; exact found

theorem Audio.delivered_keepsErrors (a : Audio) : a.KeepsErrors a.delivered := by
  unfold Audio.delivered
  split <;> exact .same rfl rfl rfl

theorem Audio.beginDecode_keepsErrors (a : Audio) : a.KeepsErrors a.beginDecode := by
  have cleared : a.KeepsErrors a.cleared := .same rfl rfl rfl
  unfold Audio.beginDecode
  dsimp only
  split
  · split <;> exact .same rfl rfl rfl
  · exact cleared.trans (decodeBody_keepsErrors a.cleared)

/-- An ADECODE keeps every error, and leaves the VDE. -/
theorem decodeAudio_keepsErrors {s t : State} (h : decodeAudio s = .next t) : s.a.KeepsErrors t.a := by
  have begun := s.a.beginDecode_keepsErrors.trans s.a.beginDecode.delivered_keepsErrors
  obtain ⟨-, audio | ⟨c, becomes, audio⟩⟩ := decodeAudio_cases h
  · rw [audio]
    exact begun
  · rw [audio]
    exact begun.trans (becomes.keepsErrors.trans c.delivered_keepsErrors)

/-! ### The host's own writes (R118, R1159) -/

/-- A write to a register of the VDE clears no error bit and no counter but those of that register. -/
theorem writeVideoCsr_keeps (r : Nat) (x : Word) (v : Video) :
    (r ≠ 0x02 → (writeVideoCsr r x v).verr = v.verr) ∧ (r ≠ 0x08 → (writeVideoCsr r x v).verrcnt = v.verrcnt) ∧
      (writeVideoCsr r x v).hasSequenceHeader = v.hasSequenceHeader := by
  unfold writeVideoCsr
  split
  case h_3 => exact ⟨fun other => absurd rfl other, fun _ => rfl, rfl⟩
  case h_4 => exact ⟨fun _ => rfl, fun other => absurd rfl other, rfl⟩
  all_goals exact ⟨fun _ => rfl, fun _ => rfl, rfl⟩

/-- A write to a register of the ADE clears no error bit and no counter but those of that register. -/
theorem writeAudioCsr_keeps (r : Nat) (x : Word) (a : Audio) :
    (r ≠ 0x12 → (writeAudioCsr r x a).aerr = a.aerr) ∧ (r ≠ 0x15 → (writeAudioCsr r x a).aerrcnt = a.aerrcnt) ∧
      (writeAudioCsr r x a).hasHeader = a.hasHeader := by
  unfold writeAudioCsr
  split
  case h_3 => exact ⟨fun other => absurd rfl other, fun _ => rfl, rfl⟩
  case h_4 => exact ⟨fun _ => rfl, fun other => absurd rfl other, rfl⟩
  all_goals exact ⟨fun _ => rfl, fun _ => rfl, rfl⟩

/-! ### Every instruction -/

/-- Everything but a register write keeps every error of both engines. -/
theorem exec_keepsErrors {i : Instr} (other : ∀ r x, i ≠ .csrWrite r x) {s t : State} (h : exec i s = .next t) :
    s.v.KeepsErrors t.v ∧ s.a.KeepsErrors t.a := by
  have v := Video.KeepsErrors.refl s.v
  have a := Audio.KeepsErrors.refl s.a
  rcases Instr.kinds i with command | ⟨m, rfl⟩ | ⟨m, rfl⟩ | ⟨e, effect⟩
  · cases command with
    | vwrite | vsignalEnd | vrewind | vframeRead => cases (videoCommand_next h).2; exact ⟨.same rfl rfl rfl, a⟩
    | awrite | asignalEnd | arewind | asamplesRead => cases (audioCommand_next h).2; exact ⟨v, .same rfl rfl rfl⟩
    | vdecode =>
      have run := (videoCommand_next h).2
      exact ⟨decodeVideo_keepsErrors run, (decodeVideo_bytes run).2 ▸ a⟩
    | adecode =>
      have run := (audioCommand_next h).2
      exact ⟨(decodeAudio_cases run).1 ▸ v, decodeAudio_keepsErrors run⟩
    | csrRead r => cases csrCommand_next h; exact ⟨v, a⟩
    | csrWrite r x => exact absurd rfl (other r x)
  · cases h
    simp only [deliverAudio_v, deliverAudio_a]
    exact ⟨v, (s.a.headerRow_keepsErrors m).trans (Audio.delivered_keepsErrors _)⟩
  · cases h
    simp only [deliverAudio_v, deliverAudio_a]
    exact ⟨v, (s.a.otherHeaderRow_keepsErrors m).trans (Audio.delivered_keepsErrors _)⟩
  · rw [exec_videoRow_next effect] at h
    cases h
    simp only [deliverVideo_v, deliverVideo_a]
    exact ⟨(e.apply_advances s.v).keepsErrors.trans (Video.delivered_keepsErrors _), a⟩

/-- Settles O28: register writes by their register, every other instruction by `exec_keepsErrors`. -/
theorem whatNoInstructionClears : Obligations.WhatNoInstructionClears := by
  intro i s t h
  by_cases write : ∃ r x, i = .csrWrite r x
  · obtain ⟨r, x, rfl⟩ := write
    have h : execCsrWrite r x s = .next t := h
    unfold execCsrWrite at h
    cases csrCommand_next h
    obtain ⟨verr, verrcnt, sequence⟩ := writeVideoCsr_keeps r x s.v
    obtain ⟨aerr, aerrcnt, header⟩ := writeAudioCsr_keeps r x s.a
    have number {n : Nat} (other : ∀ y, Instr.csrWrite r x ≠ .csrWrite n y) : r ≠ n := by
      rintro rfl
      exact other x rfl
    dsimp only
    rw [sequence, header]
    exact ⟨fun o => by rw [verr (number o), BitVec.and_self], fun o => by rw [aerr (number o), BitVec.and_self],
      fun o => by rw [verrcnt (number o)], fun o => by rw [aerrcnt (number o)], id, id⟩
  · obtain ⟨v, a⟩ := exec_keepsErrors (fun r x same => write ⟨r, x, same⟩) h
    exact ⟨fun _ => v.errors, fun _ => a.errors, fun _ => v.count, fun _ => a.count, v.header, a.header⟩

end Sys2Proof.Machine
end

section
/-! Products with cosines in exact arithmetic, and sums over the entries that are not 0 (R1101, R1102). -/

namespace Sys2Proof.Machine

/-! ### Cosines of multiples of `pi / 64` -/

/-- A cosine of any multiple of `pi / 64` is, up to its sign, one of the first 32, or 0. -/
theorem reduceCosine_spec (m : Nat) : (reduceCosine m).1 < 32 ∧
    Real.cos (m * Real.pi / 64) = (reduceCosine m).2 * Real.cos ((reduceCosine m).1 * Real.pi / 64) := by
  have period : Real.cos (m * Real.pi / 64) = Real.cos ((m % 128 : Nat) * Real.pi / 64) := by
    have parts : (m : ℝ) = 128 * ((m / 128 : Nat) : ℝ) + ((m % 128 : Nat) : ℝ) := by
      exact_mod_cast (Nat.div_add_mod m 128).symm
    have turns : (m : ℝ) * Real.pi / 64 = (m % 128 : Nat) * Real.pi / 64 + (m / 128 : Nat) * (2 * Real.pi) := by
      rw [parts]
      ring
    rw [turns, Real.cos_add_nat_mul_two_pi]
  have even : Real.cos ((m % 128 : Nat) * Real.pi / 64) =
      Real.cos ((if 64 < m % 128 then 128 - m % 128 else m % 128 : Nat) * Real.pi / 64) := by
    split
    case isTrue high =>
      rw [← Real.cos_two_pi_sub, Nat.cast_sub (by omega)]
      congr 1
      push_cast
      ring
    case isFalse => rfl
  have half : (if 64 < m % 128 then 128 - m % 128 else m % 128) ≤ 64 := by split <;> omega
  rw [period, even, reduceCosine]
  generalize (if 64 < m % 128 then 128 - m % 128 else m % 128) = r at half ⊢
  split
  case isTrue low => exact ⟨low, by simp⟩
  case isFalse high =>
    split
    case isTrue middle =>
      refine ⟨by norm_num, ?_⟩
      rw [middle, Int.cast_zero, zero_mul, ← Real.cos_pi_div_two]
      congr 1
      push_cast
      ring
    case isFalse other =>
      refine ⟨by dsimp only; omega, ?_⟩
      rw [Nat.cast_sub half, Int.cast_neg, Int.cast_one, neg_one_mul, ← Real.cos_pi_sub]
      congr 1
      push_cast
      ring

/-! ### Products with cosines -/

/-- The real number of a key, by its parts. -/
theorem surdUnit_eq {t : Nat} (h : t < 3) (c : Nat) :
    surdUnit (3 * c + t) = Real.cos (c * Real.pi / 64) * (2 : ℝ) ^ ((t : ℝ) / 3) := by
  rw [surdUnit, show (3 * c + t) / 3 = c by omega, show (3 * c + t) % 3 = t by omega]

/-- A multiple of any cosine added. -/
theorem surdValue_addCosine {t : Nat} (h : t < 3) (m : Nat) (q : Rat) (x : Surd) :
    surdValue (addCosine m t q x) =
      q * (Real.cos (m * Real.pi / 64) * (2 : ℝ) ^ ((t : ℝ) / 3)) + surdValue x := by
  rw [addCosine, surdValue_addTerm, surdUnit_eq h, (reduceCosine_spec m).2]
  push_cast
  ring

/-- One entry of a product: `cos a * cos b = (cos (a + b) + cos (a - b)) / 2`. -/
theorem surdValue_addProduct {k : Nat} (h : k < 96) (m : Nat) (q : Rat) (x : Surd) :
    surdValue (addCosine (m + k / 3) (k % 3) (q / 2) (addCosine (m + 128 - k / 3) (k % 3) (q / 2) x)) =
      Real.cos (m * Real.pi / 64) * (q * surdUnit k) + surdValue x := by
  have small : k % 3 < 3 := Nat.mod_lt k (by norm_num)
  have sum : Real.cos ((m + k / 3 : Nat) * Real.pi / 64) =
      Real.cos (m * Real.pi / 64 + (k / 3 : Nat) * Real.pi / 64) := by
    congr 1
    push_cast
    ring
  have difference : Real.cos ((m + 128 - k / 3 : Nat) * Real.pi / 64) =
      Real.cos (m * Real.pi / 64 - (k / 3 : Nat) * Real.pi / 64) := by
    rw [← Real.cos_add_two_pi (_ - _), Nat.cast_sub (by omega)]
    congr 1
    push_cast
    ring
  rw [surdValue_addCosine small, surdValue_addCosine small, sum, difference, Real.cos_add, Real.cos_sub, surdUnit]
  push_cast
  ring

/-- A product with a cosine. -/
theorem surdValue_mulCosine (m : Nat) {x : Surd} (bounded : surdBounded x = true) :
    surdValue (mulCosine m x) = Real.cos (m * Real.pi / 64) * surdValue x := by
  have from_ (y : Surd) : surdValue (x.foldl (fun sum e =>
      addCosine (m + e.1 / 3) (e.1 % 3) (e.2 / 2) (addCosine (m + 128 - e.1 / 3) (e.1 % 3) (e.2 / 2) sum)) y) =
        Real.cos (m * Real.pi / 64) * surdValue x + surdValue y := by
    induction x generalizing y with
    | nil => simp
    | cons e x ih =>
      obtain ⟨key, rest⟩ := (surdBounded_cons e x).1 bounded
      rw [List.foldl_cons, ih rest, surdValue_addProduct key, surdValue_cons]
      ring
  exact (from_ []).trans (by rw [surdValue_nil, add_zero])

/-! ### Sums that leave out the entries that are 0 -/

/-- A sum over the numbers that are not 0, each with its key, is one over all of them. -/
theorem sum_filterMap_nonzero {α : Type} (l : List α) (key : α → Nat) (number : α → Surd) (term : Nat → Surd → ℝ)
    (zero : ∀ n, term n [] = 0) :
    ((l.filterMap fun x => if (number x).isEmpty then none else some (key x, number x)).map
      fun e => term e.1 e.2).sum = (l.map fun x => term (key x) (number x)).sum := by
  induction l with
  | nil => rfl
  | cons x l ih =>
    rw [List.map_cons, List.sum_cons, ← ih, List.filterMap_cons]
    rcases empty : number x with _ | ⟨e, y⟩
    · simp [zero]
    · simp

theorem sum_map_range (n : Nat) (f : Nat → ℝ) : ((List.range n).map f).sum = ∑ i ∈ Finset.range n, f i := rfl

end Sys2Proof.Machine
end

section
/-! One synthesis step in real numbers: shift, matrixing and windowing (R1100-R1102, R1104). -/

namespace Sys2Proof.Machine

/-! ### Matrixing (R1101) -/

/-- The cosine of subband `sb` in word `i`: only the multiple modulo 128 matters. -/
theorem cos_matrix (i sb : Nat) : Real.cos (((16 + i) * (2 * sb + 1) % 128 : Nat) * Real.pi / 64) =
    Real.cos ((16 + i) * (2 * sb + 1) * Real.pi / 64) := by
  have reduced : reduceCosine ((16 + i) * (2 * sb + 1) % 128) = reduceCosine ((16 + i) * (2 * sb + 1)) := by
    rw [reduceCosine, reduceCosine, Nat.mod_mod]
  rw [(reduceCosine_spec _).2, reduced, ← (reduceCosine_spec _).2]
  push_cast
  rfl

/-- A matrixed word is the sum over its subbands. -/
theorem surdValue_matrixWord (input : List (Nat × Surd)) (bounded : ∀ e ∈ input, surdBounded e.2 = true) (i : Nat) :
    surdValue (matrixWord input i) =
      (input.map fun e => Real.cos ((16 + i) * (2 * e.1 + 1) * Real.pi / 64) * surdValue e.2).sum := by
  have from_ (y : Surd) : surdValue (input.foldl
      (fun sum e => addSurd (mulCosine ((16 + i) * (2 * e.1 + 1) % 128) e.2) sum) y) =
      (input.map fun e => Real.cos ((16 + i) * (2 * e.1 + 1) * Real.pi / 64) * surdValue e.2).sum + surdValue y := by
    induction input generalizing y with
    | nil => simp
    | cons e l ih =>
      obtain ⟨head, tail⟩ := List.forall_mem_cons.1 bounded
      rw [List.foldl_cons, ih tail, surdValue_addSurd, surdValue_mulCosine _ head, cos_matrix, List.map_cons,
        List.sum_cons]
      ring
  exact (from_ []).trans (by rw [surdValue_nil, add_zero])

/-- Every sample of the register file is bounded, so each that is read is, and 0 in place of none. -/
theorem surdBounded_getD {l : List Surd} (bounded : ∀ x ∈ l, surdBounded x = true) (n : Nat) :
    surdBounded (l.getD n []) = true := by
  rw [List.getD_eq_getElem?_getD]
  rcases stands : l[n]? with _ | x
  · rfl
  · exact bounded x (List.mem_of_getElem? stands)

/-- A matrixed word is the cosine sum of the 32 subband samples (R1101). -/
theorem Audio.matrixWord_value {a : Audio} (bounded : ∀ x ∈ a.sample, surdBounded x = true) (ch k i : Nat) :
    surdValue (matrixWord (a.subbandInput ch k) i) =
      ∑ sb ∈ Finset.range 32, Real.cos ((16 + i) * (2 * sb + 1) * Real.pi / 64) *
        surdValue (a.sample.getD (3 * (32 * ch + sb) + k) []) := by
  have inputs : ∀ e ∈ a.subbandInput ch k, surdBounded e.2 = true := by
    intro e listed
    obtain ⟨sb, -, made⟩ := List.mem_filterMap.1 listed
    dsimp only at made
    split at made
    · cases made
    · cases made
      exact surdBounded_getD bounded _
  rw [surdValue_matrixWord _ inputs, Audio.subbandInput, ← sum_map_range]
  exact sum_filterMap_nonzero (List.range 32) id (fun sb => a.sample.getD (3 * (32 * ch + sb) + k) [])
    (fun sb x => Real.cos ((16 + i) * (2 * sb + 1) * Real.pi / 64) * surdValue x) (by simp)

/-! ### Where the matrixed words stand (R1101, R1102) -/

theorem matrixVector_length (input : List (Nat × Surd)) : (matrixVector input).length = 64 := by simp [matrixVector]

theorem matrixVector_getD (input : List (Nat × Surd)) {i : Nat} (h : i < 64) :
    (matrixVector input).getD i [] = matrixWord input i := by
  simp [matrixVector, List.getD_eq_getElem?_getD, h]

/-- With the offset a multiple of 64, the 64 words at the new offset do not wrap around. -/
theorem vPos_room {x : BitVec 10} (aligned : x.toNat % 64 = 0) : (x - 64).toNat + 64 ≤ 1024 := by
  have := vPos_sub_64 aligned
  omega

/-- The words at the new offset are the matrixed ones. -/
theorem Audio.matrixing_delay_of_inside {a : Audio} (k : Nat) {ch i : Nat} (channel : ch < 2)
    (size : a.delay.length = 2048) (aligned : a.vPos.toNat % 64 = 0) (inside : i < 64) :
    (a.matrixing k).delay.getD (1024 * ch + (a.vPos - 64).toNat + i) [] = matrixWord (a.subbandInput ch k) i := by
  have room := vPos_room aligned
  have length (c : Nat) := matrixVector_length (a.subbandInput c k)
  rw [← matrixVector_getD _ inside]
  show (splice (splice ..) ..).getD _ _ = _
  obtain rfl | rfl : ch = 0 ∨ ch = 1 := by omega
  · rw [splice_getD_of_outside (by omega), Nat.mul_zero, Nat.zero_add,
      splice_getD_of_inside (by rw [length]; exact inside) (by omega)]
  · rw [Nat.mul_one, splice_getD_of_inside (by rw [length]; exact inside) (by rw [splice_length]; omega)]

/-- No other word of the delay line changes. -/
theorem Audio.matrixing_delay_of_outside {a : Audio} (k ch : Nat) {n : Nat} (aligned : a.vPos.toNat % 64 = 0)
    (inside : n < 1024)
    (outside : n < (a.vPos - 64).toNat ∨ (a.vPos - 64).toNat + 64 ≤ n) :
    (a.matrixing k).delay.getD (1024 * ch + n) [] = a.delay.getD (1024 * ch + n) [] := by
  have room := vPos_room aligned
  have length (c : Nat) := matrixVector_length (a.subbandInput c k)
  show (splice (splice ..) ..).getD _ _ = _
  rw [splice_getD_of_outside (by rw [length]; omega), splice_getD_of_outside (by rw [length]; omega)]

theorem Audio.matrixing_delay_length (k : Nat) (a : Audio) : (a.matrixing k).delay.length = a.delay.length :=
  (splice_length ..).trans (splice_length ..)

/-- Settles O56: the matrixed words stand at the new offset of each channel, and each is its cosine sum. -/
theorem matrixingIsExact : Obligations.MatrixingIsExact := by
  intro a k _ size _ aligned bounded t
  refine ⟨rfl, (a.matrixing_delay_length k).trans size, rfl, fun ch channel i inside => ?_,
    fun ch channel n inside outside => ?_⟩
  · rw [← a.matrixWord_value bounded]
    exact congrArg surdValue (Audio.matrixing_delay_of_inside k channel size aligned inside)
  · exact Audio.matrixing_delay_of_outside k ch aligned inside outside

/-! ### Windowing (R1102) -/

/-- Settles O57: the taps of an output, those on words that are 0 among them. -/
theorem windowingIsExact : Obligations.WindowingIsExact := by
  intro a d ch j _
  have taps : ((windowTaps j).map fun tap => d tap.1 * surdValue (a.delayWord ch tap.2)).sum =
      ((List.range 8).map fun i => d (64 * i + j) * surdValue (a.delayWord ch (128 * i + j)) +
        d (64 * i + 32 + j) * surdValue (a.delayWord ch (128 * i + 96 + j))).sum := by
    rw [windowTaps, List.map_flatMap, List.flatMap_def, List.sum_flatten, List.map_map]
    simp [Function.comp_def]
  rw [← sum_map_range, ← taps]
  exact sum_filterMap_nonzero (windowTaps j) Prod.fst (fun tap => a.delayWord ch tap.2)
    (fun n x => d n * surdValue x) (by simp)

end Sys2Proof.Machine
end

section
/-! The filter bank as a map from samples and history to outputs and history: 0 from zeros, linear, and the same at
every offset (R1104). -/

namespace Sys2Proof.Machine

/-! ### The history (R1101, R1102) -/

/-- Read from the offset, a step puts its 64 words before the history, whatever the offset is. -/
theorem Audio.matrixing_delayWord {a : Audio} (k : Nat) {ch n : Nat} (channel : ch < 2) (size : a.delay.length = 2048)
    (aligned : a.vPos.toNat % 64 = 0) (inside : n < 1024) : (a.matrixing k).delayWord ch n =
      if n < 64 then matrixWord (a.subbandInput ch k) n else a.delayWord ch (n - 64) := by
  have room := vPos_room aligned
  have offset : (a.vPos - 64).toNat = (960 + a.vPos.toNat) % 1024 := BitVec.toNat_sub a.vPos 64
  have read : (a.matrixing k).delayWord ch n =
      (a.matrixing k).delay.getD (1024 * ch + ((a.vPos - 64).toNat + n) % 1024) [] := rfl
  rw [read]
  split
  case isTrue new =>
    rw [Nat.mod_eq_of_lt (by omega), ← Nat.add_assoc, matrixing_delay_of_inside k channel size aligned new]
  case isFalse old =>
    rw [matrixing_delay_of_outside k ch aligned (Nat.mod_lt _ (by norm_num)) (by omega), Audio.delayWord]
    congr 2
    omega

/-! ### From zeros (R1104 (a)) -/

theorem mem_of_mem_splice {α : Type} {x : α} {l xs : List α} {n : Nat} (h : x ∈ splice l n xs) : x ∈ l ∨ x ∈ xs := by
  induction l generalizing n xs with
  | nil => exact .inl h
  | cons y l ih =>
    rcases xs with _ | ⟨z, xs⟩
    · exact .inl (splice_nil (y :: l) n ▸ h)
    rcases n with _ | n
    · rw [splice_cons_zero, List.mem_cons] at h
      rcases h with rfl | h
      · exact .inr List.mem_cons_self
      · exact (ih h).imp (List.mem_cons_of_mem y) (List.mem_cons_of_mem z)
    · rw [splice_cons_succ, List.mem_cons] at h
      rcases h with rfl | h
      · exact .inl List.mem_cons_self
      · exact (ih h).imp_left (List.mem_cons_of_mem y)

theorem getD_of_zeros {l : List Surd} (zeros : ∀ x ∈ l, x = []) (n : Nat) : l.getD n [] = [] := by
  rw [List.getD_eq_getElem?_getD]
  rcases stands : l[n]? with _ | x
  · rfl
  · exact zeros x (List.mem_of_getElem? stands)

/-- Samples of 0 leave no input. -/
theorem Audio.subbandInput_of_zeros {a : Audio} (zeros : ∀ x ∈ a.sample, x = []) (ch k : Nat) :
    a.subbandInput ch k = [] := by
  rw [Audio.subbandInput, List.filterMap_eq_nil_iff]
  intro sb _
  rw [getD_of_zeros zeros]
  rfl

theorem Audio.matrixing_delay_of_zeros {a : Audio} (samples : ∀ x ∈ a.sample, x = []) (history : ∀ x ∈ a.delay, x = [])
    (k : Nat) : ∀ x ∈ (a.matrixing k).delay, x = [] := by
  have words (ch : Nat) : ∀ x ∈ matrixVector (a.subbandInput ch k), x = [] := by
    rw [subbandInput_of_zeros samples]
    intro x word
    obtain ⟨i, -, rfl⟩ := List.mem_map.1 word
    rfl
  intro x written
  rcases mem_of_mem_splice written with written | word
  · exact (mem_of_mem_splice written).elim (history x) (words 0 x)
  · exact words 1 x word

theorem Audio.windowSample_of_zeros {a : Audio} (history : ∀ x ∈ a.delay, x = []) (ch j : Nat) :
    a.windowSample ch j = [] := by
  rw [Audio.windowSample, List.filterMap_eq_nil_iff]
  intro tap _
  rw [Audio.delayWord, getD_of_zeros history]
  rfl

/-- The sample 0 is 0 in every format (R1105). -/
theorem formatSample_zero (format : BitVec 2) : formatSample format (sampleNumber []) = 0 := by
  have zero : surdRational [] = 0 := rfl
  have silence : signed16 0 = 0 := by simp [signed16, truncate]
  rw [sampleNumber, windowSurd_nil, formatSample_eq, scaleSurd_nil, zero, silence, float32, if_pos rfl, ite_self,
    ite_self]

/-! ### Linear, and time-invariant (R1104 (b)) -/

/-- The samples and the history of `c` are `x` times those of `a` and `y` times those of `b`. -/
structure Audio.Combines (k : Nat) (x y : ℝ) (a b c : Audio) : Prop where
  input : ∀ ch < 2, ∀ sb < 32, surdValue (c.sample.getD (3 * (32 * ch + sb) + k) []) =
    x * surdValue (a.sample.getD (3 * (32 * ch + sb) + k) []) +
      y * surdValue (b.sample.getD (3 * (32 * ch + sb) + k) [])
  history : ∀ ch < 2, ∀ n < 1024,
    surdValue (c.delayWord ch n) = x * surdValue (a.delayWord ch n) + y * surdValue (b.delayWord ch n)

/-- What a step needs of the register files. -/
structure Audio.StepReady (a : Audio) : Prop where
  size : a.delay.length = 2048
  aligned : a.vPos.toNat % 64 = 0
  bounded : ∀ x ∈ a.sample, surdBounded x = true

/-- The matrixed words combine as the samples do. -/
theorem Audio.Combines.matrixWord {k : Nat} {x y : ℝ} {a b c : Audio} (h : Combines k x y a b c) (ha : a.StepReady)
    (hb : b.StepReady) (hc : c.StepReady) {ch : Nat} (channel : ch < 2) (i : Nat) :
    surdValue (matrixWord (c.subbandInput ch k) i) =
      x * surdValue (matrixWord (a.subbandInput ch k) i) + y * surdValue (matrixWord (b.subbandInput ch k) i) := by
  rw [matrixWord_value ha.bounded, matrixWord_value hb.bounded, matrixWord_value hc.bounded, Finset.mul_sum,
    Finset.mul_sum, ← Finset.sum_add_distrib]
  refine Finset.sum_congr rfl fun sb band => ?_
  rw [h.input ch channel sb (Finset.mem_range.1 band)]
  ring

/-- The history after a step combines as the samples and the history before it do. -/
theorem Audio.Combines.step {k : Nat} {x y : ℝ} {a b c : Audio} (h : Combines k x y a b c) (ha : a.StepReady)
    (hb : b.StepReady) (hc : c.StepReady) {ch n : Nat} (channel : ch < 2) (inside : n < 1024) :
    surdValue ((c.matrixing k).delayWord ch n) =
      x * surdValue ((a.matrixing k).delayWord ch n) + y * surdValue ((b.matrixing k).delayWord ch n) := by
  rw [matrixing_delayWord k channel ha.size ha.aligned inside, matrixing_delayWord k channel hb.size hb.aligned inside,
    matrixing_delayWord k channel hc.size hc.aligned inside]
  split
  · exact h.matrixWord ha hb hc channel n
  · exact h.history ch channel _ (by omega)

/-- Outputs combine as the history they are taken from does, for every window (R1102). -/
theorem windowValue_combines {x y : ℝ} {a b c : Audio} {ch j : Nat} (inside : j < 32)
    (history : ∀ n < 1024,
      surdValue (c.delayWord ch n) = x * surdValue (a.delayWord ch n) + y * surdValue (b.delayWord ch n))
    (d : Nat → ℝ) : windowValue d (c.windowSample ch j) =
      x * windowValue d (a.windowSample ch j) + y * windowValue d (b.windowSample ch j) := by
  rw [windowingIsExact a d ch j inside, windowingIsExact b d ch j inside, windowingIsExact c d ch j inside,
    Finset.mul_sum, Finset.mul_sum, ← Finset.sum_add_distrib]
  refine Finset.sum_congr rfl fun i small => ?_
  have small := Finset.mem_range.1 small
  rw [history _ (by omega), history _ (by omega)]
  ring

/-- Settles O59. -/
theorem filterBankIsLinear : Obligations.FilterBankIsLinear := by
  intro part granule k parts granules small legal output input
  have out {a : Audio} (h : legal a) {ch j : Nat} (channel : ch < 2) (inside : j < 32) :
      output a ch j = (a.matrixing k).windowSample ch j := by
    obtain ⟨-, -, size, -, -⟩ := h
    obtain ⟨written, -⟩ := Audio.synthesisStep_out parts granules small channel size
    rw [← written j inside, ← Nat.add_assoc]
  have ready {a : Audio} (h : legal a) : a.StepReady := by
    obtain ⟨-, size, -, aligned, bounded⟩ := h
    exact ⟨size, aligned, bounded⟩
  refine ⟨fun a h samples history => ?_, fun a b c x y ha hb hc inputs history => ?_⟩
  · have zeros := Audio.matrixing_delay_of_zeros samples history k
    exact ⟨fun ch channel j inside => by rw [out h channel inside, Audio.windowSample_of_zeros zeros], zeros,
      formatSample_zero⟩
  · have combines : Audio.Combines k x y a b c := ⟨inputs, history⟩
    have after {ch n : Nat} (channel : ch < 2) (inside : n < 1024) :=
      combines.step (ready ha) (ready hb) (ready hc) channel inside
    refine ⟨fun ch channel n inside => after channel inside, fun d ch channel j inside => ?_⟩
    rw [out ha channel inside, out hb channel inside, out hc channel inside]
    exact windowValue_combines inside (fun n => after channel) d

end Sys2Proof.Machine
end

section
/-! A mono frame: both channels take the same samples, so equal delay lines stay equal and the outputs are equal
(R1011, R1106). -/

namespace Sys2Proof.Machine

/-! ### Halves of a register file -/

/-- The halves of a list are equal, entry by entry. -/
theorem take_eq_drop_iff {α : Type} {l : List α} {n : Nat} (size : l.length = 2 * n) (d : α) :
    l.take n = l.drop n ↔ ∀ i < n, l.getD (n + i) d = l.getD i d := by
  constructor
  · intro same i inside
    have entry : (l.take n)[i]? = (l.drop n)[i]? := by rw [same]
    rw [List.getElem?_take_of_lt inside, List.getElem?_drop] at entry
    rw [List.getD_eq_getElem?_getD, List.getD_eq_getElem?_getD, entry]
  · intro same
    refine List.ext_getElem (by rw [List.length_take, List.length_drop]; omega) fun i first second => ?_
    have inside : i < n := by rw [List.length_take] at first; omega
    rw [List.getElem_take, List.getElem_drop]
    have entry := same i inside
    rwa [List.getD_eq_getElem _ _ (by omega), List.getD_eq_getElem _ _ (by omega), eq_comm] at entry

/-! ### Synthesis of equal channels (R1101, R1102) -/

/-- Both channels have the same samples and the same delay line. -/
structure Audio.EqualChannels (a : Audio) : Prop where
  size : a.delay.length = 2048
  aligned : a.vPos.toNat % 64 = 0
  sample : ∀ sb < 32, ∀ k < 3, a.sample.getD (3 * (32 + sb) + k) [] = a.sample.getD (3 * sb + k) []
  delay : ∀ n < 1024, a.delay.getD (1024 + n) [] = a.delay.getD n []

theorem Audio.EqualChannels.subbandInput {a : Audio} (h : a.EqualChannels) {k : Nat} (small : k < 3) :
    a.subbandInput 1 k = a.subbandInput 0 k := by
  refine List.filterMap_congr fun sb band => ?_
  rw [Nat.mul_one, Nat.mul_zero, Nat.zero_add, h.sample sb (List.mem_range.1 band) k small]

/-- A step writes the same words to both channels. -/
theorem Audio.EqualChannels.matrixing {a : Audio} (h : a.EqualChannels) {k : Nat} (small : k < 3) :
    (a.matrixing k).EqualChannels := by
  refine ⟨(a.matrixing_delay_length k).trans h.size, vPos_sub_64 h.aligned, h.sample, fun n inside => ?_⟩
  have first : n = 1024 * 0 + n := by omega
  have second : 1024 + n = 1024 * 1 + n := by omega
  rw [second]
  conv_rhs => rw [first]
  by_cases new : n < (a.vPos - 64).toNat ∨ (a.vPos - 64).toNat + 64 ≤ n
  · rw [matrixing_delay_of_outside k 1 h.aligned inside new, matrixing_delay_of_outside k 0 h.aligned inside new,
      ← first, ← second, h.delay n inside]
  · obtain ⟨i, rfl⟩ : ∃ i, n = (a.vPos - 64).toNat + i := ⟨n - (a.vPos - 64).toNat, by omega⟩
    rw [← Nat.add_assoc, ← Nat.add_assoc, matrixing_delay_of_inside k (by norm_num) h.size h.aligned (by omega),
      matrixing_delay_of_inside k (by norm_num) h.size h.aligned (by omega), h.subbandInput small]

theorem Audio.EqualChannels.shifted {a : Audio} (h : a.EqualChannels) {n : Nat} (steps : n ≤ 3) :
    (a.shifted n).EqualChannels := by
  induction n with
  | zero => exact h
  | succ n ih =>
    rw [shifted_succ]
    exact (ih (by omega)).matrixing (by omega)

theorem Audio.EqualChannels.windowSample {a : Audio} (h : a.EqualChannels) (j : Nat) :
    a.windowSample 1 j = a.windowSample 0 j := by
  have words (n : Nat) : a.delayWord 1 n = a.delayWord 0 n := by
    rw [Audio.delayWord, Audio.delayWord, Nat.mul_one, Nat.mul_zero, Nat.zero_add]
    exact h.delay _ (Nat.mod_lt _ (by norm_num))
  simp only [Audio.windowSample, words]

/-! ### Granules (R1006, R1011) -/

/-- A mono engine whose delay lines, and whose first `n` outputs, are equal in both channels. -/
structure Audio.MonoUpTo (n : Nat) (a : Audio) : Prop where
  mono : a.channels = 1
  samples : a.sample.length = 192
  size : a.delay.length = 2048
  outputs : a.out.length = 2304
  aligned : a.vPos.toNat % 64 = 0
  delay : ∀ i < 1024, a.delay.getD (1024 + i) [] = a.delay.getD i []
  out : ∀ i < n, a.out.getD (1152 + i) [] = a.out.getD i []

/-- In mono the samples of a granule are equal in both channels (R1011). -/
theorem Audio.MonoUpTo.granuleSamples {a : Audio} {n : Nat} (h : a.MonoUpTo n) (part : Nat) :
    (a.granuleSamples part).EqualChannels := by
  have sample {ch sb k : Nat} (channel : ch < 2) (band : sb < 32) (small : k < 3) :=
    granuleSamples_sample (a := a) part channel band small h.samples
  have reads : a.granuleSamples part = { a.triplesRead part with sample := (a.granuleSamples part).sample } :=
    a.granuleSamples_only part
  have only := (a.triplesRead_readsSamples part).only
  have delay : (a.granuleSamples part).delay = a.delay := by rw [reads, only]
  have vPos : (a.granuleSamples part).vPos = a.vPos := by rw [reads, only]
  refine ⟨by rw [delay, h.size], by rw [vPos, h.aligned], fun sb band k small => ?_, by rw [delay]; exact h.delay⟩
  have first := sample (ch := 0) (by norm_num) band small
  have second := sample (ch := 1) (by norm_num) band small
  rw [Nat.mul_one] at second
  rw [Nat.mul_zero, Nat.zero_add] at first
  rw [second, first, if_pos h.mono, if_pos h.mono]

theorem Audio.decodeGranule_channels (part granule : Nat) (a : Audio) :
    (a.decodeGranule part granule).channels = a.channels := by
  have synthesis : ((a.granuleSamples part).synthesized part granule 3).channels = (a.granuleSamples part).channels :=
    List.foldlRecOn (motive := fun b : Audio => b.channels = (a.granuleSamples part).channels) _ _ rfl
      fun _ same _ _ => same
  rw [decodeGranule_eq, synthesis, a.granuleSamples_only part]
  exact (a.triplesRead_readsSamples part).channels

/-- A granule adds its 96 outputs, equal in both channels. -/
theorem Audio.MonoUpTo.decodeGranule {a : Audio} {part granule : Nat} (parts : part < 3) (granules : granule < 4)
    (h : a.MonoUpTo (96 * (4 * part + granule))) :
    (a.decodeGranule part granule).MonoUpTo (96 * (4 * part + granule) + 96) := by
  have equal := h.granuleSamples part
  have after := equal.shifted (le_refl 3)
  have outputs : (a.granuleSamples part).out.length = 2304 := by rw [granuleSamples_out, h.outputs]
  have run := a.decodeGranule_eq part granule
  have only := (a.granuleSamples part).synthesized_only part granule 3
  have delay : (a.decodeGranule part granule).delay = ((a.granuleSamples part).shifted 3).delay := by rw [run, only]
  have vPos : (a.decodeGranule part granule).vPos = ((a.granuleSamples part).shifted 3).vPos := by rw [run, only]
  have size : (a.decodeGranule part granule).out.length = 2304 := by rw [run, synthesized_out_length, outputs]
  refine ⟨by rw [decodeGranule_channels, h.mono], by rw [run, synthesized_sample, granuleSamples_length, h.samples],
    by rw [delay, after.size], size, by rw [vPos, after.aligned], by rw [delay]; exact after.delay, fun i inside => ?_⟩
  rw [run]
  by_cases before : i < 96 * (4 * part + granule)
  · have kept {ch : Nat} (channel : ch < 2) :=
      synthesized_out_of_outside parts granules channel outputs (le_refl 3) (i := i) (by omega) (.inl before)
    have first := kept (ch := 0) (by norm_num)
    have second := kept (ch := 1) (by norm_num)
    rw [Nat.mul_one] at second
    rw [Nat.mul_zero, Nat.zero_add] at first
    rw [second, first, granuleSamples_out, h.out i before]
  · obtain ⟨k, j, small, column, rfl⟩ : ∃ k j, k < 3 ∧ j < 32 ∧ i = 96 * (4 * part + granule) + 32 * k + j :=
      ⟨(i - 96 * (4 * part + granule)) / 32, (i - 96 * (4 * part + granule)) % 32, by omega, by omega, by omega⟩
    have written {ch : Nat} (channel : ch < 2) :=
      synthesized_out_of_inside parts granules channel outputs (le_refl 3) small column
    have first := written (ch := 0) (by norm_num)
    have second := written (ch := 1) (by norm_num)
    rw [Nat.mul_one, Nat.add_assoc 1152, Nat.add_assoc 1152] at second
    rw [Nat.mul_zero, Nat.zero_add] at first
    rw [second, first, (equal.shifted small).windowSample j]

/-- After `n` granules `96 n` outputs of each channel are equal. -/
theorem Audio.MonoUpTo.granules {a : Audio} (h : a.MonoUpTo 0) {n : Nat} (steps : n ≤ 12) :
    ((List.range n).foldl (fun a i => a.decodeGranule (i / 4) (i % 4)) a).MonoUpTo (96 * n) := by
  induction n with
  | zero => exact h
  | succ n ih =>
    have place : 4 * (n / 4) + n % 4 = n := Nat.div_add_mod n 4
    have before := ih (by omega)
    rw [← place] at before
    have after := before.decodeGranule (by omega) (Nat.mod_lt n (by norm_num))
    rw [place] at after
    rw [List.range_succ, List.foldl_append, List.foldl_cons, List.foldl_nil, Nat.mul_succ]
    exact after

/-- Settles O60. -/
theorem monoChannelsAreEqual : Obligations.MonoChannelsAreEqual := by
  intro a mono samples size outputs aligned delay t
  have start : a.tablesRead.MonoUpTo 0 := by
    rw [a.tablesRead_only]
    exact ⟨mono, samples, size, outputs, aligned,
      (take_eq_drop_iff size []).1 delay, fun i none_ => absurd none_ i.not_lt_zero⟩
  have ends : a.tablesRead.granulesDecoded.MonoUpTo 1152 := start.granules (le_refl 12)
  have frame : t = { a.tablesRead.granulesDecoded with br := a.tablesRead.granulesDecoded.br.align } := a.decodeFrame_eq
  generalize a.tablesRead.granulesDecoded = b at ends frame
  rw [frame]
  exact ⟨(take_eq_drop_iff ends.outputs []).2 ends.out, (take_eq_drop_iff ends.size []).2 ends.delay⟩

end Sys2Proof.Machine
end

section
/-! The number of an output sample: the window applied, and how near the rational number lies that is rounded in its
place (R1102, R1104). -/

namespace Sys2Proof.Machine

/-! ### The window applied (R1102) -/

/-- A multiple of a number, added to another. -/
theorem foldl_scaled (r : Rat) (x y : Surd) (bounded : surdBounded x = true) (also : surdBounded y = true) :
    surdBounded (x.foldl (fun sum e => addTerm e.1 (r * e.2) sum) y) = true ∧
      surdValue (x.foldl (fun sum e => addTerm e.1 (r * e.2) sum) y) = r * surdValue x + surdValue y := by
  induction x generalizing y with
  | nil => exact ⟨also, by simp⟩
  | cons e x ih =>
    obtain ⟨key, rest⟩ := (surdBounded_cons e x).1 bounded
    obtain ⟨keys, value⟩ := ih (addTerm e.1 (r * e.2) y) rest (surdBounded_addTerm _ key also)
    refine ⟨keys, value.trans ?_⟩
    rw [surdValue_addTerm, surdValue_cons]
    push_cast
    ring

theorem scaleSurd_spec (r : Rat) {x : Surd} (bounded : surdBounded x = true) :
    surdBounded (scaleSurd r x) = true ∧ surdValue (scaleSurd r x) = r * surdValue x := by
  obtain ⟨keys, value⟩ := foldl_scaled r x [] bounded surdBounded_nil
  exact ⟨keys, value.trans (by rw [surdValue_nil, add_zero])⟩

/-- The products of an output sample, added to a number. -/
theorem foldl_windowed (d : Nat → Rat) (x : WindowSum) (y : Surd) (bounded : ∀ e ∈ x, surdBounded e.2 = true)
    (also : surdBounded y = true) :
    surdBounded (x.foldl (fun sum e => addSurd (scaleSurd (d e.1) e.2) sum) y) = true ∧
      surdValue (x.foldl (fun sum e => addSurd (scaleSurd (d e.1) e.2) sum) y) =
        windowValue (fun n => (d n : ℝ)) x + surdValue y := by
  induction x generalizing y with
  | nil => exact ⟨also, by simp⟩
  | cons e x ih =>
    obtain ⟨head, tail⟩ := List.forall_mem_cons.1 bounded
    obtain ⟨scaled, product⟩ := scaleSurd_spec (d e.1) head
    obtain ⟨keys, value⟩ := ih (addSurd (scaleSurd (d e.1) e.2) y) tail (surdBounded_addSurd scaled also)
    refine ⟨keys, value.trans ?_⟩
    rw [surdValue_addSurd, product, windowValue_cons]
    ring

theorem windowSurd_spec (d : Nat → Rat) {x : WindowSum} (bounded : ∀ e ∈ x, surdBounded e.2 = true) :
    surdBounded (windowSurd d x) = true ∧ surdValue (windowSurd d x) = windowValue (fun n => (d n : ℝ)) x := by
  obtain ⟨keys, value⟩ := foldl_windowed d x [] bounded surdBounded_nil
  exact ⟨keys, value.trans (by rw [surdValue_nil, add_zero])⟩

/-! ### Integer roots -/

/-- The bits that are chosen keep the root between its neighbours. -/
theorem rootFrom_spec {k n b r : Nat} (low : r ^ k ≤ n) (high : n < (r + 2 ^ b) ^ k) :
    rootFrom k n b r ^ k ≤ n ∧ n < (rootFrom k n b r + 1) ^ k := by
  induction b generalizing r with
  | zero => exact ⟨low, high⟩
  | succ b ih =>
    rw [rootFrom]
    split
    case isTrue fits => exact ih fits (by rwa [Nat.add_assoc, ← Nat.two_mul, ← Nat.pow_succ'])
    case isFalse passes => exact ih low (Nat.not_le.1 passes)

theorem integerRoot_spec {k bits n : Nat} (some_ : k ≠ 0) (room : n < (2 ^ bits) ^ k) :
    integerRoot k bits n ^ k ≤ n ∧ n < (integerRoot k bits n + 1) ^ k :=
  rootFrom_spec (by rw [zero_pow some_]; exact n.zero_le) (by rwa [Nat.zero_add])

/-- The integer root is the real root, rounded down. -/
theorem integerRoot_near {k bits n : Nat} (some_ : k ≠ 0) (room : n < (2 ^ bits) ^ k) {y : ℝ} (nonneg : 0 ≤ y)
    (root : y ^ k = n) : (integerRoot k bits n : ℝ) ≤ y ∧ y < integerRoot k bits n + 1 := by
  obtain ⟨low, high⟩ := integerRoot_spec some_ room
  constructor
  · refine le_of_pow_le_pow_left₀ some_ nonneg ?_
    rw [root]
    exact_mod_cast low
  · refine lt_of_pow_lt_pow_left₀ k (by positivity) ?_
    rw [root]
    exact_mod_cast high

/-! ### Cosines in fixed point -/

/-- The fixed-point cosine of the doubled angle. -/
def doubledCosine (p k c : Nat) : Int :=
  if c ≤ 16 then fixedCosine p k (2 * c) else -(fixedCosine p k (64 - 2 * c) : Int)

theorem fixedCosine_zero_angle (p k : Nat) : fixedCosine p (k + 1) 0 = 2 ^ p := rfl

theorem fixedCosine_right_angle (p k : Nat) : fixedCosine p (k + 1) 32 = 0 := rfl

theorem fixedCosine_between {p k c : Nat} (pos : 0 < c) (small : c < 32) : fixedCosine p (k + 1) c =
    integerRoot 2 (p + 1) (((2 ^ p + doubledCosine p k c) * 2 ^ p / 2).toNat) := by
  rw [fixedCosine, if_neg (by omega), if_neg (by omega)]
  rfl

/-- The square under the root, as an exact half. -/
theorem halfSquare_eq {p : Nat} (some_ : 1 ≤ p) {d : Int} (low : -2 ^ p ≤ d) :
    ((((2 ^ p + d) * 2 ^ p / 2).toNat : Nat) : ℝ) = (2 ^ p + d) * 2 ^ p / 2 := by
  obtain ⟨q, rfl⟩ := Nat.exists_eq_add_of_le' some_
  have half : (2 ^ (q + 1) + d) * 2 ^ (q + 1) / 2 = (2 ^ (q + 1) + d) * 2 ^ q := by
    rw [pow_succ 2 q, ← mul_assoc, Int.mul_ediv_cancel _ two_ne_zero]
  have nonneg : 0 ≤ (2 ^ (q + 1) + d) * 2 ^ q := mul_nonneg (by linarith) (by positivity)
  have cast : (((2 ^ (q + 1) + d) * 2 ^ q).toNat : Int) = (2 ^ (q + 1) + d) * 2 ^ q := Int.toNat_of_nonneg nonneg
  rw [half, ← Int.cast_natCast, cast]
  push_cast
  ring

/-- The square under the root is at most that of 1. -/
theorem halfSquare_le {p : Nat} {d : Int} (high : d ≤ 2 ^ p) :
    ((2 ^ p + d) * 2 ^ p / 2).toNat ≤ (2 ^ p) ^ 2 := by
  have bound : (2 ^ p + d) * 2 ^ p / 2 ≤ ((2 ^ p) ^ 2 : Int) := by
    refine Int.ediv_le_of_le_mul two_pos ?_
    have := mul_le_mul_of_nonneg_right high (pow_nonneg (zero_le_two (α := Int)) p)
    nlinarith
  have := Int.toNat_le_toNat bound
  rwa [show ((2 ^ p) ^ 2 : Int).toNat = (2 ^ p) ^ 2 by norm_cast] at this

theorem square_room (p : Nat) : (2 ^ p) ^ 2 < (2 ^ (p + 1)) ^ 2 :=
  Nat.pow_lt_pow_left (Nat.pow_lt_pow_right one_lt_two p.lt_succ_self) two_ne_zero

theorem fixedCosine_le (p k c : Nat) : fixedCosine p k c ≤ 2 ^ p := by
  induction k generalizing c with
  | zero => exact Nat.zero_le _
  | succ k ih =>
    rcases Nat.eq_zero_or_pos c with rfl | pos
    · exact le_rfl
    rcases Nat.lt_or_ge c 32 with small | large
    · have high : doubledCosine p k c ≤ 2 ^ p := by
        unfold doubledCosine
        split
        · exact_mod_cast ih (2 * c)
        · exact (neg_nonpos.2 (Int.natCast_nonneg _)).trans (by positivity)
      have bound := halfSquare_le high
      rw [fixedCosine_between pos small]
      obtain ⟨low, -⟩ := integerRoot_spec two_ne_zero (bound.trans_lt (square_room p))
      exact le_of_pow_le_pow_left₀ two_ne_zero (Nat.zero_le _) (low.trans bound)
    · rw [fixedCosine, if_neg (by omega), if_pos large]
      exact Nat.zero_le _

theorem doubledCosine_bounds (p k c : Nat) : -2 ^ p ≤ doubledCosine p k c ∧ doubledCosine p k c ≤ 2 ^ p := by
  have pos : (0 : Int) ≤ 2 ^ p := by positivity
  unfold doubledCosine
  split
  · have := fixedCosine_le p k (2 * c)
    zify at this
    constructor <;> linarith [Int.natCast_nonneg (fixedCosine p k (2 * c))]
  · have := fixedCosine_le p k (64 - 2 * c)
    zify at this
    constructor <;> linarith [Int.natCast_nonneg (fixedCosine p k (64 - 2 * c))]

/-- Two roots lie as near as their squares do, over the larger root. -/
theorem abs_sub_le_of_sq {x y e : ℝ} (pos : 0 < x) (nonneg : 0 ≤ y) (near : |y ^ 2 - x ^ 2| ≤ e * x) : |y - x| ≤ e := by
  refine le_of_mul_le_mul_right ?_ pos
  calc |y - x| * x ≤ |y - x| * (y + x) := mul_le_mul_of_nonneg_left (by linarith) (abs_nonneg _)
    _ = |y - x| * |y + x| := by rw [abs_of_nonneg (by linarith : 0 ≤ y + x)]
    _ = |y ^ 2 - x ^ 2| := by rw [← abs_mul]; congr 1; ring
    _ ≤ e * x := near

/-- Halving an angle halves the error of its cosine, over the cosine of the half, and rounding down adds 1. -/
theorem halved_near {p : Nat} (some_ : 1 ≤ p) {d : Int} (low : -2 ^ p ≤ d) (high : d ≤ 2 ^ p) {a e : ℝ}
    (acute : 0 < Real.cos a) (near : |(d : ℝ) - 2 ^ p * Real.cos (2 * a)| ≤ e * (2 * Real.cos a)) :
    |(integerRoot 2 (p + 1) (((2 ^ p + d) * 2 ^ p / 2).toNat) : ℝ) - 2 ^ p * Real.cos a| ≤ 1 + e := by
  have square := halfSquare_eq some_ low
  have nonneg : (0 : ℝ) ≤ (2 ^ p + d) * 2 ^ p / 2 := square ▸ Nat.cast_nonneg _
  have root : Real.sqrt ((2 ^ p + d) * 2 ^ p / 2) ^ 2 = (2 ^ p + d) * 2 ^ p / 2 := Real.sq_sqrt nonneg
  obtain ⟨below, above⟩ := integerRoot_near two_ne_zero ((halfSquare_le high).trans_lt (square_room p))
    (Real.sqrt_nonneg _) (root.trans square.symm)
  generalize (integerRoot 2 (p + 1) _ : ℝ) = r at below above ⊢
  have pow : (0 : ℝ) < 2 ^ p := by positivity
  have exact_ : |Real.sqrt ((2 ^ p + d) * 2 ^ p / 2) - 2 ^ p * Real.cos a| ≤ e := by
    refine abs_sub_le_of_sq (mul_pos pow acute) (Real.sqrt_nonneg _) ?_
    have difference : (2 ^ p + d) * 2 ^ p / 2 - (2 ^ p * Real.cos a) ^ 2 =
        (d - 2 ^ p * Real.cos (2 * a)) * (2 ^ p / 2) := by
      rw [Real.cos_two_mul]
      ring
    rw [root, difference, abs_mul, abs_of_pos (half_pos pow)]
    calc |(d : ℝ) - 2 ^ p * Real.cos (2 * a)| * (2 ^ p / 2) ≤ e * (2 * Real.cos a) * (2 ^ p / 2) :=
          mul_le_mul_of_nonneg_right near (half_pos pow).le
      _ = e * (2 ^ p * Real.cos a) := by ring
  rw [abs_le] at exact_ ⊢
  constructor <;> linarith

theorem fixedCosine_of_end {c : Nat} (end_ : c = 0 ∨ c = 32) (p k : Nat) :
    (fixedCosine p (k + 1) c : ℝ) = 2 ^ p * Real.cos (c * Real.pi / 64) := by
  rcases end_ with rfl | rfl
  · rw [fixedCosine_zero_angle]
    simp
  · rw [fixedCosine_right_angle, show ((32 : Nat) : ℝ) * Real.pi / 64 = Real.pi / 2 by push_cast; ring]
    simp

theorem sin_grid_ge {c : Nat} (small : c ≤ 32) : (c : ℝ) / 32 ≤ Real.sin (c * Real.pi / 64) := by
  have bound : (c : ℝ) ≤ 32 := by exact_mod_cast small
  have quadrant : (c : ℝ) * Real.pi / 64 ≤ Real.pi / 2 := by nlinarith [Real.pi_pos]
  have chord := Real.mul_le_sin (x := c * Real.pi / 64) (by positivity) quadrant
  rwa [show 2 / Real.pi * (c * Real.pi / 64) = (c : ℝ) / 32 by field_simp; ring] at chord

theorem cos_grid_pos {c : Nat} (small : c < 32) : 0 < Real.cos (c * Real.pi / 64) := by
  have bound : (c : ℝ) < 32 := by exact_mod_cast small
  have pi := Real.pi_pos
  refine Real.cos_pos_of_mem_Ioo ⟨?_, by nlinarith⟩
  have : 0 ≤ (c : ℝ) * Real.pi / 64 := by positivity
  linarith

/-- The error of the doubled angle, from that of the angle in the first quadrant with the same sine. -/
theorem doubledCosine_near {p k c : Nat} {e : ℝ} (small : c ≤ 32)
    (near : ∀ n : Nat, n = 2 * c ∨ n = 64 - 2 * c → n ≤ 32 →
    |(fixedCosine p k n : ℝ) - 2 ^ p * Real.cos (n * Real.pi / 64)| ≤ e * Real.sin (n * Real.pi / 64)) :
    |(doubledCosine p k c : ℝ) - 2 ^ p * Real.cos (2 * (c * Real.pi / 64))| ≤
      e * Real.sin (2 * (c * Real.pi / 64)) := by
  unfold doubledCosine
  split
  case isTrue low =>
    have doubled := near (2 * c) (.inl rfl) (by omega)
    have angle : ((2 * c : Nat) : ℝ) * Real.pi / 64 = 2 * (c * Real.pi / 64) := by
      push_cast
      ring
    rwa [angle] at doubled
  case isFalse high =>
    have folded := near (64 - 2 * c) (.inr rfl) (by omega)
    have angle : ((64 - 2 * c : Nat) : ℝ) * Real.pi / 64 = Real.pi - 2 * (c * Real.pi / 64) := by
      rw [Nat.cast_sub (by omega)]
      push_cast
      ring
    rw [angle, Real.cos_pi_sub, Real.sin_pi_sub, ← abs_neg] at folded
    refine le_of_eq_of_le (congrArg abs ?_) folded
    push_cast
    ring

/-- The error stays below `2 ^ (j + 1)` times the sine, where `j` halvings lead to the angle from 0 or `pi / 2`. -/
theorem fixedCosine_near {p : Nat} (some_ : 1 ≤ p) {j g k c : Nat} (halvings : g * 2 ^ j = 32) (divides : g ∣ c)
    (small : c ≤ 32) (fuel : j < k) :
    |(fixedCosine p k c : ℝ) - 2 ^ p * Real.cos (c * Real.pi / 64)| ≤ 2 ^ (j + 1) * Real.sin (c * Real.pi / 64) := by
  induction j generalizing g k c with
  | zero =>
    obtain ⟨k, rfl⟩ := Nat.exists_eq_add_of_le' fuel
    have end_ : c = 0 ∨ c = 32 := by
      obtain ⟨m, rfl⟩ := divides
      obtain rfl : g = 32 := by omega
      omega
    rw [fixedCosine_of_end end_, sub_self, abs_zero]
    exact mul_nonneg (by positivity) ((by positivity : (0 : ℝ) ≤ c / 32).trans (sin_grid_ge small))
  | succ j ih =>
    obtain ⟨k, rfl⟩ : ∃ l, k = l + 1 := ⟨k - 1, by omega⟩
    have sine := sin_grid_ge small
    by_cases end_ : c = 0 ∨ c = 32
    · rw [fixedCosine_of_end end_, sub_self, abs_zero]
      exact mul_nonneg (by positivity) ((by positivity : (0 : ℝ) ≤ c / 32).trans sine)
    have halved : 2 * g * 2 ^ j = 32 := by rw [← halvings]; ring
    have even : 2 * g ∣ 2 * c := Nat.mul_dvd_mul_left 2 divides
    have turn : 2 * g ∣ 64 := ⟨2 * 2 ^ j, by rw [← Nat.mul_assoc, Nat.mul_right_comm, halved]⟩
    have doubled := doubledCosine_near (e := 2 ^ (j + 1)) small fun n same inside =>
      ih (k := k) halved (by rcases same with rfl | rfl; exacts [even, Nat.dvd_sub turn even]) inside (by omega)
    have unit : (1 : ℝ) ≤ 2 ^ (j + 1) * Real.sin (c * Real.pi / 64) := by
      have least : g ≤ c := Nat.le_of_dvd (by omega) divides
      have whole : (g : ℝ) * 2 ^ (j + 1) = 32 := by exact_mod_cast halvings
      have least : (g : ℝ) ≤ c := by exact_mod_cast least
      calc (1 : ℝ) = 2 ^ (j + 1) * (g / 32) := by linarith
        _ ≤ 2 ^ (j + 1) * Real.sin (c * Real.pi / 64) :=
          mul_le_mul_of_nonneg_left ((div_le_div_of_nonneg_right least (by norm_num)).trans sine) (by positivity)
    obtain ⟨low, high⟩ := doubledCosine_bounds p k c
    rw [fixedCosine_between (by omega) (by omega)]
    refine (halved_near some_ low high (cos_grid_pos (by omega))
      (e := 2 ^ (j + 1) * Real.sin (c * Real.pi / 64)) ?_).trans
      ?_
    · rw [Real.sin_two_mul] at doubled
      linarith
    · rw [pow_succ 2 (j + 1)]
      linarith

/-! ### The products of a basis cosine and a cube root -/

/-- The cube root is rounded down. -/
theorem fixedCubeRoot_near (p : Nat) {t : Nat} (small : t < 3) :
    (fixedCubeRoot p t : ℝ) ≤ 2 ^ p * (2 : ℝ) ^ ((t : ℝ) / 3) ∧
      2 ^ p * (2 : ℝ) ^ ((t : ℝ) / 3) < fixedCubeRoot p t + 1 := by
  refine integerRoot_near three_ne_zero ?_ (by positivity) ?_
  · rw [← pow_mul]
    exact Nat.pow_lt_pow_right one_lt_two (by omega)
  · have cube : ((2 : ℝ) ^ ((t : ℝ) / 3)) ^ 3 = 2 ^ t := by
      rw [← Real.rpow_natCast, ← Real.rpow_mul zero_le_two, ← Real.rpow_natCast]
      congr 1
      push_cast
      ring
    rw [mul_pow, cube]
    push_cast
    ring

/-- A product is within 129 units of its fixed-point form. -/
theorem fixedProduct_near {q k : Nat} (some_ : 1 ≤ q) (key : k < 96) :
    |(fixedCosine q 7 (k / 3) * fixedCubeRoot q (k % 3) : ℝ) - 2 ^ (2 * q) * surdUnit k| ≤ 129 * 2 ^ q := by
  have small : k % 3 < 3 := Nat.mod_lt k (by norm_num)
  have cosine := fixedCosine_near some_ (j := 5) (g := 1) (k := 7) (c := k / 3) (by norm_num) (one_dvd _) (by omega)
    (by norm_num)
  have cosine : |(fixedCosine q 7 (k / 3) : ℝ) - 2 ^ q * Real.cos ((k / 3 : Nat) * Real.pi / 64)| ≤ 64 :=
    cosine.trans (by linarith [Real.sin_le_one ((k / 3 : Nat) * Real.pi / 64)])
  obtain ⟨below, above⟩ := fixedCubeRoot_near q small
  have root : (2 : ℝ) ^ (((k % 3 : Nat) : ℝ) / 3) ≤ 2 := by
    have : ((k % 3 : Nat) : ℝ) ≤ 3 := by exact_mod_cast small.le
    calc (2 : ℝ) ^ (((k % 3 : Nat) : ℝ) / 3) ≤ 2 ^ (1 : ℝ) :=
          Real.rpow_le_rpow_of_exponent_le one_le_two (by linarith)
      _ = 2 := Real.rpow_one 2
  have pow : (0 : ℝ) < 2 ^ q := by positivity
  have le_one := Real.abs_cos_le_one ((k / 3 : Nat) * Real.pi / 64)
  have nonneg : (0 : ℝ) ≤ fixedCubeRoot q (k % 3) := Nat.cast_nonneg _
  rw [surdUnit]
  generalize Real.cos ((k / 3 : Nat) * Real.pi / 64) = x at cosine le_one ⊢
  generalize (2 : ℝ) ^ (((k % 3 : Nat) : ℝ) / 3) = y at below above root ⊢
  generalize (fixedCosine q 7 (k / 3) : ℝ) = f at cosine ⊢
  generalize (fixedCubeRoot q (k % 3) : ℝ) = g at below above nonneg ⊢
  have parts : f * g - 2 ^ (2 * q) * (x * y) = (f - 2 ^ q * x) * g + 2 ^ q * x * (g - 2 ^ q * y) := by ring
  have first : |(f - 2 ^ q * x) * g| ≤ 64 * (2 ^ q * 2) := by
    rw [abs_mul, abs_of_nonneg nonneg]
    exact mul_le_mul cosine (below.trans (mul_le_mul_of_nonneg_left root pow.le)) nonneg (by norm_num)
  have second : |2 ^ q * x * (g - 2 ^ q * y)| ≤ 2 ^ q * 1 * 1 := by
    rw [abs_mul, abs_mul, abs_of_pos pow]
    have unit : |g - 2 ^ q * y| ≤ 1 := abs_le.2 ⟨by linarith, by linarith⟩
    exact mul_le_mul (mul_le_mul_of_nonneg_left le_one pow.le) unit (abs_nonneg _) (by positivity)
  rw [parts]
  linarith [abs_add_le ((f - 2 ^ q * x) * g) (2 ^ q * x * (g - 2 ^ q * y))]

theorem surdUnit_zero : surdUnit 0 = 1 := by simp [surdUnit]

theorem productApprox_zero (p : Nat) : productApprox p 0 = 1 := rfl

/-- Eight more bits than asked for are enough. -/
theorem productApprox_near (p : Nat) {k : Nat} (key : k < 96) : |(productApprox p k : ℝ) - surdUnit k| ≤ 1 / 2 ^ p := by
  by_cases zero : k = 0
  · rw [zero, productApprox_zero, surdUnit_zero]
    simp
  have near := fixedProduct_near (q := p + 8) (by omega) key
  have scale : (0 : ℝ) < 2 ^ (2 * (p + 8)) := by positivity
  have value : (productApprox p k : ℝ) =
      (fixedCosine (p + 8) 7 (k / 3) * fixedCubeRoot (p + 8) (k % 3) : ℝ) / 2 ^ (2 * (p + 8)) := by
    rw [productApprox, if_neg zero]
    push_cast
    rfl
  rw [value, div_sub' scale.ne', abs_div, abs_of_pos scale, div_le_div_iff₀ scale (by positivity), one_mul]
  calc _ ≤ 129 * 2 ^ (p + 8) * 2 ^ p := mul_le_mul_of_nonneg_right near (by positivity)
    _ ≤ 256 * 2 ^ (p + 8) * 2 ^ p := by
      have : (0 : ℝ) < 2 ^ (p + 8) * 2 ^ p := by positivity
      linarith
    _ = 2 ^ (2 * (p + 8)) := by ring

/-! ### Numbers -/

/-- An approximation is within `2 ^ (-p)` for each unit of the coefficients. -/
theorem surdApprox_near (p : Nat) {x : Surd} (bounded : surdBounded x = true) :
    |(surdApprox p x : ℝ) - surdValue x| ≤ (x.map fun e => |(e.2 : ℝ)|).sum / 2 ^ p := by
  induction x with
  | nil => simp
  | cons e x ih =>
    obtain ⟨key, rest⟩ := (surdBounded_cons e x).1 bounded
    have term : |(e.2 : ℝ) * (productApprox p e.1 - surdUnit e.1)| ≤ |(e.2 : ℝ)| / 2 ^ p := by
      rw [abs_mul, div_eq_mul_one_div]
      exact mul_le_mul_of_nonneg_left (productApprox_near p key) (abs_nonneg _)
    have parts : (surdApprox p (e :: x) : ℝ) - surdValue (e :: x) =
        e.2 * (productApprox p e.1 - surdUnit e.1) + (surdApprox p x - surdValue x) := by
      rw [surdApprox_cons, surdValue_cons]
      push_cast
      ring
    rw [parts, List.map_cons, List.sum_cons, add_div]
    exact (abs_add_le _ _).trans (add_le_add term (ih rest))

/-- A number without an irrational part is not approximated. -/
theorem surdApprox_of_rational (p : Nat) {x : Surd} (rational : ∀ e ∈ x, e.1 = 0) :
    (surdApprox p x : ℝ) = surdValue x := by
  induction x with
  | nil => simp
  | cons e x ih =>
    obtain ⟨head, tail⟩ := List.forall_mem_cons.1 rational
    rw [surdApprox_cons, surdValue_cons, head, productApprox_zero, surdUnit_zero, ← ih tail]
    push_cast
    ring

/-- Settles O58. -/
theorem sampleNumbersAreExact : Obligations.SampleNumbersAreExact :=
  ⟨fun d _ bounded => windowSurd_spec d bounded, fun r _ bounded => scaleSurd_spec r bounded,
    fun p _ bounded => surdApprox_near p bounded, fun x bounded => surdApprox_near (surdPrecision x) bounded,
    fun x rational => surdApprox_of_rational (surdPrecision x) rational⟩

end Sys2Proof.Machine
end

section
/-! The binary32 rounding (R1105). A positive number is measured in the unit of the last place that its size gives it;
the answered pattern stands for the nearest multiple of that unit, and every pattern stands for a multiple of it or for
a number below all numbers that have this unit. -/

namespace Sys2Proof.Machine

/-! ### Powers of two and the size of a number -/

theorem pow2_eq_zpow (e : Int) : pow2 e = (2 : Rat) ^ e := by
  rw [pow2]
  split
  case isTrue nonneg =>
    obtain ⟨n, rfl⟩ := Int.eq_ofNat_of_zero_le nonneg
    simp
  case isFalse negative =>
    obtain ⟨n, hn⟩ := Int.eq_ofNat_of_zero_le (show 0 ≤ -e by omega)
    obtain rfl : e = -n := by omega
    simp

/-- The lengths of numerator and denominator leave two values for the logarithm. -/
theorem zpow_log2_le {x : Rat} (pos : 0 < x) :
    (2 : Rat) ^ ((Nat.log2 x.num.natAbs : Int) - Nat.log2 x.den - 1) ≤ x ∧
      x < (2 : Rat) ^ ((Nat.log2 x.num.natAbs : Int) - Nat.log2 x.den + 1) := by
  have numPos : 0 < x.num := Rat.num_pos.2 pos
  have numLow : (2 : Rat) ^ Nat.log2 x.num.natAbs ≤ x.num.natAbs :=
    mod_cast Nat.log2_self_le (by omega : x.num.natAbs ≠ 0)
  have numHigh : (x.num.natAbs : Rat) < 2 ^ (Nat.log2 x.num.natAbs + 1) := mod_cast Nat.lt_log2_self
  have denLow : (2 : Rat) ^ Nat.log2 x.den ≤ x.den := mod_cast Nat.log2_self_le x.den_nz
  have denHigh : (x.den : Rat) < 2 ^ (Nat.log2 x.den + 1) := mod_cast Nat.lt_log2_self
  have denPos : (0 : Rat) < x.den := mod_cast x.den_pos
  have quotient : x = x.num.natAbs / x.den := by
    conv_lhs => rw [← Rat.num_div_den x]
    rw [Nat.cast_natAbs, abs_of_pos numPos]
  generalize Nat.log2 x.num.natAbs = a at *
  generalize Nat.log2 x.den = b at *
  have two : (2 : Rat) ≠ 0 := by norm_num
  rw [zpow_sub₀ two, zpow_add₀ two, zpow_sub₀ two, zpow_natCast, zpow_natCast, zpow_one, quotient]
  constructor
  · rw [div_div, ← pow_succ, div_le_div_iff₀ (by positivity) denPos]
    exact mul_le_mul numLow denHigh.le denPos.le (by positivity)
  · rw [div_mul_eq_mul_div, ← pow_succ, div_lt_div_iff₀ denPos (by positivity)]
    exact mul_lt_mul numHigh denLow (by positivity) (by positivity)

theorem floorLog2_spec {x : Rat} (pos : 0 < x) :
    (2 : Rat) ^ floorLog2 x ≤ x ∧ x < (2 : Rat) ^ (floorLog2 x + 1) := by
  obtain ⟨low, high⟩ := zpow_log2_le pos
  rw [floorLog2, pow2_eq_zpow]
  split
  case isTrue below => exact ⟨low, by rwa [sub_add_cancel]⟩
  case isFalse above => exact ⟨not_lt.1 above, high⟩

/-! ### Rounding to an integer -/

/-- The distance is at most a half, and a half only of an even number. -/
theorem roundHalfEven_spec {q : Rat} (nonneg : 0 ≤ q) :
    |q - roundHalfEven q| ≤ 1 / 2 ∧ (|q - roundHalfEven q| = 1 / 2 → roundHalfEven q % 2 = 0) := by
  obtain ⟨n, floor⟩ := Int.eq_ofNat_of_zero_le (Int.floor_nonneg.2 nonneg)
  have low : (n : Rat) ≤ q := by simpa [floor] using Int.floor_le q
  have high : q < n + 1 := by simpa [floor] using Int.lt_floor_add_one q
  have start : q.floor.toNat = n := by rw [show q.floor = (n : Int) from floor]; rfl
  simp only [roundHalfEven, start]
  split
  case isTrue less =>
    rw [abs_of_nonneg (by linarith)]
    exact ⟨less.le, fun half => absurd half less.ne⟩
  case isFalse notLess =>
    split
    case isTrue more =>
      push_cast
      rw [abs_of_nonpos (by linarith)]
      exact ⟨by linarith, fun half => by linarith⟩
    case isFalse notMore =>
      have half : q = n + 1 / 2 := by linarith
      refine ⟨?_, fun _ => by omega⟩
      rcases Nat.mod_two_eq_zero_or_one n with even | odd
      · rw [even, half]
        norm_num
      · rw [odd, half]
        push_cast
        rw [show (n : Rat) + 1 / 2 - (n + 1) = -(1 / 2) by ring, abs_neg]
        norm_num

/-- No integer is nearer, and where another is as near, the answered one is even. -/
theorem roundHalfEven_nearest {q : Rat} (nonneg : 0 ≤ q) (k : Int) :
    |q - roundHalfEven q| ≤ |q - k| ∧
      (|q - roundHalfEven q| = |q - k| → k = roundHalfEven q ∨ roundHalfEven q % 2 = 0) := by
  obtain ⟨near, tie⟩ := roundHalfEven_spec nonneg
  by_cases same : k = roundHalfEven q
  · rw [same]
    exact ⟨le_rfl, fun _ => .inl rfl⟩
  have apart : (1 : Rat) ≤ |(k : Rat) - roundHalfEven q| := mod_cast Int.one_le_abs (sub_ne_zero.2 same)
  have triangle : |(k : Rat) - roundHalfEven q| ≤ |q - k| + |q - roundHalfEven q| := by
    rw [abs_sub_comm q k]
    exact abs_sub_le _ _ _
  exact ⟨by linarith, fun equal => .inr (tie (by linarith))⟩

theorem le_roundHalfEven {q : Rat} {n : Nat} (above : n ≤ q) : n ≤ roundHalfEven q := by
  have near := (abs_le.1 (roundHalfEven_spec (n.cast_nonneg.trans above)).1).2
  have : (n : Rat) < roundHalfEven q + 1 := by linarith
  exact Nat.lt_succ_iff.1 (mod_cast this)

theorem roundHalfEven_lt {q : Rat} {n : Nat} (nonneg : 0 ≤ q) (below : q + 1 / 2 < n) : roundHalfEven q < n := by
  have near := (abs_le.1 (roundHalfEven_spec nonneg).1).1
  have : (roundHalfEven q : Rat) < n := by linarith
  exact mod_cast this

/-- A number a half below an even one, or nearer, is not rounded to anything less. -/
theorem le_roundHalfEven_of_even {q : Rat} {n : Nat} (nonneg : 0 ≤ q) (even : n % 2 = 0) (above : n ≤ q + 1 / 2) :
    n ≤ roundHalfEven q := by
  obtain ⟨near, tie⟩ := roundHalfEven_spec nonneg
  by_contra less
  obtain ⟨_, distance⟩ := abs_le.1 near
  have step : (roundHalfEven q : Rat) + 1 ≤ n := mod_cast Nat.lt_of_not_le less
  have half : q - roundHalfEven q = 1 / 2 := by linarith
  have next : (n : Rat) = (roundHalfEven q + 1 : Nat) := by push_cast; linarith
  have nextNat : n = roundHalfEven q + 1 := mod_cast next
  have evenToo := tie (by rw [half]; norm_num)
  omega

/-! ### The number a pattern stands for -/

/-- The size of the number of a pattern without its sign, subnormal ones included. -/
def patternSize (n : Nat) : Rat :=
  if n / 2 ^ 23 % 256 = 0 then (n % 2 ^ 23 : Nat) / 2 ^ 149
  else (2 ^ 23 + (n % 2 ^ 23 : Nat)) * 2 ^ (n / 2 ^ 23 % 256) / 2 ^ 150

/-- The number a pattern stands for. -/
def patternValue (w : Word) : Rat := if w.msb then -patternSize w.toNat else patternSize w.toNat

theorem patternSize_subnormal {n : Nat} (small : n / 2 ^ 23 % 256 = 0) :
    patternSize n = (n % 2 ^ 23 : Nat) / 2 ^ 149 :=
  if_pos small

theorem patternSize_normal {n e : Nat} (exponent : n / 2 ^ 23 % 256 = e + 1) :
    patternSize n = (2 ^ 23 + n % 2 ^ 23 : Nat) * 2 ^ e / 2 ^ 149 := by
  rw [patternSize, if_neg (by omega), exponent]
  push_cast
  ring

/-- The sign bit takes no part in the size. -/
theorem patternSize_add_sign (n : Nat) : patternSize (2 ^ 31 + n) = patternSize n := by
  have exponent : (2 ^ 31 + n) / 2 ^ 23 % 256 = n / 2 ^ 23 % 256 := by omega
  have fraction : (2 ^ 31 + n) % 2 ^ 23 = n % 2 ^ 23 := by omega
  rw [patternSize, patternSize, exponent, fraction]

/-- A significand of 24 bits and the place of its last bit. -/
theorem patternSize_eq_significand (n : Nat) :
    ∃ m e : Nat, m < 2 ^ 24 ∧ patternSize n = m * 2 ^ e / 2 ^ 149 := by
  have fraction : n % 2 ^ 23 < 2 ^ 23 := Nat.mod_lt _ (by norm_num)
  rcases exponent : n / 2 ^ 23 % 256 with _ | e
  · exact ⟨n % 2 ^ 23, 0, by omega, by rw [patternSize_subnormal exponent, pow_zero, mul_one]⟩
  · exact ⟨2 ^ 23 + n % 2 ^ 23, e, by omega, patternSize_normal exponent⟩

/-- Exponent field and significand added up: also where rounding carried into the exponent. -/
theorem patternSize_add {e m : Nat} (subnormal : m < 2 ^ 23 → e = 0) (carried : m ≤ 2 ^ 24)
    (finite : e * 2 ^ 23 + m < 255 * 2 ^ 23) : patternSize (e * 2 ^ 23 + m) = m * 2 ^ e / 2 ^ 149 := by
  rcases lt_or_ge m (2 ^ 23) with small | large
  · obtain rfl := subnormal small
    rw [patternSize_subnormal (by omega), show (0 * 2 ^ 23 + m) % 2 ^ 23 = m by omega, pow_zero, mul_one]
  rcases carried.lt_or_eq with inside | rfl
  · rw [patternSize_normal (e := e) (by omega), show 2 ^ 23 + (e * 2 ^ 23 + m) % 2 ^ 23 = m by omega]
  · rw [patternSize_normal (e := e + 1) (by omega), show 2 ^ 23 + (e * 2 ^ 23 + 2 ^ 24) % 2 ^ 23 = 2 ^ 23 by omega]
    push_cast
    ring

/-! ### The unit in the last place -/

/-- The exponent field less 1 of a number without rounding; 0 for subnormal ones too. -/
def ulpExponent (x : Rat) : Nat := (max (floorLog2 x) (-126) + 126).toNat

/-- The distance between the patterns about `x`. -/
def ulp (x : Rat) : Rat := 2 ^ ulpExponent x / 2 ^ 149

/-- The significand of `x`, rounded. -/
def significand (x : Rat) : Nat := roundHalfEven (x / ulp x)

theorem ulp_pos (x : Rat) : 0 < ulp x := by
  rw [ulp]
  positivity

theorem pow2_eq_ulp (x : Rat) : pow2 (max (floorLog2 x) (-126) - 23) = ulp x := by
  have place : max (floorLog2 x) (-126) - 23 = (ulpExponent x : Int) - (149 : Nat) := by
    rw [ulpExponent]
    omega
  rw [pow2_eq_zpow, ulp, place, zpow_sub₀ (by norm_num), zpow_natCast, zpow_natCast]

theorem float32Magnitude_eq (x : Rat) :
    float32Magnitude x = min 0x7F800000 (ulpExponent x * 2 ^ 23 + significand x) := by
  rw [float32Magnitude, pow2_eq_ulp]
  rfl

theorem zpow_eq_ulp_mul {x : Rat} {e : Int} (exponent : e = max (floorLog2 x) (-126)) (n : Nat) :
    (2 : Rat) ^ (e - 23 + n) = 2 ^ n * ulp x := by
  rw [zpow_add₀ (by norm_num), zpow_natCast, mul_comm, exponent, ← pow2_eq_zpow, pow2_eq_ulp]

/-- The significand before rounding is below `2 ^ 24`. -/
theorem div_ulp_lt {x : Rat} (pos : 0 < x) : x / ulp x < 2 ^ 24 := by
  rw [div_lt_iff₀ (ulp_pos x), ← zpow_eq_ulp_mul rfl]
  exact (floorLog2_spec pos).2.trans_le (zpow_le_zpow_right₀ (by norm_num) (by omega))

/-- It has all its 24 bits where the exponent is not the least one. -/
theorem le_div_ulp {x : Rat} (pos : 0 < x) (normal : ulpExponent x ≠ 0) : 2 ^ 23 ≤ x / ulp x := by
  rw [ulpExponent] at normal
  rw [le_div_iff₀ (ulp_pos x), ← zpow_eq_ulp_mul rfl]
  exact (zpow_le_zpow_right₀ (by norm_num) (by omega)).trans (floorLog2_spec pos).1

theorem significand_le {x : Rat} (pos : 0 < x) : significand x ≤ 2 ^ 24 := by
  have below := div_ulp_lt pos
  exact Nat.lt_succ_iff.1 (roundHalfEven_lt (div_pos pos (ulp_pos x)).le (by push_cast; linarith))

theorem le_significand {x : Rat} (pos : 0 < x) (normal : ulpExponent x ≠ 0) : 2 ^ 23 ≤ significand x :=
  le_roundHalfEven (by push_cast; exact le_div_ulp pos normal)

/-- A pattern stands for a multiple of the unit, or for a number below all that have this unit. -/
theorem patternSize_multiple_or_lt (x : Rat) (n : Nat) :
    (∃ k : Nat, patternSize n = k * ulp x) ∨ (ulpExponent x ≠ 0 ∧ patternSize n < 2 ^ 23 * ulp x) := by
  obtain ⟨m, e, bits, size⟩ := patternSize_eq_significand n
  rw [size, ulp]
  rcases le_or_gt (ulpExponent x) e with fine | coarse
  · refine .inl ⟨m * 2 ^ (e - ulpExponent x), ?_⟩
    rw [← Nat.sub_add_cancel fine, Nat.add_sub_cancel, pow_add]
    push_cast
    ring
  · refine .inr ⟨by omega, ?_⟩
    have bitsRat : (m : Rat) < 2 ^ 24 := mod_cast bits
    calc (m : Rat) * 2 ^ e / 2 ^ 149 < 2 ^ 24 * 2 ^ e / 2 ^ 149 := by gcongr
      _ = 2 ^ 23 * (2 ^ (e + 1) / 2 ^ 149) := by ring
      _ ≤ 2 ^ 23 * (2 ^ ulpExponent x / 2 ^ 149) := by
        gcongr
        · norm_num
        · exact coarse

/-! ### Nearest -/

/-- Distances to multiples of the unit are distances to integers. -/
theorem abs_sub_mul_ulp (x k : Rat) : |x - k * ulp x| = |x / ulp x - k| * ulp x := by
  rw [← abs_of_pos (ulp_pos x), ← abs_mul, abs_of_pos (ulp_pos x), sub_mul, div_mul_cancel₀ _ (ulp_pos x).ne']

theorem significand_nearest_multiple {x : Rat} (pos : 0 < x) (k : Int) :
    |x - significand x * ulp x| ≤ |x - k * ulp x| ∧
      (|x - significand x * ulp x| = |x - k * ulp x| →
        k * ulp x = significand x * ulp x ∨ significand x % 2 = 0) := by
  obtain ⟨near, tie⟩ := roundHalfEven_nearest (div_pos pos (ulp_pos x)).le k
  rw [abs_sub_mul_ulp, abs_sub_mul_ulp]
  refine ⟨mul_le_mul_of_nonneg_right near (ulp_pos x).le, fun equal => ?_⟩
  rcases tie (mul_right_cancel₀ (ulp_pos x).ne' equal) with same | even
  · exact .inl (by rw [same]; rfl)
  · exact .inr even

theorem significand_nearer_than_below {x v : Rat} (pos : 0 < x) (normal : ulpExponent x ≠ 0)
    (below : v < 2 ^ 23 * ulp x) : |x - significand x * ulp x| < |x - v| := by
  have above : 2 ^ 23 * ulp x ≤ x := (le_div_iff₀ (ulp_pos x)).1 (le_div_ulp pos normal)
  calc |x - significand x * ulp x| ≤ |x - ((2 ^ 23 : Int) : Rat) * ulp x| := (significand_nearest_multiple pos _).1
    _ = x - 2 ^ 23 * ulp x := by push_cast; exact abs_of_nonneg (by linarith)
    _ < x - v := by linarith
    _ ≤ |x - v| := le_abs_self _

/-- No pattern of either sign is nearer. -/
theorem significand_nearest_pattern {x v : Rat} (pos : 0 < x) (n : Nat)
    (signed : v = patternSize n ∨ v = -patternSize n) :
    |x - significand x * ulp x| ≤ |x - v| ∧
      (|x - significand x * ulp x| = |x - v| → v = significand x * ulp x ∨ significand x % 2 = 0) := by
  rcases patternSize_multiple_or_lt x n with ⟨k, multiple⟩ | ⟨normal, below⟩
  · obtain ⟨z, rfl⟩ : ∃ z : Int, v = z * ulp x := by
      rcases signed with rfl | rfl
      · exact ⟨k, by rw [multiple]; rfl⟩
      · exact ⟨-k, by rw [multiple]; push_cast; ring⟩
    exact significand_nearest_multiple pos z
  · have small : v < 2 ^ 23 * ulp x := by
      have nonneg : 0 ≤ patternSize n := by
        obtain ⟨m, e, _, size⟩ := patternSize_eq_significand n
        rw [size]
        positivity
      rcases signed with rfl | rfl <;> linarith
    have nearer := significand_nearer_than_below pos normal small
    exact ⟨nearer.le, fun equal => absurd equal nearer.ne⟩

/-! ### The range of finite numbers -/

theorem lt_two_pow_of_ulpExponent_le {x : Rat} {n : Nat} (pos : 0 < x) (most : ulpExponent x ≤ n + 125) :
    x < 2 ^ n := by
  calc x < 2 ^ 24 * ulp x := (div_lt_iff₀ (ulp_pos x)).1 (div_ulp_lt pos)
    _ ≤ 2 ^ 24 * (2 ^ (n + 125) / 2 ^ 149) := by
      rw [ulp]
      gcongr
      norm_num
    _ = 2 ^ n := by ring

theorem two_pow_le_of_le_ulpExponent {x : Rat} {n : Nat} (pos : 0 < x) (least : n + 126 ≤ ulpExponent x) :
    2 ^ n ≤ x := by
  calc (2 : Rat) ^ n = 2 ^ 23 * (2 ^ (n + 126) / 2 ^ 149) := by ring
    _ ≤ 2 ^ 23 * ulp x := by
      rw [ulp]
      gcongr
      norm_num
    _ ≤ x := (le_div_iff₀ (ulp_pos x)).1 (le_div_ulp pos (by omega))

/-- Below the number that rounds to infinity the pattern is finite. -/
theorem pattern_lt {x : Rat} (pos : 0 < x) (inRange : x < 2 ^ 128 - 2 ^ 103) :
    ulpExponent x * 2 ^ 23 + significand x < 255 * 2 ^ 23 := by
  have carried := significand_le pos
  have exponent : ulpExponent x ≤ 253 := by
    by_contra large
    have := two_pow_le_of_le_ulpExponent (n := 128) pos (by omega)
    norm_num at this inRange
    linarith
  rcases exponent.lt_or_eq with lower | top
  · omega
  have significant : significand x < 2 ^ 24 := by
    refine roundHalfEven_lt (div_pos pos (ulp_pos x)).le ?_
    rw [← lt_sub_iff_add_lt, div_lt_iff₀ (ulp_pos x), ulp, top]
    norm_num at inRange ⊢
    linarith
  omega

/-- From that number on it is not. -/
theorem le_pattern {x : Rat} (outOfRange : 2 ^ 128 - 2 ^ 103 ≤ x) :
    255 * 2 ^ 23 ≤ ulpExponent x * 2 ^ 23 + significand x := by
  have pos : 0 < x := lt_of_lt_of_le (by norm_num) outOfRange
  have exponent : 253 ≤ ulpExponent x := by
    by_contra small
    have := lt_two_pow_of_ulpExponent_le (n := 127) pos (by omega)
    norm_num at this outOfRange
    linarith
  have significant := le_significand pos (by omega)
  rcases exponent.lt_or_eq with higher | top
  · omega
  have full : 2 ^ 24 ≤ significand x := by
    refine le_roundHalfEven_of_even (div_pos pos (ulp_pos x)).le (by norm_num) ?_
    rw [← sub_le_iff_le_add, le_div_iff₀ (ulp_pos x), ulp, ← top]
    norm_num at outOfRange ⊢
    linarith
  omega

/-! ### The pattern of a positive number -/

theorem float32Magnitude_le (x : Rat) : float32Magnitude x ≤ 0x7F800000 := by
  rw [float32Magnitude_eq]
  exact min_le_left _ _

theorem float32Magnitude_of_finite {x : Rat} (pos : 0 < x) (inRange : x < 2 ^ 128 - 2 ^ 103) :
    float32Magnitude x = ulpExponent x * 2 ^ 23 + significand x := by
  have := pattern_lt pos inRange
  rw [float32Magnitude_eq]
  exact min_eq_right (by omega)

theorem float32Magnitude_of_overflow {x : Rat} (outOfRange : 2 ^ 128 - 2 ^ 103 ≤ x) :
    float32Magnitude x = 0x7F800000 := by
  have := le_pattern outOfRange
  rw [float32Magnitude_eq]
  exact min_eq_left (by omega)

theorem patternSize_float32Magnitude {x : Rat} (pos : 0 < x) (inRange : x < 2 ^ 128 - 2 ^ 103) :
    patternSize (float32Magnitude x) = significand x * ulp x := by
  rw [float32Magnitude_of_finite pos inRange, ulp, ← mul_div_assoc]
  refine patternSize_add (fun small => ?_) (significand_le pos) (pattern_lt pos inRange)
  by_contra normal
  exact absurd (le_significand pos normal) (by omega)

/-! ### The sign -/

/-- A set sign bit above a pattern without one. -/
theorem toNat_sign_or {n : Nat} (bits : n < 2 ^ 31) :
    ((0x80000000 : Word) ||| BitVec.ofNat 32 n).toNat = 2 ^ 31 + n := by
  have word : (BitVec.ofNat 32 n).toNat = n := Nat.mod_eq_of_lt (by omega)
  rw [BitVec.toNat_or, word, show (0x80000000 : Word).toNat = 2 ^ 31 * 1 from rfl,
    ← Nat.two_pow_add_eq_or_of_lt bits, mul_one]

/-- The sign bit and the pattern of the size. -/
theorem toNat_float32 {x : Rat} (nonzero : x ≠ 0) :
    (float32 x).toNat = (if x < 0 then 2 ^ 31 else 0) + float32Magnitude |x| := by
  have finite := float32Magnitude_le |x|
  rw [float32, if_neg nonzero]
  split
  case isTrue negative =>
    rw [← abs_of_neg negative]
    exact toNat_sign_or (by omega)
  case isFalse nonneg =>
    rw [← abs_of_nonneg (not_lt.1 nonneg), zero_add, abs_abs, BitVec.toNat_ofNat]
    exact Nat.mod_eq_of_lt (by omega)

theorem msb_float32 (x : Rat) : (float32 x).msb = decide (x < 0) := by
  by_cases zero : x = 0
  · rw [zero]
    rfl
  have finite := float32Magnitude_le |x|
  rw [BitVec.msb_eq_decide, toNat_float32 zero]
  by_cases negative : x < 0
  · rw [if_pos negative, decide_eq_true negative, decide_eq_true_eq]
    omega
  · rw [if_neg negative, decide_eq_false negative, decide_eq_false_iff_not]
    omega

theorem patternValue_float32 {x : Rat} (nonzero : x ≠ 0) :
    patternValue (float32 x) =
      if x < 0 then -patternSize (float32Magnitude |x|) else patternSize (float32Magnitude |x|) := by
  rw [patternValue, msb_float32, toNat_float32 nonzero]
  by_cases negative : x < 0
  · simp only [negative, decide_true, if_true, patternSize_add_sign]
  · simp only [negative, decide_false, if_false, zero_add, Bool.false_eq_true]

/-- Turning the sign of a negative number and of the value of a pattern keeps their distance. -/
theorem exists_abs_sub_patternValue (x : Rat) (w : Word) :
    ∃ v, (v = patternSize w.toNat ∨ v = -patternSize w.toNat) ∧ |x - patternValue w| = abs (|x| - v) ∧
      patternValue w = if x < 0 then -v else v := by
  have signed : patternValue w = patternSize w.toNat ∨ patternValue w = -patternSize w.toNat := by
    rw [patternValue]
    split
    · exact .inr rfl
    · exact .inl rfl
  by_cases negative : x < 0
  · refine ⟨-patternValue w, ?_, ?_, by rw [if_pos negative, neg_neg]⟩
    · rcases signed with plus | minus
      · exact .inr (by rw [plus])
      · exact .inl (by rw [minus, neg_neg])
    · rw [abs_of_neg negative, ← abs_neg]
      congr 1
      ring
  · exact ⟨patternValue w, signed, by rw [abs_of_nonneg (not_lt.1 negative)], by rw [if_neg negative]⟩

/-! ### The rounding -/

/-- No pattern is nearer than the answered one, which is even where another is as near. -/
theorem float32_nearest {x : Rat} (inRange : |x| < 2 ^ 128 - 2 ^ 103) (w : Word) :
    |x - patternValue (float32 x)| ≤ |x - patternValue w| ∧
      (|x - patternValue (float32 x)| = |x - patternValue w| →
        patternValue w = patternValue (float32 x) ∨ (float32 x).toNat % 2 = 0) := by
  by_cases zero : x = 0
  · have here : patternValue (float32 0) = 0 := by
      rw [patternValue, show float32 0 = 0 from rfl, show (0 : Word).msb = false from rfl]
      exact (patternSize_subnormal (n := 0) rfl).trans (by norm_num)
    rw [zero, here, sub_zero, abs_zero]
    exact ⟨abs_nonneg _, fun _ => .inr rfl⟩
  have pos : 0 < |x| := abs_pos.2 zero
  obtain ⟨v, signed, distance, value⟩ := exists_abs_sub_patternValue x w
  obtain ⟨near, tie⟩ := significand_nearest_pattern pos w.toNat signed
  have own : |x - patternValue (float32 x)| = abs (|x| - significand |x| * ulp |x|) := by
    rw [patternValue_float32 zero, patternSize_float32Magnitude pos inRange]
    split
    case isTrue negative =>
      rw [abs_of_neg negative, ← abs_neg]
      congr 1
      ring
    case isFalse nonneg => rw [abs_of_nonneg (not_lt.1 nonneg)]
  rw [own, distance]
  refine ⟨near, fun equal => (tie equal).imp (fun same => ?_) fun even => ?_⟩
  · rw [value, patternValue_float32 zero, patternSize_float32Magnitude pos inRange, same]
  · rw [toNat_float32 zero, float32Magnitude_of_finite pos inRange]
    split <;> omega

/-- A finite number has no infinity's exponent. -/
theorem exponent_float32 {x : Rat} (inRange : |x| < 2 ^ 128 - 2 ^ 103) : (float32 x).toNat / 2 ^ 23 % 256 ≠ 255 := by
  by_cases zero : x = 0
  · rw [zero]
    decide
  have pattern := pattern_lt (abs_pos.2 zero) inRange
  rw [toNat_float32 zero, float32Magnitude_of_finite (abs_pos.2 zero) inRange]
  split <;> omega

theorem float32_of_overflow {x : Rat} (outOfRange : 2 ^ 128 - 2 ^ 103 ≤ |x|) :
    float32 x = if x < 0 then 0xFF800000 else 0x7F800000 := by
  have zero : x ≠ 0 := abs_pos.1 (lt_of_lt_of_le (by norm_num) outOfRange)
  apply BitVec.eq_of_toNat_eq
  rw [toNat_float32 zero, float32Magnitude_of_overflow outOfRange]
  split <;> rfl

/-- Settles O14. -/
theorem float32IsNearest : Obligations.Float32IsNearest := fun x =>
  ⟨fun zero => by rw [zero]; rfl, msb_float32 x,
    fun inRange => ⟨exponent_float32 inRange, fun w _ => float32_nearest inRange w⟩, float32_of_overflow⟩

end Sys2Proof.Machine
end
